-- ==== Sys2Proof/Word.lean ====
section
/-! DEFINITION. The numbers that name the part's repeated blocks, and the fixed-length tables that hold their state:
24 outlets, 6 branches, 3 feeds and 2 links (00_scope.md, "Numbers and names"). -/

namespace Sys2Proof

/-- A byte on a link. -/
abbrev Byte := BitVec 8

/-- An outlet number, 0 to 23. -/
abbrev Outlet := Fin 24

/-- A branch number, 0 to 5. -/
abbrev Branch := Fin 6

/-- A feed number, 0 to 2. -/
abbrev Feed := Fin 3

/-- A management link. -/
inductive Link
  | a
  | b
  deriving DecidableEq, Repr

/-- The link that a rule speaking of "link X" calls "the other link". -/
def Link.other : Link → Link
  | .a => .b
  | .b => .a

/-- Entry `k` of a table. -/
def look {α : Type} {n : Nat} (v : Vector α n) (k : Fin n) : α := v[k]

/-- The table with entry `k` replaced. -/
def put {α : Type} {n : Nat} (v : Vector α n) (k : Fin n) (x : α) : Vector α n := v.set k.val x k.isLt

/-- A table with the same entry everywhere. -/
def fill {α : Type} (n : Nat) (x : α) : Vector α n := Vector.replicate n x

/-- The table of the outlets' values of a function. -/
def tab24 {α : Type} (f : Outlet → α) : Vector α 24 :=
  #v[f 0, f 1, f 2, f 3, f 4, f 5, f 6, f 7, f 8, f 9, f 10, f 11, f 12, f 13, f 14, f 15, f 16, f 17, f 18, f 19,
     f 20, f 21, f 22, f 23]

/-- The table of the branches' values of a function. -/
def tab6 {α : Type} (f : Branch → α) : Vector α 6 := #v[f 0, f 1, f 2, f 3, f 4, f 5]

/-- The table of the feeds' values of a function. -/
def tab3 {α : Type} (f : Feed → α) : Vector α 3 := #v[f 0, f 1, f 2]

/-- One value for each link. -/
structure PerLink (α : Type) where
  a : α
  b : α
  deriving DecidableEq, Repr

/-- The value of link `x`. -/
def PerLink.get {α : Type} (v : PerLink α) : Link → α
  | .a => v.a
  | .b => v.b

/-- The pair with link `x`'s value replaced. -/
def PerLink.set {α : Type} (v : PerLink α) (x : Link) (y : α) : PerLink α :=
  match x with
  | .a => { v with a := y }
  | .b => { v with b := y }

/-- All outlets, ascending. -/
def allOutlets : List Outlet :=
  [0, 1, 2, 3, 4, 5, 6, 7, 8, 9, 10, 11, 12, 13, 14, 15, 16, 17, 18, 19, 20, 21, 22, 23]

/-- All branches, ascending. -/
def allBranches : List Branch := [0, 1, 2, 3, 4, 5]

/-- All feeds, ascending. -/
def allFeeds : List Feed := [0, 1, 2]

/-- Both links. -/
def allLinks : List Link := [.a, .b]

end Sys2Proof
end

