-- ==== Sys2Proof/Syntax.lean ====
section
/-! DEFINITION. The commands of the part: one constructor for each row of spec/opcode_table.json, in the table's order,
with the operands the row's rule gives it. -/

namespace Sys2Proof

/-- The levels of one sample arrival (R3): a raw code for each analogue channel, the level of each sense line
(`true` is active), the level of each breaker line (`true` is high, the breaker open) and, for R170, whether each
link's SCL is low. -/
structure SampleSet where
  volts   : Vector (BitVec 16) 3
  amps    : Vector (BitVec 16) 24
  sense   : Vector Bool 24
  breaker : Vector Bool 6
  sclLow  : PerLink Bool
  deriving DecidableEq, Repr

/-- One block's turn at a sample arrival. The spec leaves the order of the turns open wherever it says that either of two
happenings "may be taken first" (00_scope.md, "Time"; R173). The stages of a close (R21) are turns of their own, so that the
orders of R99, R103, R127 and R173 can be named. -/
inductive Turn
  | feedState (f : Feed)         -- the FEED_STATE event of the tracker's change of state (R23)
  | closes (f : Feed)            -- results, energy and branch sums of one feed's close (R21 stages 3 to 5)
  | evidence (k : Outlet)        -- the monitor takes its window result (R143, R146)
  | overcurrent (b : Branch)     -- the OVERCURRENT cause at a branch-sum stage (R125)
  | trip (k : Outlet)            -- the trip run and trip at a branch-sum stage (R126)
  | admission (b : Branch)       -- the stagger count and the head's test at a branch-sum stage (R99, R101)
  | breakerCause (b : Branch)    -- R128
  | returns (b : Branch)         -- expiry of a restart wait, off holds that end, the restoration pass (R133, R78, R135)
  | settles (b : Branch)         -- the entry into NORMAL of a branch whose last victims the pass has taken (R136)
  | grace (k : Outlet)           -- R151
  | driver (k : Outlet)          -- the end of a pulse or of a verify window, discovery (R113, R114, R121)
  | leaving (k : Outlet)         -- the step feed's leaving TRACKING (R110, R113, R115)
  | request (k : Outlet)         -- the driver's coil request, taken ahead of the arbiter's last round (R112)
  | monitor (k : Outlet)         -- silence, verdict, placement (R141, R145, R148)
  | sweep (x : Link)             -- R158, R160
  | stall (x : Link)             -- R170
  | timeout (x : Link)           -- R171
  deriving DecidableEq, Repr

/-- The order in which one arrival's happenings are taken: the turns taken ahead of the others; the pass of a branch gives its
`settles` its place, whatever stands here. DESIGN CHOICE (assumption 1): the order is an operand, so that a claim about
SAMPLE_ARRIVAL speaks of every order. -/
structure ArrivalOrder where
  first : List Turn
  deriving DecidableEq, Repr

/-- The commands. A request's `payload` is the payload of its frame (R184, R185). -/
inductive Instr
  /-- SAMPLE_ARRIVAL, R3. -/
  | sampleArrival (set : SampleSet) (order : ArrivalOrder)
  /-- POWER_ON_RESET, R4; `straps` is ADDR1 and ADDR0 (R165). -/
  | powerOnReset (straps : BitVec 2)
  /-- PIN_RESET, R4: RESET_N goes low. -/
  | pinReset
  /-- PIN_RESET_RELEASE, R4: RESET_N returns high; the straps are read (R165). -/
  | pinResetRelease (straps : BitVec 2)
  /-- BREAKER_LEVEL_CHANGE, R10. -/
  | breakerLevelChange (b : Branch)
  /-- SECOND_TICK, R13. -/
  | secondTick
  /-- SYNTHETIC_CYCLE, R20. -/
  | syntheticCycle (f : Feed)
  /-- FREQUENCY_RESULT, R27. -/
  | frequencyResult (f : Feed)
  /-- WINDOW_CLOSE, R25. -/
  | windowClose (f : Feed)
  /-- OVERCURRENT_ACTIVE, R125. -/
  | overcurrentActive (b : Branch)
  /-- OUTLET_TRIP, R126. -/
  | outletTrip (k : Outlet)
  /-- AUTOMATIC_RESTART, R133. -/
  | automaticRestart (b : Branch)
  /-- RESTART_EXPIRY, R133. -/
  | restartExpiry (b : Branch)
  /-- RESTORATION_PASS, R135. -/
  | restorationPass (b : Branch)
  /-- ADMISSION, R101. -/
  | admission (b : Branch)
  /-- FIRST_STEP, R75. -/
  | firstStep (k : Outlet)
  /-- OFF_HOLD_END, R78. -/
  | offHoldEnd (k : Outlet)
  /-- FIRE_PHASE, R110. -/
  | firePhase (k : Outlet)
  /-- SLOT_GRANT, R111. -/
  | slotGrant
  /-- PULSE_END, R113. -/
  | pulseEnd (k : Outlet)
  /-- VERIFY_WINDOW_END, R114. -/
  | verifyWindowEnd (k : Outlet)
  /-- VERDICT, R145. -/
  | verdict (k : Outlet)
  /-- MONITOR_PLACEMENT, R148. -/
  | monitorPlacement (k : Outlet)
  /-- GRACE_EXPIRY, R151. -/
  | graceExpiry (k : Outlet)
  /-- SWEEP_RESUME, R160. -/
  | sweepResume (x : Link)
  /-- TRANSACTION_START, R165: a START or repeated START on link `x` with an address and a direction. -/
  | transactionStart (x : Link) (address : BitVec 7) (read : Bool)
  /-- FRAME_BYTE, R166: one byte on link `x`. -/
  | frameByte (x : Link) (byte : Byte)
  /-- BAD_FRAME, R167: a write transaction on link `x` carrying `bytes`, which make no valid frame. -/
  | badFrame (x : Link) (bytes : List Byte)
  /-- BAD_COMMAND, R167: a valid frame on link `x` whose command `code` names no request. -/
  | badCommand (x : Link) (code : Byte) (payload : List Byte)
  /-- READ_TRANSACTION, R168: a read transaction of `count` bytes on link `x`. -/
  | readTransaction (x : Link) (count : Nat)
  /-- BUS_STALL, R170. -/
  | busStall (x : Link)
  /-- LINK_TIMEOUT, R171. -/
  | linkTimeout (x : Link)
  /-- STATUS, R176. -/
  | status (x : Link) (payload : List Byte)
  /-- OUTLET_READ, R68. -/
  | outletRead (x : Link) (payload : List Byte)
  /-- FEED_READ, R29. -/
  | feedRead (x : Link) (payload : List Byte)
  /-- BRANCH_READ, R137. -/
  | branchRead (x : Link) (payload : List Byte)
  /-- EVENTS_READ, R174. -/
  | eventsRead (x : Link) (payload : List Byte)
  /-- ENERGY_READ, R64. -/
  | energyRead (x : Link) (payload : List Byte)
  /-- SETTING_READ, R180. -/
  | settingRead (x : Link) (payload : List Byte)
  /-- SWITCH, R72. -/
  | switch (x : Link) (payload : List Byte)
  /-- CANCEL, R80. -/
  | cancel (x : Link) (payload : List Byte)
  /-- HOLD, R88. -/
  | hold (x : Link) (payload : List Byte)
  /-- RELEASE, R89. -/
  | release (x : Link) (payload : List Byte)
  /-- HEARTBEAT, R142. -/
  | heartbeat (x : Link) (payload : List Byte)
  /-- SNAPSHOT, R62. -/
  | snapshot (x : Link) (payload : List Byte)
  /-- SHED, R129. -/
  | shed (x : Link) (payload : List Byte)
  /-- SHED_CLEAR, R134. -/
  | shedClear (x : Link) (payload : List Byte)
  /-- FAULT_CLEAR, R119. -/
  | faultClear (x : Link) (payload : List Byte)
  /-- MONITOR_RESET, R152. -/
  | monitorReset (x : Link) (payload : List Byte)
  /-- SETTING_WRITE, R180. -/
  | settingWrite (x : Link) (payload : List Byte)
  /-- SWEEP, R157. -/
  | sweep (x : Link) (payload : List Byte)
  /-- SWEEP_ABORT, R162. -/
  | sweepAbort (x : Link) (payload : List Byte)
  /-- LINK_RESET, R175. -/
  | linkReset (x : Link) (payload : List Byte)
  deriving DecidableEq, Repr

end Sys2Proof
end

