-- ==== Sys2Proof/Config.lean ====
section
/-! DEFINITION. The constants of the part. The spec fixes every one of them; it leaves no value to the implementation
and no result undefined, so that there is no free constant here. -/

namespace Sys2Proof.Config

/-- Sample arrivals in a second (00_scope.md, "Time"; R13). -/
def samplesPerSecond : Nat := 7680

/-- WH_RAW, the product units of one watt-hour (R2). -/
def whRaw : Nat := 1811939328000

/-- The highest Wh count, 2^40 - 1 (R58). -/
def whMax : Nat := 1099511627775

/-- The samples of a synthetic cycle (R20), and the length of the sense window (R8). -/
def syntheticLength : Nat := 192

/-- The least sample count of a cycle that a crossing may close (R17). -/
def minCycle : Nat := 112

/-- The sense age at which an outlet is no longer live (R8). -/
def senseAgeMax : Nat := 192

/-- The differing arrivals that change a debounced breaker level (R10). -/
def debounceLength : Nat := 64

/-- The in-range cycles that make a feed TRACKING (R22). -/
def acquisitionLength : Nat := 4

/-- The places of the Action Queue (R70). -/
def queueSize : Nat := 16

/-- The places of an event queue (R173). -/
def eventQueueSize : Nat := 16

/-- The coil slots (R111). -/
def coilSlots : Nat := 4

/-- The arrivals skipped at the start of a verify window (R114). -/
def verifySkip : Nat := 16

/-- The arrivals observed in a verify window (R114). -/
def verifyObserve : Nat := 192

/-- The samples of one unit of the monitor window setting (09, "window length"). -/
def monitorUnit : Nat := 3840

/-- The arrivals with SCL low that make a stall (R170). -/
def stallLength : Nat := 231

/-- The limit of the 8-bit counts that hold (R99, R125, R143, R171). -/
def byteMax : Nat := 255

/-- The target address without the straps (R165). -/
def baseAddress : BitVec 7 := 0x58

end Sys2Proof.Config
end

