-- ==== Sys2Proof/Machine/State.lean ====
section
/-! DEFINITION. Everything the part holds, as plain data, and its values right after a power-on reset. Each record names
the rule of spec/ that gives its fields; INVENTORY.md lists every field with its width and reset value. -/

namespace Sys2Proof.Machine

/-- Why a command stops the part with a fault. The spec gives no command that does; the type is empty (safe: no statement
can be about a fault). -/
inductive Fault
  deriving DecidableEq, Repr

/-- Why the model has no meaning for a command. -/
inductive Refusal
  /-- Raised by `exec`'s arm of a command that has no meaning in the model; safe. No arm raises it. -/
  | notModelled (mnemonic : String)
  deriving DecidableEq, Repr

/-! ### Time and signal inputs (chapter 1) -/

/-- A timestamp: whole seconds and the sample-in-second (R14). -/
structure Timestamp where
  seconds : BitVec 32
  sub     : Nat
  deriving DecidableEq, Repr

/-- What the Sample Front End hands to the blocks for one arrival (R3); the clip indications hold until the next (R6). -/
structure Handed where
  volts   : Vector Int 3
  vClip   : Vector Bool 3
  amps    : Vector Int 24
  aClip   : Vector Bool 24
  sense   : Vector Bool 24
  breaker : Vector Bool 6
  deriving DecidableEq, Repr

/-- A breaker's level (R10). -/
inductive BreakerLevel
  | opened
  | closed
  deriving DecidableEq, Repr

/-- The debounce state of one breaker line; `level` is absent until established (R11). -/
structure Breaker where
  level : Option BreakerLevel
  run   : Nat
  deriving DecidableEq, Repr

/-! ### Feed trackers (chapter 2) -/

/-- The feed states (R22), in the order of their codes (R190). -/
inductive FeedState
  | noLine
  | acquiring
  | tracking
  | lost
  deriving DecidableEq, Repr

/-- How an open cycle began (R19, R20, R30). -/
inductive CycleStart
  | reset
  | crossing
  | synthetic
  deriving DecidableEq, Repr

/-- The open cycle of a feed (chapter 2, table of the tracker's state). -/
structure OpenCycle where
  n     : Nat
  sv    : Nat
  clip  : Bool
  began : CycleStart
  deriving DecidableEq, Repr

/-- The window in progress of a feed (R25), with the skip mark of R26. -/
structure OpenWindow where
  count : Nat
  sv    : Nat
  total : Nat
  clip  : Bool
  synthetic : Bool
  skip  : Bool
  deriving DecidableEq, Repr

/-- A feed cycle result (R21). -/
structure FeedCycle where
  vcV : Nat
  n   : Nat
  clip : Bool
  synthetic : Bool
  deriving DecidableEq, Repr

/-- A feed window result (R25). -/
structure FeedWindow where
  vcV : Nat
  total  : Nat
  length : Nat
  clip : Bool
  synthetic : Bool
  deriving DecidableEq, Repr

/-- A frequency result (R27). -/
structure Frequency where
  mHz : Nat
  divider : Nat
  stamp : Timestamp
  deriving DecidableEq, Repr

/-- How a cycle was closed (R19, R20). -/
inductive CloseKind
  | crossing
  | synthetic
  deriving DecidableEq, Repr

/-- What the tracker directs for the closed cycle (R43). -/
inductive WindowDirection
  | add
  | addAndClose
  | leaveOut
  deriving DecidableEq, Repr

/-- The tracker's notice of a close, handed to the meters (R21 stage 3, R31). -/
structure CloseNotice where
  kind   : CloseKind
  n      : Nat
  window : WindowDirection
  deriving DecidableEq, Repr

/-- What the tracker hands on for the arrival in hand (R23, R24, R31): the close, the state left at a change of feed state, and
whether the change is one into or out of TRACKING; empty between commands. -/
structure Notice where
  close : Option CloseNotice
  left : Option FeedState
  enteredTracking : Bool
  leftTracking : Bool
  deriving DecidableEq, Repr

/-- A Feed Tracker (chapter 2). -/
structure Tracker where
  state : FeedState
  armed : Bool
  prevV : Int
  cyc   : OpenCycle
  phase : Nat
  tp    : Nat
  lastCrossing : Option (BitVec 40)
  acquired : Nat
  win   : OpenWindow
  anchor : Option (BitVec 40)
  inRange : Nat
  cycleResult  : Option FeedCycle
  windowResult : Option FeedWindow
  frequency    : Option Frequency
  notice : Notice
  deriving DecidableEq, Repr

/-! ### Outlet meters and energy (chapters 3 and 4) -/

/-- A cycle result (R40). -/
structure CycleResult where
  pmW  : Int
  imA  : Nat
  smVA : Nat
  pf   : Int
  n    : Nat
  clip : Bool
  noLoad : Bool
  synthetic : Bool
  stamp : Timestamp
  deriving DecidableEq, Repr

/-- A window result (R44). -/
structure WindowResult where
  pmW  : Int
  imA  : Nat
  smVA : Nat
  pf   : Int
  total  : Nat
  length : Nat
  clip : Bool
  noLoad : Bool
  synthetic : Bool
  stamp : Timestamp
  deriving DecidableEq, Repr

/-- An Outlet Meter less its energy registers (chapter 3). `waiting` is the membership WAITING. -/
structure Meter where
  sp   : Int
  si   : Nat
  clip : Bool
  skip : Bool
  wsp  : Int
  wsi  : Nat
  wclip : Bool
  waiting : Bool
  cycleResult  : Option CycleResult
  windowResult : Option WindowResult
  remembered : Nat
  deriving DecidableEq, Repr

/-- The four energy registers of an outlet (R55). -/
structure Energy where
  importWh  : Nat
  importRem : Nat
  exportWh  : Nat
  exportRem : Nat
  deriving DecidableEq, Repr

/-- A filled snapshot bank (R62). -/
structure Bank where
  sequence : BitVec 16
  stamp    : Timestamp
  copies   : Vector Energy 24
  deriving DecidableEq, Repr

/-- An Energy Snapshot Bank with its link's sequence counter (R62, R66). -/
structure BankPort where
  bank    : Option Bank
  counter : BitVec 16
  deriving DecidableEq, Repr

/-! ### Action queue (chapter 5) -/

/-- The kinds of an entry (R72), in the order of their codes. -/
inductive Kind
  | opening
  | closing
  | cycle
  deriving DecidableEq, Repr

/-- The origins of an entry (R71), in the order of their codes from 1. -/
inductive Origin
  | linkA
  | linkB
  | monitor
  | restore
  deriving DecidableEq, Repr

/-- The phases of an entry (section 5.4), in the order of their codes. -/
inductive Phase
  | queued
  | opening
  | offHold
  | waitAdmit
  | closing
  deriving DecidableEq, Repr

/-- The results of an entry (R81), in the order of their codes. -/
inductive ActionResult
  | done
  | failed
  | cancelled
  | superseded
  | preempted
  | cut
  deriving DecidableEq, Repr

/-- The result details of ACTION_ENDED (R81, R190), in the order of their codes. -/
inductive ResultDetail
  | none
  | noPulse
  | unverified
  | stuckOpen
  | stuckClosed
  deriving DecidableEq, Repr

/-- An Action Queue entry (section 5.2). `offTime` is 0 where the kind has none; `begun` is R76's. -/
structure Entry where
  id      : Byte
  outlet  : Outlet
  kind    : Kind
  origin  : Origin
  sweep   : Bool
  tag     : Option Byte
  offTime : Nat
  phase   : Phase
  offHold : Nat
  preempt : Bool
  begun   : Bool
  deriving DecidableEq, Repr

/-! ### Close sequencer (chapter 6) -/

/-- Why the head of a waiting line is not admitted (R97), in the order of the codes. -/
inductive BlockReason
  | none
  | state
  | inProgress
  | stagger
  | headroom
  deriving DecidableEq, Repr

/-- A Close Sequencer (chapter 6). -/
structure Sequencer where
  line : List Byte
  inProgress : Option Byte
  pulseMark : Bool
  stagger : Nat
  reason : BlockReason
  deriving DecidableEq, Repr

/-! ### Relay driver (chapter 7) -/

/-- The driver states, in the order of their codes. -/
inductive DriverState
  | idle
  | waitPhase
  | waitSlot
  | pulse
  | verify
  | faulted
  deriving DecidableEq, Repr

/-- The contact states, in the order of their codes. -/
inductive Contact
  | opened
  | closed
  | unknown
  deriving DecidableEq, Repr

/-- A relay fault (R118). -/
inductive RelayFault
  | stuckOpen
  | stuckClosed
  deriving DecidableEq, Repr

/-- The direction of a step. -/
inductive Direction
  | close
  | opening
  deriving DecidableEq, Repr

/-- The modes of an urgent open (section 7.6). -/
inductive UrgentMode
  | openNow
  | openSync
  deriving DecidableEq, Repr

/-- The source of a step (chapter 7, "Step in hand"). -/
inductive StepSource
  | entry
  | urgent (mode : UrgentMode)
  deriving DecidableEq, Repr

/-- A step in hand. `feedLeft` records that the step feed left TRACKING since the pulse started (R113). -/
structure Step where
  direction : Direction
  source : StepSource
  feed  : Feed
  sync  : Bool
  delay : Nat
  pulse : Nat
  retry : Nat
  metRising  : Bool
  metFalling : Bool
  feedLeft : Bool
  deriving DecidableEq, Repr

/-- What the driver does with the two coil pins of its outlet (R113). -/
inductive Coil
  | released
  | set
  | reset
  deriving DecidableEq, Repr

/-- A Relay Driver (chapter 7). `waitingUrgent` is the urgent open that waits for a close pulse's end (R120). -/
structure Driver where
  state   : DriverState
  contact : Contact
  fault   : Option RelayFault
  step    : Option Step
  pulseCount : Nat
  skip    : Nat
  observe : Nat
  activeSeen : Bool
  coil    : Coil
  waitingUrgent : Option UrgentMode
  deriving DecidableEq, Repr

/-! ### Branch protection (chapter 8) -/

/-- The branch states, in the order of their codes. -/
inductive BranchState
  | normal
  | shed
  | restartWait
  | restoring
  deriving DecidableEq, Repr

/-- The causes, in the order of their codes. -/
inductive Cause
  | overcurrent
  | breaker
  | manual
  deriving DecidableEq, Repr

/-- A Branch Protection block (chapter 8). -/
structure Protection where
  state : BranchState
  overcurrent : Bool
  breaker : Bool
  manual  : Bool
  sum     : Option Nat
  overRun : Nat
  victims : Vector Bool 24
  restartCount : Nat
  restartTimer : Nat
  manualMark : Bool
  exhaustedMark : Bool
  deriving DecidableEq, Repr

/-! ### Hang monitor (chapter 9) -/

/-- The monitor states, in the order of their codes. -/
inductive MonitorState
  | off
  | idle
  | watching
  | suspect
  | expired
  | reported
  | grace
  | gaveUp
  deriving DecidableEq, Repr

/-- A Hang Monitor (chapter 9). `spread` is the minimum and maximum, absent while `evidence` is 0. -/
structure Monitor where
  state : MonitorState
  silence : Nat
  retries : Nat
  evidence : Nat
  spread : Option (Int × Int)
  placementPending : Bool
  activeMark : Bool
  grace : Nat
  deriving DecidableEq, Repr

/-! ### Sweeps (chapter 10) -/

/-- The direction of a sweep. -/
inductive SweepDirection
  | up
  | down
  deriving DecidableEq, Repr

/-- The metrics of R158, in the order of their codes. -/
inductive Metric
  | contact
  | cycleImA
  | windowImA
  | windowPmW
  | monitorState
  | branch
  | heldBy
  deriving DecidableEq, Repr

/-- The relations of R158, in the order of their codes. -/
inductive Relation
  | eq
  | ne
  | lt
  | ge
  deriving DecidableEq, Repr

/-- The sweep actions of R159, in the order of their codes. -/
inductive SweepAction
  | none
  | opening
  | closing
  | cycle
  | hold
  | release
  | heartbeat
  deriving DecidableEq, Repr

/-- The stop modes. -/
inductive StopMode
  | all
  | first
  deriving DecidableEq, Repr

/-- The stop reasons. -/
inductive StopReason
  | countDone
  | firstMatch
  | aborted
  deriving DecidableEq, Repr

/-- A sweep context (chapter 10). -/
structure SweepContext where
  start : Outlet
  direction : SweepDirection
  metric : Metric
  relation : Relation
  value : Int
  action : SweepAction
  offTime : Nat
  stop : StopMode
  clamped : Bool
  cursor : Outlet
  remaining : Nat
  matched : Nat
  accepted : Nat
  refused : Nat
  last : Option Outlet
  suspended : Bool
  deriving DecidableEq, Repr

/-- A sweep's result record (R161). -/
structure SweepResult where
  matched : Nat
  accepted : Nat
  refused : Nat
  last : Option Outlet
  reason : StopReason
  matchFlag : Bool
  clamped : Bool
  deriving DecidableEq, Repr

/-- A Sweep Engine (chapter 10). -/
structure SweepEngine where
  context : Option SweepContext
  last : Option SweepResult
  deriving DecidableEq, Repr

/-! ### Events (R173, R188) -/

/-- The presence states, in the order of their codes. -/
inductive Presence
  | absent
  | present
  | degraded
  deriving DecidableEq, Repr

/-- How OUTLET_SWITCHED's contact state was set (R116). -/
inductive HowSet
  | verified
  | unverified
  | discovered
  | reread
  deriving DecidableEq, Repr

/-- The reason of HANG_DETECTED (R147, R148). -/
inductive HangReason
  | report
  | held (by_ : Link)
  | cycle (id : Byte)
  deriving DecidableEq, Repr

/-- The origin in a restoration event. -/
inductive RestoreOrigin
  | auto
  | cleared
  | restored
  deriving DecidableEq, Repr

/-- Why a hold lapsed (R91). -/
inductive LapseCause
  | absent
  | degraded
  | linkReset
  deriving DecidableEq, Repr

/-- The kinds of event with their subject and detail (R188), in the order of their codes. -/
inductive EventBody
  | outletSwitched (k : Outlet) (contact : Contact) (how : HowSet)
  | actionEnded (k : Outlet) (id : Byte) (kind : Kind) (result : ActionResult) (detail : ResultDetail)
  | relayFault (k : Outlet) (fault : RelayFault) (skipped : Bool)
  | outletTrip (k : Outlet) (imA level : Nat)
  | branchShed (b : Branch) (cause : Cause) (left : BranchState) (victims : Vector Bool 24)
  | branchRestoreBegin (b : Branch) (victims : Vector Bool 24) (count : Nat) (origin : RestoreOrigin)
  | branchNormal (b : Branch) (origin : RestoreOrigin)
  | restartExhausted (b : Branch) (count : Nat)
  | restoreSkipped (k : Outlet) (b : Branch) (holder : Option Link)
  | hangDetected (k : Outlet) (reason : HangReason) (retries silence evidence : Nat) (spread : Option (Int × Int))
  | hangActive (k : Outlet) (silence evidence : Nat) (spread : Option (Int × Int))
  | hangGaveUp (k : Outlet) (retries silence evidence : Nat) (spread : Option (Int × Int))
  | feedState (f : Feed) (entered left : FeedState)
  | peerLink (x : Link) (entered left : Presence)
  | holdLapsed (x : Link) (outlets : Vector Bool 24) (cause : LapseCause)
  | configChanged (id index : Byte) (writer : Link) (value : Int)
  deriving DecidableEq, Repr

/-- The origin, sweep mark and tag an event carries where its kind has them (R173). -/
structure EventOrigin where
  origin : Option Origin
  sweep  : Bool
  tag    : Option Byte
  deriving DecidableEq, Repr

/-- An event entry (R173). -/
structure Event where
  body   : EventBody
  source : EventOrigin
  stamp  : Timestamp
  deriving DecidableEq, Repr

/-! ### Link ports (chapter 11) -/

/-- The transaction states of a port. -/
inductive Transaction
  | none
  | write
  | refusing
  | read
  deriving DecidableEq, Repr

/-- The statuses of a response (R190). -/
inductive Status
  | ok
  | clamped
  | joined
  | already
  | pending
  | idle
  | badFrame
  | badCommand
  | badLength
  | badValue
  | busyOutlet
  | held
  | faulted
  | shed
  | queueFull
  | causeActive
  | noSnapshot
  | sweepActive
  | mapBusy
  | notShed
  | noSweep
  deriving DecidableEq, Repr

/-- A response (R168, R184). -/
structure Response where
  status : Status
  echo   : Byte
  generation : BitVec 16
  payload : List Byte
  deriving DecidableEq, Repr

/-- A Link Port (chapter 11). `acked` and `readOut` are what the port put on SDA last: the acknowledge of the last byte,
and the bytes of the last read transaction. `stallDue` says that the stall count reached its limit in the arrival in hand. -/
structure Port where
  trans  : Transaction
  frame  : List Byte
  overlong : Bool
  acked  : Bool
  readOut : List Byte
  response : Response
  pendingMark : Bool
  latch  : Bool
  presence : Presence
  badFrames : Nat
  silence : Nat
  stall  : Nat
  stallDue : Bool
  events : List Event
  overflow : Bool
  alert  : Bool
  deriving DecidableEq, Repr

/-! ### Settings (chapter 12) -/

/-- The shed modes, in the order of their codes. -/
inductive ShedMode
  | openNow
  | openSync
  | keep
  deriving DecidableEq, Repr

/-- The monitor actions, in the order of their codes. -/
inductive MonitorAction
  | report
  | cycle
  deriving DecidableEq, Repr

/-- The settings of R179, in the table's order. -/
structure Settings where
  noLoad : Nat
  creep  : Nat
  vGain  : Vector Nat 3
  vOffset : Vector Int 3
  iGain  : Vector Nat 24
  iOffset : Vector Int 24
  windowExp : Vector Nat 3
  divider : Vector Nat 3
  branchFeed : Vector Feed 6
  branchLimit : Vector Nat 6
  overCycles : Vector Nat 6
  staggerSet : Vector Nat 6
  restartEnable : Vector Bool 6
  restartDelay : Vector Nat 6
  restartLimit : Vector Nat 6
  outletBranch : Vector Branch 24
  closeDelay : Vector Nat 24
  openDelay : Vector Nat 24
  pulseLength : Vector Nat 24
  tripLevel : Vector Nat 24
  tripCycles : Vector Nat 24
  shedMode : Vector ShedMode 24
  monWindow : Vector Nat 24
  monAction : Vector MonitorAction 24
  retryLimit : Vector Nat 24
  stallBand : Vector Nat 24
  bootGrace : Vector Nat 24
  cycleOff : Vector Nat 24
  badLimit : PerLink Nat
  linkTimeout : PerLink Nat
  deriving DecidableEq, Repr

/-! ### The arrival in hand -/

/-- What one block leaves for another within the sample arrival being handled: the entries whose off holds have ended and the
RESTORE entries placed over it, which stand in ascending outlet order in their line (R94), the entries that a monitor's try
has placed over it (R149), the outlets whose meters have formed a window result over it (R143), and the outlets whose monitors
have made the arrival's try (R148). -/
structure Handling where
  returned : List Byte
  tries    : List Byte
  formed   : List Outlet
  tried    : List Outlet
  deriving DecidableEq, Repr

/-! ### The state -/

/-- The part's whole state, and the queue of commands waiting for it. -/
structure State where
  resetHeld : Bool
  sampleCounter : BitVec 32
  seconds : BitVec 32
  subSecond : Nat
  stamp : Timestamp
  handed : Handed
  senseAge : Vector Nat 24
  breakers : Vector Breaker 6
  trackers : Vector Tracker 3
  meters : Vector Meter 24
  energy : Vector Energy 24
  entries : List Entry
  nextId : Byte
  holds : Vector (Option Link) 24
  tripped : Vector Bool 24
  handling : Option Handling
  sequencers : Vector Sequencer 6
  drivers : Vector Driver 24
  slots : List Outlet
  protections : Vector Protection 6
  tripRuns : Vector Nat 24
  monitors : Vector Monitor 24
  sweeps : PerLink SweepEngine
  banks : PerLink BankPort
  ports : PerLink Port
  targetAddress : BitVec 7
  settings : Settings
  generation : BitVec 16
  pending : List Instr
  deriving DecidableEq, Repr

/-! ### Values right after a power-on reset -/

/-- Front-end hand-over at reset: clip indications clear (section 1.6). DESIGN CHOICE, unsafe (assumption 4): the values and
levels, which no rule gives, are 0 and inactive. -/
def Handed.initial : Handed :=
  { volts := fill 3 0, vClip := fill 3 false, amps := fill 24 0, aClip := fill 24 false,
    sense := fill 24 false, breaker := fill 6 false }

/-- An unestablished breaker (R11). -/
def Breaker.initial : Breaker := { level := none, run := 0 }

/-- An empty open cycle (R20, R30). -/
def OpenCycle.empty (began : CycleStart) : OpenCycle := { n := 0, sv := 0, clip := false, began := began }

/-- An empty window (R25). -/
def OpenWindow.empty : OpenWindow :=
  { count := 0, sv := 0, total := 0, clip := false, synthetic := false, skip := false }

/-- An arrival over which nothing has been left yet. -/
def Handling.begun : Handling := { returned := [], tries := [], formed := [], tried := [] }

/-- A tracker that hands nothing on. -/
def Notice.quiet : Notice := { close := none, left := none, enteredTracking := false, leftTracking := false }

/-- A tracker after a reset (R30). DESIGN CHOICE, unsafe (assumption 4): the previous voltage value is 0. -/
def Tracker.initial : Tracker :=
  { state := .noLine, armed := false, prevV := 0, cyc := OpenCycle.empty .reset, phase := 0, tp := 0,
    lastCrossing := none, acquired := 0, win := OpenWindow.empty, anchor := none, inRange := 0,
    cycleResult := none, windowResult := none, frequency := none, notice := Notice.quiet }

/-- A meter after a reset (R54). -/
def Meter.initial : Meter :=
  { sp := 0, si := 0, clip := false, skip := false, wsp := 0, wsi := 0, wclip := false, waiting := false,
    cycleResult := none, windowResult := none, remembered := 0 }

/-- Energy registers after a power-on reset (R61). -/
def Energy.zero : Energy := { importWh := 0, importRem := 0, exportWh := 0, exportRem := 0 }

/-- A bank after a reset (R66). -/
def BankPort.initial : BankPort := { bank := none, counter := 0 }

/-- A sequencer after a reset (R107). -/
def Sequencer.initial : Sequencer :=
  { line := [], inProgress := none, pulseMark := false, stagger := 255, reason := .none }

/-- A driver after a power-on reset (R123). -/
def Driver.initial : Driver :=
  { state := .idle, contact := .unknown, fault := none, step := none, pulseCount := 0, skip := 0, observe := 0,
    activeSeen := false, coil := .released, waitingUrgent := none }

/-- A protection block after a reset (R139). -/
def Protection.initial : Protection :=
  { state := .normal, overcurrent := false, breaker := false, manual := false, sum := none, overRun := 0,
    victims := fill 24 false, restartCount := 0, restartTimer := 0, manualMark := false, exhaustedMark := false }

/-- A monitor after a reset, in the state its window setting gives (R156). -/
def Monitor.initial (st : MonitorState) : Monitor :=
  { state := st, silence := 0, retries := 0, evidence := 0, spread := none, placementPending := false,
    activeMark := false, grace := 0 }

/-- A sweep engine after a reset (R163). -/
def SweepEngine.initial : SweepEngine := { context := none, last := none }

/-- The IDLE response (R169). -/
def Response.idleAt (gen : BitVec 16) : Response := { status := .idle, echo := 0, generation := gen, payload := [] }

/-- A port after a reset (R178). -/
def Port.initial (gen : BitVec 16) : Port :=
  { trans := .none, frame := [], overlong := false, acked := false, readOut := [], response := Response.idleAt gen,
    pendingMark := false, latch := false, presence := .absent, badFrames := 0, silence := 0, stall := 0,
    stallDue := false, events := [], overflow := false, alert := false }

/-- Every setting at its default (R179). -/
def Settings.default : Settings :=
  { noLoad := 20, creep := 500, vGain := fill 3 16384, vOffset := fill 3 0, iGain := fill 24 16384,
    iOffset := fill 24 0, windowExp := fill 3 5, divider := fill 3 4,
    branchFeed := #v[0, 0, 1, 1, 2, 2],
    branchLimit := fill 6 16000, overCycles := fill 6 30, staggerSet := fill 6 30, restartEnable := fill 6 false,
    restartDelay := fill 6 30, restartLimit := fill 6 3,
    outletBranch := #v[0, 0, 0, 0, 1, 1, 1, 1, 2, 2, 2, 2, 3, 3, 3, 3, 4, 4, 4, 4, 5, 5, 5, 5],
    closeDelay := fill 24 40, openDelay := fill 24 40, pulseLength := fill 24 80, tripLevel := fill 24 0,
    tripCycles := fill 24 6, shedMode := fill 24 .openSync, monWindow := fill 24 0, monAction := fill 24 .report,
    retryLimit := fill 24 3, stallBand := fill 24 0, bootGrace := fill 24 36, cycleOff := fill 24 10,
    badLimit := ⟨4, 4⟩, linkTimeout := ⟨10, 10⟩ }

/-- The part right after a power-on reset. DESIGN CHOICE, unsafe (assumption 5): RESET_N is high and the straps are low, since no rule
gives the levels of pins, and the timestamp of the last arrival handled, where none has been, is (0, 0). -/
def State.reset : State :=
  { resetHeld := false, sampleCounter := 0, seconds := 0, subSecond := 0,
    stamp := { seconds := 0, sub := 0 }, handed := Handed.initial,
    senseAge := fill 24 Config.senseAgeMax, breakers := fill 6 Breaker.initial, trackers := fill 3 Tracker.initial,
    meters := fill 24 Meter.initial, energy := fill 24 Energy.zero, entries := [], nextId := 0,
    holds := fill 24 none, tripped := fill 24 false, handling := none,
    sequencers := fill 6 Sequencer.initial, drivers := fill 24 Driver.initial, slots := [],
    protections := fill 6 Protection.initial, tripRuns := fill 24 0, monitors := fill 24 (Monitor.initial .off),
    sweeps := ⟨SweepEngine.initial, SweepEngine.initial⟩, banks := ⟨BankPort.initial, BankPort.initial⟩,
    ports := ⟨Port.initial 0, Port.initial 0⟩, targetAddress := Config.baseAddress, settings := Settings.default,
    generation := 0, pending := [] }

end Sys2Proof.Machine
end

