-- ==== Sys2Proof/Machine/Arith.lean ====
section
/-! DEFINITION. The integer arithmetic of R1 and the formulas of chapters 1 to 4 that are built on it alone. -/

namespace Sys2Proof.Machine

/-! ### The terms of R1 -/

/-- The rounded quotient: the nearest integer to `a / b`, a tie going away from zero (R1). -/
def roundedQuotient (a : Int) (b : Nat) : Int :=
  if a < 0 then -(((2 * a.natAbs + b) / (2 * b) : Nat) : Int) else (((2 * a.natAbs + b) / (2 * b) : Nat) : Int)

/-- The floor of the quotient, for a positive divisor (R1). -/
def floorQuotient (a : Int) (b : Nat) : Int := a / (b : Int)

/-- The bits of an integer square root, from bit `bits - 1` down, added to `r` while the square stays within `x`. -/
def isqrtFrom : Nat → Nat → Nat → Nat
  | 0, _, r => r
  | bits + 1, x, r => if (r + 2 ^ bits) * (r + 2 ^ bits) ≤ x then isqrtFrom bits x (r + 2 ^ bits) else isqrtFrom bits x r

/-- The largest integer whose square does not exceed `x` (R1). -/
def isqrt (x : Nat) : Nat := isqrtFrom (x.log2 / 2 + 1) x 0

/-- Saturation to a range (R1). -/
def saturate (lo hi v : Int) : Int := if v < lo then lo else if hi < v then hi else v

/-- One more, holding at `limit` (R1). -/
def holdUp (limit n : Nat) : Nat := if limit ≤ n then limit else n + 1

/-! ### Correction of a channel (R5, R6) -/

/-- The floored quotient of R5, before saturation. -/
def correctionQuotient (x o : Int) (g : Nat) : Int := floorQuotient ((x - o) * g + 8192) 16384

/-- The corrected value of a channel (R5, R6). -/
def corrected (x o : Int) (g : Nat) : Int := saturate (-32767) 32767 (correctionQuotient x o g)

/-- The clip indication of a channel (R6). -/
def clipIndication (x o : Int) (g : Nat) : Bool :=
  x == -32768 || x == 32767 || corrected x o g != correctionQuotient x o g

/-! ### Crossing times and frequency (R18, R27) -/

/-- φ of R18: 256ths of a sample from the previous arrival to the crossing. -/
def crossingFraction (prev cur : Int) : Nat := (floorQuotient (256 * (-prev)) (cur - prev).toNat).toNat

/-- The crossing timestamp of R18, from the number of the crossing's own arrival. -/
def crossingStamp (sample : BitVec 32) (prev cur : Int) : BitVec 40 :=
  BitVec.ofNat 40 (256 * (sample - 1).toNat + crossingFraction prev cur)

/-- The frequency of R27 from a span of `c` cycles. -/
def frequencyOf (c : Nat) (span : BitVec 40) : Nat :=
  (roundedQuotient ((7680 * 256 * 1000 * c : Nat) : Int) span.toNat).toNat

/-! ### Metering formulas (R21, R36 to R39) -/

/-- V_cV over `n` samples (R21). -/
def vcvOf (sv n : Nat) : Nat := isqrt (sv * 625 / (n * 256))

/-- P_mW over `n` samples (R36). -/
def pmwOf (sp : Int) (n : Nat) : Int := roundedQuotient (sp * 1000) (n * 65536)

/-- I_mA over `n` samples (R37). -/
def imaOf (si n : Nat) : Nat := isqrt (si * 15625 / (n * 16384))

/-- S_mVA (R38). -/
def smvaOf (vcv ima : Nat) : Nat := (roundedQuotient ((vcv * ima : Nat) : Int) 100).toNat

/-- The no-load flag: case 1 or case 2 of R39. -/
def noLoadOf (threshold ima smva : Nat) : Bool := decide (ima < threshold) || smva == 0

/-- PF by the cases of R39. -/
def pfOf (threshold ima smva : Nat) (pmw : Int) : Int :=
  if noLoadOf threshold ima smva then 0
  else if smva < pmw.natAbs then (if pmw < 0 then -1000 else 1000)
  else roundedQuotient (pmw * 1000) smva

/-! ### Energy (R56 to R59) -/

/-- One direction's registers after `amount` product units, with the carry of R57 and the hold of R58. -/
def addEnergy (wh rem amount : Nat) : Nat × Nat :=
  if Config.whRaw ≤ rem + amount then (holdUp Config.whMax wh, rem + amount - Config.whRaw) else (wh, rem + amount)

/-- The registers after a cycle that passed the creep test (R57). -/
def Energy.add (e : Energy) (sp : Int) : Energy :=
  if 0 < sp then
    { e with importWh := (addEnergy e.importWh e.importRem sp.natAbs).1,
             importRem := (addEnergy e.importWh e.importRem sp.natAbs).2 }
  else if sp < 0 then
    { e with exportWh := (addEnergy e.exportWh e.exportRem sp.natAbs).1,
             exportRem := (addEnergy e.exportWh e.exportRem sp.natAbs).2 }
  else e

/-- mWh of a remainder (R59). -/
def mwhOf (rem : Nat) : Nat := rem * 1000 / Config.whRaw

/-! ### Fire phases (R109) -/

/-- The rising fire phase. -/
def risingFire (tp d : Nat) : Nat := (tp - d % tp) % tp

/-- The falling fire phase. -/
def fallingFire (tp d : Nat) : Nat := (((tp / 2 : Nat) : Int) - (d : Int)).emod (tp : Int) |>.toNat

end Sys2Proof.Machine
end

