-- ==== Sys2Proof/Machine/Operands.lean ====
section
/-! DEFINITION. The bytes of the links: the CRC of R167, the fields of R183, the codes of R190, the requests' payload fields
of R185, and the event entries of R188. -/

namespace Sys2Proof.Machine

/-! ### CRC-8 (R167) -/

/-- One bit of the CRC, polynomial x^8 + x^2 + x + 1, most significant bit first. -/
def crcBit (c : Byte) : Byte := if c.msb then (c <<< 1) ^^^ 0x07 else c <<< 1

/-- One byte of the CRC. -/
def crcByte (c b : Byte) : Byte :=
  crcBit (crcBit (crcBit (crcBit (crcBit (crcBit (crcBit (crcBit (c ^^^ b))))))))

/-- The CRC-8 of R167 over bytes. -/
def crc8 (bytes : List Byte) : Byte := bytes.foldl crcByte 0

/-! ### Fields, most significant byte first (R183) -/

/-- A one-byte field. -/
def byteOf (n : Nat) : Byte := BitVec.ofNat 8 n

/-- A two-byte field. -/
def bytes2 (n : Nat) : List Byte := [byteOf (n / 256), byteOf n]

/-- A three-byte field. -/
def bytes3 (n : Nat) : List Byte := [byteOf (n / 65536), byteOf (n / 256), byteOf n]

/-- A four-byte field. -/
def bytes4 (n : Nat) : List Byte := [byteOf (n / 16777216), byteOf (n / 65536), byteOf (n / 256), byteOf n]

/-- A five-byte field. -/
def bytes5 (n : Nat) : List Byte := byteOf (n / 4294967296) :: bytes4 n

/-- A signed two-byte field. -/
def signed2 (v : Int) : List Byte := bytes2 (BitVec.ofInt 16 v).toNat

/-- A signed four-byte field. -/
def signed4 (v : Int) : List Byte := bytes4 (BitVec.ofInt 32 v).toNat

/-- A timestamp of 6 bytes. -/
def Timestamp.bytes (t : Timestamp) : List Byte := bytes4 t.seconds.toNat ++ bytes2 t.sub

/-- The 24-bit value of a set of outlets: bit k stands for outlet k. -/
def maskOf (v : Vector Bool 24) : Nat := allOutlets.foldl (fun m k => if look v k then m + 2 ^ k.val else m) 0

/-- A mask field of 3 bytes. -/
def maskBytes (v : Vector Bool 24) : List Byte := bytes3 (maskOf v)

/-- An absent outlet number or link (R183). -/
def absentByte : Byte := 0xFF

/-- A flag as a number. -/
def flagBit (weight : Nat) (b : Bool) : Nat := if b then weight else 0

/-! ### Fields of a request's payload (R185) -/

/-- A two-byte number of a payload. -/
def number2 (h l : Byte) : Nat := h.toNat * 256 + l.toNat

/-- A signed four-byte number of a payload. -/
def number4 (a b c d : Byte) : Int := (a ++ b ++ c ++ d : BitVec 32).toInt

/-- The outlets of a three-byte mask. -/
def maskFrom (a b c : Byte) : Vector Bool 24 := tab24 fun k => (a ++ b ++ c : BitVec 24).getLsbD k.val

/-- An outlet number, if it is one. -/
def outletFrom (n : Byte) : Option Outlet := if h : n.toNat < 24 then some ⟨n.toNat, h⟩ else none

/-- A branch number, if it is one. -/
def branchFrom (n : Byte) : Option Branch := if h : n.toNat < 6 then some ⟨n.toNat, h⟩ else none

/-- A feed number, if it is one. -/
def feedFrom (n : Byte) : Option Feed := if h : n.toNat < 3 then some ⟨n.toNat, h⟩ else none

/-- The value coded from 0 in a list's order (R190). -/
def codedFrom {α : Type} (values : List α) (n : Byte) : Option α := values[n.toNat]?

/-- The kinds a SWITCH may name. -/
def kindFrom (n : Byte) : Option Kind := codedFrom [.opening, .closing, .cycle] n

/-! ### Codes (R190) -/

/-- Code of a contact state. -/
def Contact.code : Contact → Nat
  | .opened => 0
  | .closed => 1
  | .unknown => 2

/-- Code of a hold: none, A, B. -/
def holdCode : Option Link → Nat
  | none => 0
  | some .a => 1
  | some .b => 2

/-- Code of a link. -/
def linkCode : Link → Nat
  | .a => 0
  | .b => 1

/-- A link field, absent as 0xFF. -/
def linkByte : Option Link → Byte
  | none => absentByte
  | some x => byteOf (linkCode x)

/-- An outlet field, absent as 0xFF. -/
def outletByte : Option Outlet → Byte
  | none => absentByte
  | some k => byteOf k.val

/-- Code of a presence state. -/
def Presence.code : Presence → Nat
  | .absent => 0
  | .present => 1
  | .degraded => 2

/-- Code of a feed state. -/
def FeedState.code : FeedState → Nat
  | .noLine => 0
  | .acquiring => 1
  | .tracking => 2
  | .lost => 3

/-- Code of a branch state. -/
def BranchState.code : BranchState → Nat
  | .normal => 0
  | .shed => 1
  | .restartWait => 2
  | .restoring => 3

/-- Code of a cause. -/
def Cause.code : Cause → Nat
  | .overcurrent => 0
  | .breaker => 1
  | .manual => 2

/-- Code of a driver state. -/
def DriverState.code : DriverState → Nat
  | .idle => 0
  | .waitPhase => 1
  | .waitSlot => 2
  | .pulse => 3
  | .verify => 4
  | .faulted => 5

/-- Code of a fault. -/
def faultCode : Option RelayFault → Nat
  | none => 0
  | some .stuckOpen => 1
  | some .stuckClosed => 2

/-- Code of a kind. -/
def Kind.code : Kind → Nat
  | .opening => 0
  | .closing => 1
  | .cycle => 2

/-- Code of an origin, none being 0. -/
def originCode : Option Origin → Nat
  | none => 0
  | some .linkA => 1
  | some .linkB => 2
  | some .monitor => 3
  | some .restore => 4

/-- Code of a phase. -/
def Phase.code : Phase → Nat
  | .queued => 0
  | .opening => 1
  | .offHold => 2
  | .waitAdmit => 3
  | .closing => 4

/-- Code of a result. -/
def ActionResult.code : ActionResult → Nat
  | .done => 0
  | .failed => 1
  | .cancelled => 2
  | .superseded => 3
  | .preempted => 4
  | .cut => 5

/-- Code of a result detail. -/
def ResultDetail.code : ResultDetail → Nat
  | .none => 0
  | .noPulse => 1
  | .unverified => 2
  | .stuckOpen => 3
  | .stuckClosed => 4

/-- Code of how a contact state was set. -/
def HowSet.code : HowSet → Nat
  | .verified => 0
  | .unverified => 1
  | .discovered => 2
  | .reread => 3

/-- Code of a monitor state. -/
def MonitorState.code : MonitorState → Nat
  | .off => 0
  | .idle => 1
  | .watching => 2
  | .suspect => 3
  | .expired => 4
  | .reported => 5
  | .grace => 6
  | .gaveUp => 7

/-- Code of a hang reason. -/
def HangReason.code : HangReason → Nat
  | .report => 0
  | .held _ => 1
  | .cycle _ => 2

/-- The byte of HANG_DETECTED that holds the holding link or the entry id. DEDUCED, safe (assumption 6): with the reason
REPORT it names neither and is sent as absent. -/
def HangReason.byte : HangReason → Byte
  | .report => absentByte
  | .held x => byteOf (linkCode x)
  | .cycle id => id

/-- Code of a restoration origin. -/
def RestoreOrigin.code : RestoreOrigin → Nat
  | .auto => 0
  | .cleared => 1
  | .restored => 2

/-- Code of a lapse cause. -/
def LapseCause.code : LapseCause → Nat
  | .absent => 0
  | .degraded => 1
  | .linkReset => 2

/-- Code of a blocking reason. -/
def BlockReason.code : BlockReason → Nat
  | .none => 0
  | .state => 1
  | .inProgress => 2
  | .stagger => 3
  | .headroom => 4

/-- Code of a shed mode. -/
def ShedMode.code : ShedMode → Nat
  | .openNow => 0
  | .openSync => 1
  | .keep => 2

/-- Code of a monitor action. -/
def MonitorAction.code : MonitorAction → Nat
  | .report => 0
  | .cycle => 1

/-- Code of a stop reason. -/
def StopReason.code : StopReason → Nat
  | .countDone => 0
  | .firstMatch => 1
  | .aborted => 2

/-- Code of a status (R190's first table). -/
def Status.code : Status → Byte
  | .ok => 0x00
  | .clamped => 0x01
  | .joined => 0x02
  | .already => 0x03
  | .pending => 0x04
  | .idle => 0x05
  | .badFrame => 0x10
  | .badCommand => 0x11
  | .badLength => 0x12
  | .badValue => 0x13
  | .busyOutlet => 0x20
  | .held => 0x21
  | .faulted => 0x22
  | .shed => 0x23
  | .queueFull => 0x24
  | .causeActive => 0x25
  | .noSnapshot => 0x26
  | .sweepActive => 0x27
  | .mapBusy => 0x28
  | .notShed => 0x29
  | .noSweep => 0x2A

/-- The bytes of a response (R184), its CRC last. -/
def Response.bytes (r : Response) : List Byte :=
  [r.status.code, r.echo] ++ bytes2 r.generation.toNat ++ [byteOf r.payload.length] ++ r.payload ++
    [crc8 ([r.status.code, r.echo] ++ bytes2 r.generation.toNat ++ [byteOf r.payload.length] ++ r.payload)]

/-- What `count` bytes of a read transaction return: the response, then 0xFF (R168). -/
def Response.read (r : Response) (count : Nat) : List Byte :=
  r.bytes.take count ++ List.replicate (count - r.bytes.length) 0xFF

/-! ### Request frames (R167, R184) -/

/-- The command codes of R176 and R177. -/
def requestCodes : List Byte :=
  [0x01, 0x02, 0x03, 0x04, 0x05, 0x06, 0x07, 0x10, 0x11, 0x12, 0x13, 0x14, 0x15, 0x16, 0x17, 0x18, 0x19, 0x1A, 0x1B,
   0x1C, 0x1F]

/-- The bytes of a request frame (R184). -/
def frameOf (code : Byte) (payload : List Byte) : List Byte :=
  [code, byteOf payload.length] ++ payload ++ [crc8 ([code, byteOf payload.length] ++ payload)]

/-- The command and payload of a whole frame of the right length and CRC (R167, R184). -/
def parseFrame (bytes : List Byte) : Option (Byte × List Byte) :=
  match bytes with
  | code :: len :: rest =>
    if rest.length = len.toNat + 1 ∧ crc8 (bytes.take (len.toNat + 2)) = rest.getLastD 0 then
      some (code, rest.take len.toNat)
    else none
  | _ => none

/-! ### Event entries (R188) -/

/-- Code of an event's kind. -/
def EventBody.code : EventBody → Nat
  | .outletSwitched .. => 0x01
  | .actionEnded .. => 0x02
  | .relayFault .. => 0x03
  | .outletTrip .. => 0x04
  | .branchShed .. => 0x05
  | .branchRestoreBegin .. => 0x06
  | .branchNormal .. => 0x07
  | .restartExhausted .. => 0x08
  | .restoreSkipped .. => 0x09
  | .hangDetected .. => 0x0A
  | .hangActive .. => 0x0B
  | .hangGaveUp .. => 0x0C
  | .feedState .. => 0x0D
  | .peerLink .. => 0x0E
  | .holdLapsed .. => 0x0F
  | .configChanged .. => 0x10

/-- Subject byte of an event. -/
def EventBody.subject : EventBody → Byte
  | .outletSwitched k .. => byteOf k.val
  | .actionEnded k .. => byteOf k.val
  | .relayFault k .. => byteOf k.val
  | .outletTrip k .. => byteOf k.val
  | .branchShed b .. => byteOf b.val
  | .branchRestoreBegin b .. => byteOf b.val
  | .branchNormal b .. => byteOf b.val
  | .restartExhausted b .. => byteOf b.val
  | .restoreSkipped k .. => byteOf k.val
  | .hangDetected k .. => byteOf k.val
  | .hangActive k .. => byteOf k.val
  | .hangGaveUp k .. => byteOf k.val
  | .feedState f .. => byteOf f.val
  | .peerLink x .. => byteOf (linkCode x)
  | .holdLapsed x .. => byteOf (linkCode x)
  | .configChanged id .. => id

/-- Minimum and maximum of a monitor's evidence, reading 0 where absent (R183). -/
def spreadBytes : Option (Int × Int) → List Byte
  | none => bytes4 0 ++ bytes4 0
  | some (lo, hi) => signed4 lo ++ signed4 hi

/-- Detail bytes of an event. -/
def EventBody.detail : EventBody → List Byte
  | .outletSwitched _ c how => [byteOf c.code, byteOf how.code]
  | .actionEnded _ id kind result d => [id, byteOf kind.code, byteOf result.code, byteOf d.code]
  | .relayFault _ f skipped => [byteOf (faultCode (some f)), byteOf (flagBit 1 skipped)]
  | .outletTrip _ ima level => bytes2 ima ++ bytes2 level
  | .branchShed _ cause left victims => [byteOf cause.code, byteOf left.code] ++ maskBytes victims
  | .branchRestoreBegin _ victims count origin => maskBytes victims ++ [byteOf count, byteOf origin.code]
  | .branchNormal _ origin => [byteOf origin.code]
  | .restartExhausted _ count => [byteOf count]
  | .restoreSkipped _ b holder => [byteOf b.val, byteOf (flagBit 1 holder.isNone), linkByte holder]
  | .hangDetected _ reason retries silence evidence spread =>
      [byteOf reason.code, reason.byte, byteOf retries] ++ bytes4 silence ++ [byteOf evidence] ++ spreadBytes spread
  | .hangActive _ silence evidence spread => bytes4 silence ++ [byteOf evidence] ++ spreadBytes spread
  | .hangGaveUp _ retries silence evidence spread =>
      [byteOf retries] ++ bytes4 silence ++ [byteOf evidence] ++ spreadBytes spread
  | .feedState _ entered left => [byteOf entered.code, byteOf left.code]
  | .peerLink _ entered left => [byteOf entered.code, byteOf left.code]
  | .holdLapsed _ outlets cause => maskBytes outlets ++ [byteOf cause.code]
  | .configChanged _ index writer value => [index, byteOf (linkCode writer)] ++ signed4 value

/-- Origin byte of an event: origin code, 8 × sweep mark, 16 × tag present. -/
def EventOrigin.byte (o : EventOrigin) : Byte :=
  byteOf (originCode o.origin + flagBit 8 o.sweep + flagBit 16 o.tag.isSome)

/-- The bytes of an event entry. -/
def Event.bytes (e : Event) : List Byte :=
  [byteOf e.body.code, e.body.subject, e.source.byte, e.source.tag.getD 0] ++ e.stamp.bytes ++
    [byteOf e.body.detail.length] ++ e.body.detail

end Sys2Proof.Machine
end

