-- ==== Sys2Proof/Machine/Flags.lean ====
section
/-! DEFINITION. The flag bytes of the reports (R187). -/

namespace Sys2Proof.Machine

/-- Result flags: bit 0 clip, bit 1 no-load, bit 2 synthetic. -/
def resultFlags (clip noLoad synthetic : Bool) : Byte :=
  byteOf (flagBit 1 clip + flagBit 2 noLoad + flagBit 4 synthetic)

/-- Flags of a sweep's result record: bit 0 match, bit 1 clamped (R186). -/
def sweepFlags (matched clamped : Bool) : Byte := byteOf (flagBit 1 matched + flagBit 2 clamped)

/-- Cause bits of BRANCH_READ: 0 OVERCURRENT, 1 BREAKER, 2 MANUAL, 4 the breaker's debounced level OPEN. -/
def causeFlags (p : Protection) (level : Option BreakerLevel) : Byte :=
  byteOf (flagBit 1 p.overcurrent + flagBit 2 p.breaker + flagBit 4 p.manual + flagBit 16 (level == some .opened))

/-- Mark bits of BRANCH_READ: 0 manual, 1 exhausted, 2 sum present, 3 close in progress present, 4 pulse mark. -/
def branchMarks (p : Protection) (q : Sequencer) : Byte :=
  byteOf (flagBit 1 p.manualMark + flagBit 2 p.exhaustedMark + flagBit 4 p.sum.isSome + flagBit 8 q.inProgress.isSome
    + flagBit 16 q.pulseMark)

/-- Presence bits of FEED_READ: 0 crossing, 1 cycle, 2 window, 3 frequency. -/
def feedPresence (t : Tracker) : Byte :=
  byteOf (flagBit 1 t.lastCrossing.isSome + flagBit 2 t.cycleResult.isSome + flagBit 4 t.windowResult.isSome
    + flagBit 8 t.frequency.isSome)

/-- Presence bits of OUTLET_READ part 1: 0 cycle, 1 window. -/
def meterPresence (m : Meter) : Byte := byteOf (flagBit 1 m.cycleResult.isSome + flagBit 2 m.windowResult.isSome)

/-- Flags of OUTLET_READ part 0: 0 tripped, 1 sense live, 2 entry present, 3 sweep mark, 4 tag present, 5 pause,
6 placement pending, 7 active mark. -/
def outletFlags (tripped live paused : Bool) (e : Option Entry) (m : Monitor) : Byte :=
  byteOf (flagBit 1 tripped + flagBit 2 live + flagBit 4 e.isSome + flagBit 8 ((e.map (·.sweep)).getD false)
    + flagBit 16 ((e.bind (·.tag)).isSome) + flagBit 32 paused + flagBit 64 m.placementPending + flagBit 128 m.activeMark)

end Sys2Proof.Machine
end

