-- ==== Sys2Proof/Machine/Ops.lean ====
section
/-! DEFINITION. The named operations over the part's tables: reading and replacing one record, the map from outlets to
branches and feeds, the queue's lookups, and posting an event. Every meaning reads and writes the state through these. -/

namespace Sys2Proof.Machine

/-! ### Reading and replacing one record -/

/-- The record of `trackers` at an index. -/
def State.tracker (s : State) (k : Feed) : Tracker := look s.trackers k

/-- The state with one record of `trackers` replaced. -/
def State.setTracker (s : State) (k : Feed) (v : Tracker) : State := { s with trackers := put s.trackers k v }

/-- The record of `meters` at an index. -/
def State.meter (s : State) (k : Outlet) : Meter := look s.meters k

/-- The state with one record of `meters` replaced. -/
def State.setMeter (s : State) (k : Outlet) (v : Meter) : State := { s with meters := put s.meters k v }

/-- The record of `energy` at an index. -/
def State.energyOf (s : State) (k : Outlet) : Energy := look s.energy k

/-- The state with one record of `energy` replaced. -/
def State.setEnergy (s : State) (k : Outlet) (v : Energy) : State := { s with energy := put s.energy k v }

/-- The record of `holds` at an index. -/
def State.hold (s : State) (k : Outlet) : Option Link := look s.holds k

/-- The state with one record of `holds` replaced. -/
def State.setHold (s : State) (k : Outlet) (v : Option Link) : State := { s with holds := put s.holds k v }

/-- The record of `tripped` at an index. -/
def State.isTripped (s : State) (k : Outlet) : Bool := look s.tripped k

/-- The state with one record of `tripped` replaced. -/
def State.setTripped (s : State) (k : Outlet) (v : Bool) : State := { s with tripped := put s.tripped k v }

/-- The record of `sequencers` at an index. -/
def State.sequencer (s : State) (k : Branch) : Sequencer := look s.sequencers k

/-- The state with one record of `sequencers` replaced. -/
def State.setSequencer (s : State) (k : Branch) (v : Sequencer) : State := { s with sequencers := put s.sequencers k v }

/-- The record of `drivers` at an index. -/
def State.driver (s : State) (k : Outlet) : Driver := look s.drivers k

/-- The state with one record of `drivers` replaced. -/
def State.setDriver (s : State) (k : Outlet) (v : Driver) : State := { s with drivers := put s.drivers k v }

/-- The record of `protections` at an index. -/
def State.protection (s : State) (k : Branch) : Protection := look s.protections k

/-- The state with one record of `protections` replaced. -/
def State.setProtection (s : State) (k : Branch) (v : Protection) : State := { s with protections := put s.protections k v }

/-- The record of `tripRuns` at an index. -/
def State.tripRun (s : State) (k : Outlet) : Nat := look s.tripRuns k

/-- The state with one record of `tripRuns` replaced. -/
def State.setTripRun (s : State) (k : Outlet) (v : Nat) : State := { s with tripRuns := put s.tripRuns k v }

/-- The record of `monitors` at an index. -/
def State.monitor (s : State) (k : Outlet) : Monitor := look s.monitors k

/-- The state with one record of `monitors` replaced. -/
def State.setMonitor (s : State) (k : Outlet) (v : Monitor) : State := { s with monitors := put s.monitors k v }

/-- The record of `senseAge` at an index. -/
def State.age (s : State) (k : Outlet) : Nat := look s.senseAge k

/-- The state with one record of `senseAge` replaced. -/
def State.setAge (s : State) (k : Outlet) (v : Nat) : State := { s with senseAge := put s.senseAge k v }

/-- The record of `breakers` at an index. -/
def State.breaker (s : State) (k : Branch) : Breaker := look s.breakers k

/-- The state with one record of `breakers` replaced. -/
def State.setBreaker (s : State) (k : Branch) (v : Breaker) : State := { s with breakers := put s.breakers k v }

/-- The record of `sweeps` of a link. -/
def State.sweepEngine (s : State) (x : Link) : SweepEngine := s.sweeps.get x

/-- The state with one link's record of `sweeps` replaced. -/
def State.setSweep (s : State) (x : Link) (v : SweepEngine) : State := { s with sweeps := s.sweeps.set x v }

/-- The record of `banks` of a link. -/
def State.bankPort (s : State) (x : Link) : BankPort := s.banks.get x

/-- The state with one link's record of `banks` replaced. -/
def State.setBank (s : State) (x : Link) (v : BankPort) : State := { s with banks := s.banks.set x v }

/-- The record of `ports` of a link. -/
def State.port (s : State) (x : Link) : Port := s.ports.get x

/-- The state with one link's record of `ports` replaced. -/
def State.setPort (s : State) (x : Link) (v : Port) : State := { s with ports := s.ports.set x v }

/-- The state with `handed` replaced. -/
def State.setHanded (s : State) (v : Handed) : State := { s with handed := v }

/-- The state with `entries` replaced. -/
def State.setEntries (s : State) (v : List Entry) : State := { s with entries := v }

/-- The state with `nextId` replaced. -/
def State.setNextId (s : State) (v : Byte) : State := { s with nextId := v }

/-- The state with `stamp` replaced. -/
def State.setStamp (s : State) (v : Timestamp) : State := { s with stamp := v }

/-- The state with `handling` replaced. -/
def State.setHandling (s : State) (v : Option Handling) : State := { s with handling := v }

/-- The state with `slots` replaced. -/
def State.setSlots (s : State) (v : List Outlet) : State := { s with slots := v }

/-- The state with `targetAddress` replaced. -/
def State.setAddress (s : State) (v : BitVec 7) : State := { s with targetAddress := v }

/-- The state with `settings` replaced. -/
def State.setSettings (s : State) (v : Settings) : State := { s with settings := v }

/-- The state with `generation` replaced. -/
def State.setGeneration (s : State) (v : BitVec 16) : State := { s with generation := v }

/-- The state with `resetHeld` replaced. -/
def State.setResetHeld (s : State) (v : Bool) : State := { s with resetHeld := v }

/-- The state with `pending` replaced. -/
def State.setPending (s : State) (v : List Instr) : State := { s with pending := v }

/-- The state with the three counters of R12 and R13 replaced. -/
def State.setClock (s : State) (sample seconds : BitVec 32) (sub : Nat) : State :=
  { s with sampleCounter := sample, seconds := seconds, subSecond := sub }

/-! ### The map and the outlet record (R32, R68) -/

/-- The seconds counter and the sample-in-second as they stand (R13, R14). -/
def State.now (s : State) : Timestamp := { seconds := s.seconds, sub := s.subSecond }

/-- An outlet's branch. -/
def State.branchOf (s : State) (k : Outlet) : Branch := look s.settings.outletBranch k

/-- A branch's feed. -/
def State.branchFeedOf (s : State) (b : Branch) : Feed := look s.settings.branchFeed b

/-- An outlet's feed: the feed of its branch (R32). -/
def State.feedOf (s : State) (k : Outlet) : Feed := s.branchFeedOf (s.branchOf k)

/-- The outlets mapped to a branch, ascending. -/
def State.outletsOf (s : State) (b : Branch) : List Outlet := allOutlets.filter fun k => s.branchOf k == b

/-- The outlets mapped to a feed, ascending. -/
def State.outletsOfFeed (s : State) (f : Feed) : List Outlet := allOutlets.filter fun k => s.feedOf k == f

/-- The branches mapped to a feed, ascending. -/
def State.branchesOfFeed (s : State) (f : Feed) : List Branch := allBranches.filter fun b => s.branchFeedOf b == f

/-- An outlet's contact state. -/
def State.contact (s : State) (k : Outlet) : Contact := (s.driver k).contact

/-- Whether a feed is in TRACKING. -/
def State.isTracking (s : State) (f : Feed) : Bool := (s.tracker f).state == .tracking

/-- The sense live indication (R8). -/
def State.senseLive (s : State) (k : Outlet) : Bool := decide (s.age k < Config.senseAgeMax)

/-- Whether a branch's state keeps a link's or a monitor's close out: SHED, RESTART_WAIT or RESTORING (check 4 of R72). -/
def State.branchShut (s : State) (b : Branch) : Bool := (s.protection b).state != .normal

/-! ### The Action Queue's lookups -/

/-- An outlet's entry, if it has one. -/
def State.entryOf (s : State) (k : Outlet) : Option Entry := s.entries.find? fun e => e.outlet == k

/-- The entry of an id, if it is live. -/
def State.entryById (s : State) (id : Byte) : Option Entry := s.entries.find? fun e => e.id == id

/-- Whether the queue holds fewer than 16 entries (R70). -/
def State.hasRoom (s : State) : Bool := decide (s.entries.length < Config.queueSize)

/-- The state with the entry of an id changed in place. -/
def State.modEntry (s : State) (id : Byte) (f : Entry → Entry) : State :=
  s.setEntries (s.entries.map fun e => if e.id == id then f e else e)

/-- A link's origin (R71). -/
def originOf : Link → Origin
  | .a => .linkA
  | .b => .linkB

/-- Whether an outlet is held by the other link (check 2 of R72). -/
def State.heldByOther (s : State) (x : Link) (k : Outlet) : Bool := s.hold k == some x.other

/-! ### The arrival in hand -/

/-- The record of the arrival in hand changed; between arrivals there is none. -/
def State.note (s : State) (f : Handling → Handling) : State := s.setHandling (s.handling.map f)

/-- The ids of the entries that R94 keeps in ascending outlet order: those of the off holds that ended and of the RESTORE
placements made over the arrival in hand. -/
def State.returned (s : State) : List Byte := (s.handling.map (·.returned)).getD []

/-- An entry noted as one of them. -/
def State.noteReturn (s : State) (id : Byte) : State := s.note fun h => { h with returned := id :: h.returned }

/-- Whether a monitor's try placed the entry of an id over the arrival in hand (R149). -/
def State.triedNow (s : State) (id : Byte) : Bool := ((s.handling.map (·.tries)).getD []).contains id

/-- Whether outlet `k`'s monitor has made its try of the arrival in hand (R148). -/
def State.triedBy (s : State) (k : Outlet) : Bool := ((s.handling.map (·.tried)).getD []).contains k

/-- The try of outlet `k`'s monitor noted as made. -/
def State.noteTry (s : State) (k : Outlet) : State := s.note fun h => { h with tried := k :: h.tried }

/-- Whether outlet `k`'s meter formed a window result over the arrival in hand (R143). -/
def State.formedNow (s : State) (k : Outlet) : Bool := ((s.handling.map (·.formed)).getD []).contains k

/-! ### Events (R173) -/

/-- An event with no origin and no tag. -/
def EventOrigin.nobody : EventOrigin := { origin := none, sweep := false, tag := none }

/-- The origin, sweep mark and tag of an entry. -/
def Entry.eventOrigin (e : Entry) : EventOrigin := { origin := some e.origin, sweep := e.sweep, tag := e.tag }

/-- A port with its event queue replaced; the alert line follows the queue at once (R174). -/
def Port.withEvents (p : Port) (events : List Event) : Port := { p with events := events, alert := !events.isEmpty }

/-- A port offered an event: appended, or dropped with the overflow flag set (R173). -/
def Port.offer (p : Port) (e : Event) : Port :=
  if p.events.length < Config.eventQueueSize then p.withEvents (p.events ++ [e]) else { p with overflow := true }

/-- An event posted to one link's queue. -/
def State.postTo (s : State) (x : Link) (body : EventBody) (source : EventOrigin) : State :=
  s.setPort x ((s.port x).offer { body := body, source := source, stamp := s.stamp })

/-- An event posted to both links' queues (R173). -/
def State.post (s : State) (body : EventBody) (source : EventOrigin) : State :=
  (s.postTo .a body source).postTo .b body source

end Sys2Proof.Machine
end

