-- ==== Sys2Proof/Machine/FrontEnd.lean ====
section
/-! DEFINITION. The Sample Front End (chapter 1): the counters, the correction, the sense windows and the breakers' debounce. -/

namespace Sys2Proof.Machine

/-- Whether the next rise of the sample-in-second is the one that becomes 0 (R13). -/
def State.atSecondsEnd (s : State) : Bool := decide (Config.samplesPerSecond ≤ s.subSecond + 1)

/-- The sample-in-second returning to 0 and the seconds counter advancing (R13). -/
def State.advanceSecond (s : State) : State := s.setClock s.sampleCounter (s.seconds + 1) 0

/-- The counters at a sample arrival (R12, R13). -/
def State.advanceClock (s : State) : State :=
  if s.atSecondsEnd then (s.setClock (s.sampleCounter + 1) s.seconds s.subSecond).advanceSecond
  else s.setClock (s.sampleCounter + 1) s.seconds (s.subSecond + 1)

/-- The timestamp of the arrival in hand, the counters having advanced: the one that its events carry, and those of the
requests taken before the next arrival handled (R14). -/
def State.stampArrival (s : State) : State := s.setStamp s.now

/-- Whether the seconds counter advanced at the arrival in hand: the sample-in-second is 0 only then (R13). -/
def State.ticked (s : State) : Bool := s.subSecond == 0

/-- The age of an outlet's last active sample after a level (R8). -/
def nextAge (active : Bool) (age : Nat) : Nat := if active then 0 else holdUp Config.senseAgeMax age

/-- The breaker level a line shows: high while the breaker is open (section 1.4). -/
def lineLevel (high : Bool) : BreakerLevel := if high then .opened else .closed

/-- The debounce state after one arrival's line level (R10, R11). -/
def Breaker.next (br : Breaker) (high : Bool) : Breaker :=
  match br.level with
  | none => { level := some (lineLevel high), run := 0 }
  | some l =>
    if lineLevel high = l then { br with run := 0 }
    else if Config.debounceLength ≤ br.run + 1 then { level := some (lineLevel high), run := 0 }
    else { br with run := br.run + 1 }

/-- What the front end hands on for a sample set, with the gains and offsets standing (R3, R5, R6). -/
def handedOf (c : Settings) (set : SampleSet) : Handed :=
  { volts := tab3 fun f => corrected (look set.volts f).toInt (look c.vOffset f) (look c.vGain f)
    vClip := tab3 fun f => clipIndication (look set.volts f).toInt (look c.vOffset f) (look c.vGain f)
    amps := tab24 fun k => corrected (look set.amps k).toInt (look c.iOffset k) (look c.iGain k)
    aClip := tab24 fun k => clipIndication (look set.amps k).toInt (look c.iOffset k) (look c.iGain k)
    sense := set.sense
    breaker := set.breaker }

/-- The sample set corrected and handed on, the sense windows and the debounce states updated from it (R3). -/
def State.takeSet (s : State) (set : SampleSet) : State :=
  { s with
    handed := handedOf s.settings set
    senseAge := tab24 fun k => nextAge (look set.sense k) (look s.senseAge k)
    breakers := tab6 fun b => (look s.breakers b).next (look set.breaker b) }

end Sys2Proof.Machine
end

