-- ==== Sys2Proof/Machine/FeedTracker.lean ====
section
/-! DEFINITION. The Feed Tracker (chapter 2). -/

namespace Sys2Proof.Machine

/-! ### Closing a cycle (R21 stages 1 and 2, R25, R26) -/

/-- The feed cycle result of the open cycle (R21). -/
def Tracker.feedCycle (t : Tracker) (kind : CloseKind) : FeedCycle :=
  { vcV := vcvOf t.cyc.sv t.cyc.n, n := t.cyc.n, clip := t.cyc.clip, synthetic := kind == .synthetic }

/-- The window closed: its result formed over W = 2^w cycles and its count, sums and marks set to zero (R25). -/
def Tracker.closeWindow (t : Tracker) (w : Nat) : Tracker :=
  { t with
    windowResult := some { vcV := vcvOf t.win.sv t.win.total, total := t.win.total, length := 2 ^ w,
                           clip := t.win.clip, synthetic := t.win.synthetic }
    win := OpenWindow.empty }

/-- The closed cycle added to the window (R25). -/
def Tracker.addToWindow (t : Tracker) (kind : CloseKind) : Tracker :=
  { t with win :=
      { count := t.win.count + 1, sv := t.win.sv + t.cyc.sv, total := t.win.total + t.cyc.n,
        clip := t.win.clip || t.cyc.clip, synthetic := t.win.synthetic || kind == .synthetic, skip := t.win.skip } }

/-- What the window does with the cycle that closes (R25, R26). -/
def Tracker.windowDirection (t : Tracker) (w : Nat) : WindowDirection :=
  if t.win.skip then .leaveOut else if 2 ^ w ≤ t.win.count + 1 then .addAndClose else .add

/-- The window stage of a close (R25, R26). -/
def Tracker.windowStage (t : Tracker) (kind : CloseKind) (w : Nat) : Tracker :=
  match t.windowDirection w with
  | .leaveOut => { t with win := { t.win with skip := false } }
  | .add => t.addToWindow kind
  | .addAndClose => (t.addToWindow kind).closeWindow w

/-! ### Feed states (R22) -/

/-- Whether the cycle that closes is in range. -/
def Tracker.closesInRange (t : Tracker) (kind : CloseKind) : Bool :=
  t.cyc.began == .crossing && kind == .crossing && decide (118 ≤ t.cyc.n) && decide (t.cyc.n ≤ 171)

/-- Whether the cycle that closes is off-range: it began at and was closed by a crossing, with n in 112 to 117 or 172 to 191. -/
def Tracker.closesOffRange (t : Tracker) (kind : CloseKind) : Bool :=
  t.cyc.began == .crossing && kind == .crossing && !t.closesInRange kind

/-- The feed state and the acquisition count after a close (R22's table). -/
def Tracker.nextState (t : Tracker) (kind : CloseKind) : FeedState × Nat :=
  match t.state, kind with
  | .noLine, .crossing => (.acquiring, 0)
  | .noLine, .synthetic => (.noLine, t.acquired)
  | .lost, .crossing => (.acquiring, 0)
  | .lost, .synthetic => (.lost, t.acquired)
  | .acquiring, .synthetic => (.lost, 0)
  | .tracking, .synthetic => (.lost, t.acquired)
  | .acquiring, .crossing =>
    if t.closesInRange kind then
      if Config.acquisitionLength ≤ t.acquired + 1 then (.tracking, 0) else (.acquiring, t.acquired + 1)
    else if t.closesOffRange kind then (.acquiring, 0)
    else (.acquiring, t.acquired)
  | .tracking, .crossing => if t.closesOffRange kind then (.acquiring, 0) else (.tracking, t.acquired)

/-! ### Frequency capture (R27, R28) -/

/-- The frequency result formed from the span since the anchor, the crossing becoming the new anchor (R27). -/
def Tracker.formFrequency (t : Tracker) (c : Nat) (anchor crossing : BitVec 40) (stamp : Timestamp) : Tracker :=
  { t with frequency := some { mHz := frequencyOf c (crossing - anchor), divider := c, stamp := stamp },
           anchor := some crossing, inRange := 0 }

/-- Frequency capture at an accepted crossing; `good` says that the closed cycle is in range (R27). -/
def Tracker.capture (t : Tracker) (good : Bool) (c : Nat) (crossing : BitVec 40) (stamp : Timestamp) : Tracker :=
  match t.anchor with
  | none => { t with anchor := some crossing, inRange := 0 }
  | some a =>
    if good then
      if c ≤ t.inRange + 1 then { t with inRange := t.inRange + 1 }.formFrequency c a crossing stamp
      else { t with inRange := t.inRange + 1 }
    else { t with anchor := some crossing, inRange := 0 }

/-- Frequency capture at a synthetic close (R27). -/
def Tracker.captureNone (t : Tracker) : Tracker := { t with anchor := none, inRange := 0 }

/-! ### The two closes (R19, R20) -/

/-- The tracker after a close, less what its kind adds: the results, the window, the feed state and the notice (R21, R22). -/
def Tracker.close (t : Tracker) (kind : CloseKind) (w : Nat) : Tracker :=
  { t.windowStage kind w with
    cycleResult := some (t.feedCycle kind)
    state := (t.nextState kind).1
    acquired := (t.nextState kind).2
    frequency := if (t.nextState kind).1 = .lost ∧ t.state ≠ .lost then none else t.frequency
    notice := { close := some { kind := kind, n := t.cyc.n, window := t.windowDirection w }
                left := if (t.nextState kind).1 = t.state then none else some t.state
                enteredTracking := (t.nextState kind).1 == .tracking && t.state != .tracking
                leftTracking := t.state == .tracking && (t.nextState kind).1 != .tracking } }

/-- The close of a synthetic cycle: the next opens empty; phase, Tp and detector stay (R20). -/
def Tracker.closeSynthetic (t : Tracker) (w : Nat) : Tracker :=
  { (t.close .synthetic w).captureNone with cyc := OpenCycle.empty .synthetic }

/-- The close by an accepted crossing: the arrival's sample opens the next cycle (R18, R19). -/
def Tracker.closeCrossing (t : Tracker) (w c : Nat) (v : Int) (clip : Bool) (crossing : BitVec 40) (stamp : Timestamp) :
    Tracker :=
  { (t.close .crossing w).capture (t.closesInRange .crossing) c crossing stamp with
    cyc := { n := 1, sv := (v * v).toNat, clip := clip, began := .crossing }
    phase := 0
    tp := t.cyc.n
    lastCrossing := some crossing }

/-! ### One arrival (R15 to R20) -/

/-- Whether the detector finds a rising crossing (R16). -/
def Tracker.findsCrossing (t : Tracker) (v : Int) : Bool := t.armed && decide (0 ≤ v)

/-- The detector after an arrival (R16). -/
def Tracker.detect (t : Tracker) (v : Int) : Bool := if t.armed then decide (v < 0) else decide (v ≤ -128)

/-- Whether the arrival's crossing is accepted (R17). -/
def Tracker.accepts (t : Tracker) (v : Int) : Bool := t.findsCrossing v && decide (Config.minCycle ≤ t.cyc.n)

/-- The arrival's sample counted into the open cycle, the phase one on (R19). -/
def Tracker.countSample (t : Tracker) (v : Int) (clip : Bool) : Tracker :=
  { t with cyc := { t.cyc with n := t.cyc.n + 1, sv := t.cyc.sv + (v * v).toNat, clip := t.cyc.clip || clip }
           phase := holdUp 65535 t.phase }

/-- A tracker's pass over one arrival (R15). -/
def Tracker.pass (t : Tracker) (w c : Nat) (sample : BitVec 32) (stamp : Timestamp) (v : Int) (clip : Bool) : Tracker :=
  { (if t.accepts v then t.closeCrossing w c v clip (crossingStamp sample t.prevV v) stamp
     else if Config.syntheticLength ≤ t.cyc.n + 1 then (t.countSample v clip).closeSynthetic w
     else t.countSample v clip) with
    armed := t.detect v
    prevV := v }

/-- FEED_STATE, posted at a change of feed state except on leaving NO_LINE (R23). -/
def State.feedStateTurn (s : State) (f : Feed) : State :=
  match (s.tracker f).notice.left with
  | none => s
  | some .noLine => s
  | some left => s.post (.feedState f (s.tracker f).state left) EventOrigin.nobody

/-- Tracker `f`'s pass over the arrival in hand (R15). -/
def State.trackerPass (s : State) (f : Feed) : State :=
  s.setTracker f ((s.tracker f).pass (look s.settings.windowExp f) (look s.settings.divider f) s.sampleCounter s.stamp
    (look s.handed.volts f) (look s.handed.vClip f))

/-- A synthetic close taken by itself (R20, R23). -/
def State.trackerSynthetic (s : State) (f : Feed) : State :=
  (s.setTracker f ((s.tracker f).closeSynthetic (look s.settings.windowExp f))).feedStateTurn f

/-- The trackers' notices emptied: what they handed on belongs to one arrival (R24). -/
def State.clearNotices (s : State) : State :=
  allFeeds.foldl (fun s f => s.setTracker f { s.tracker f with notice := Notice.quiet }) s

/-! ### Settings (R26, R28) -/

/-- The partial window discarded and the skip mark set (R26). -/
def Tracker.discardWindow (t : Tracker) : Tracker := { t with win := { OpenWindow.empty with skip := true } }

end Sys2Proof.Machine
end

