-- ==== Sys2Proof/Machine/Metering.lean ====
section
/-! DEFINITION. The Outlet Meter (chapter 3) and its energy registers (chapter 4). -/

namespace Sys2Proof.Machine

/-- One sample added to the open cycle (R33). -/
def Meter.addSample (m : Meter) (v i : Int) (clip : Bool) : Meter :=
  { m with sp := m.sp + v * i, si := m.si + (i * i).toNat, clip := m.clip || clip }

/-- The cycle result of the open cycle (R36 to R40). -/
def Meter.formCycle (m : Meter) (fc : FeedCycle) (threshold : Nat) (stamp : Timestamp) : CycleResult :=
  { pmW := pmwOf m.sp fc.n
    imA := imaOf m.si fc.n
    smVA := smvaOf fc.vcV (imaOf m.si fc.n)
    pf := pfOf threshold (imaOf m.si fc.n) (smvaOf fc.vcV (imaOf m.si fc.n)) (pmwOf m.sp fc.n)
    n := fc.n
    clip := m.clip || fc.clip
    noLoad := noLoadOf threshold (imaOf m.si fc.n) (smvaOf fc.vcV (imaOf m.si fc.n))
    synthetic := fc.synthetic
    stamp := stamp }

/-- The window result of the window sums (R44). -/
def Meter.formWindow (m : Meter) (fw : FeedWindow) (threshold : Nat) (stamp : Timestamp) : WindowResult :=
  { pmW := pmwOf m.wsp fw.total
    imA := imaOf m.wsi fw.total
    smVA := smvaOf fw.vcV (imaOf m.wsi fw.total)
    pf := pfOf threshold (imaOf m.wsi fw.total) (smvaOf fw.vcV (imaOf m.wsi fw.total)) (pmwOf m.wsp fw.total)
    total := fw.total
    length := fw.length
    clip := m.wclip || fw.clip
    noLoad := noLoadOf threshold (imaOf m.wsi fw.total) (smvaOf fw.vcV (imaOf m.wsi fw.total))
    synthetic := fw.synthetic
    stamp := stamp }

/-- The closed cycle added to the window (R43). -/
def Meter.addToWindow (m : Meter) : Meter :=
  { m with wsp := m.wsp + m.sp, wsi := m.wsi + m.si, wclip := m.wclip || m.clip }

/-- The window sums and mark cleared (R43, R45). -/
def Meter.clearWindow (m : Meter) : Meter := { m with wsp := 0, wsi := 0, wclip := false }

/-- The window result formed and the window cleared (R43, R44). -/
def Meter.closeWindow (m : Meter) (fw : Option FeedWindow) (threshold : Nat) (stamp : Timestamp) : Meter :=
  match fw with
  | none => m.clearWindow
  | some r => { m.clearWindow with windowResult := some (m.formWindow r threshold stamp) }

/-- Whether the meter forms a cycle result at a close (R35). -/
def Meter.formsCycle (m : Meter) : Bool := !m.skip

/-- Whether the meter forms a window result at a close with this direction (R43). -/
def Meter.formsWindow (m : Meter) (d : WindowDirection) : Bool := m.formsCycle && !m.waiting && d == .addAndClose

/-- The window action of a close, for a JOINED meter whose cycle formed a result (R43). -/
def Meter.windowAction (m : Meter) (d : WindowDirection) (fw : Option FeedWindow) (threshold : Nat) (stamp : Timestamp) :
    Meter :=
  if m.formsCycle && !m.waiting then
    match d with
    | .add => m.addToWindow
    | .addAndClose => m.addToWindow.closeWindow fw threshold stamp
    | .leaveOut => m
  else m

/-- The outlet-results stage of a close for one meter (R35, R43, R46): the cycle result or the skip mark, the window
action, WAITING becoming JOINED where the feed's window holds no cycles after the close, and the sums cleared. -/
def Meter.close (m : Meter) (d : WindowDirection) (fc : FeedCycle) (fw : Option FeedWindow) (threshold : Nat)
    (stamp : Timestamp) : Meter :=
  { m.windowAction d fw threshold stamp with
    cycleResult := if m.formsCycle then some (m.formCycle fc threshold stamp) else m.cycleResult
    skip := false
    waiting := m.waiting && d == .add
    sp := 0
    si := 0
    clip := false }

/-- The energy stage of a close for one meter (R56, R57): nothing for a skipped or suppressed cycle. -/
def Energy.stage (e : Energy) (m : Meter) (fc : FeedCycle) (creep : Nat) : Energy :=
  if m.formsCycle && decide (creep ≤ (pmwOf m.sp fc.n).natAbs) then e.add m.sp else e

/-- The outlet-results and energy stages of a close of feed `f` for outlet `k` (R21 stages 3 and 4). -/
def State.meterClose (s : State) (k : Outlet) (n : CloseNotice) : State :=
  match (s.tracker (s.feedOf k)).cycleResult with
  | none => s
  | some fc =>
    (s.setEnergy k ((s.energyOf k).stage (s.meter k) fc s.settings.creep)).setMeter k
      ((s.meter k).close n.window fc (s.tracker (s.feedOf k)).windowResult s.settings.noLoad s.stamp)

/-- The arrival's sample added to outlet `k`'s open cycle (R31, R33). -/
def State.meterSample (s : State) (k : Outlet) : State :=
  s.setMeter k ((s.meter k).addSample (look s.handed.volts (s.feedOf k)) (look s.handed.amps k) (look s.handed.aClip k))

/-- Outlet `k`'s meter at the arrival in hand (R33). -/
def State.meterArrival (s : State) (k : Outlet) : State :=
  match (s.tracker (s.feedOf k)).notice.close with
  | none => s.meterSample k
  | some n =>
    match n.kind with
    | .crossing => (s.meterClose k n).meterSample k
    | .synthetic => (s.meterSample k).meterClose k n

/-- Whether outlet `k`'s meter forms a window result at the close its feed's tracker hands on. -/
def State.formsWindow (s : State) (k : Outlet) : Bool :=
  match (s.tracker (s.feedOf k)).notice.close with
  | none => false
  | some n => (s.meter k).formsWindow n.window

/-- A meter moved to another feed (R46). -/
def Meter.realign (m : Meter) : Meter :=
  { m.clearWindow with sp := 0, si := 0, clip := false, skip := true, waiting := true }

end Sys2Proof.Machine
end

