-- ==== Sys2Proof/Machine/Sequencer.lean ====
section
/-! DEFINITION. The hand-over of an ordinary step to a Relay Driver (R108), and the Close Sequencer (chapter 6): the waiting
line, the test of its head, admission, and the end of the close in progress. -/

namespace Sys2Proof.Machine

/-! ### Hand-over of an ordinary step (R108) -/

/-- The delay a step of this direction latches. -/
def State.delayFor (s : State) (k : Outlet) : Direction → Nat
  | .close => look s.settings.closeDelay k
  | .opening => look s.settings.openDelay k

/-- The step recorded at a hand-over (R108, R120): synchronized when the outlet's feed tracks. -/
def State.newStep (s : State) (k : Outlet) (direction : Direction) (source : StepSource) : Step :=
  { direction := direction, source := source, feed := s.feedOf k, sync := s.isTracking (s.feedOf k),
    delay := s.delayFor k direction, pulse := look s.settings.pulseLength k, retry := 0,
    metRising := false, metFalling := false, feedLeft := false }

/-- An ordinary step handed to outlet `k`'s driver: WAIT_PHASE when synchronized, else WAIT_SLOT at once (R108). -/
def State.handOver (s : State) (k : Outlet) (direction : Direction) : State :=
  let step := s.newStep k direction .entry
  s.setDriver k { s.driver k with step := some step, state := if step.sync then .waitPhase else .waitSlot }

/-! ### The head of the line (R97, R100) -/

/-- The headroom condition for the head outlet `k` of branch `b` (R97 condition 4, R100). -/
def State.headroom (s : State) (b : Branch) (k : Outlet) : Bool :=
  look s.settings.branchLimit b == 0 ||
    decide ((s.protection b).sum.getD 0 + (s.meter k).remembered ≤ look s.settings.branchLimit b)

/-- The blocking reason of an outlet's close at the head of branch `b`'s line: the first condition of R97 that fails. -/
def State.blockReason (s : State) (b : Branch) (k : Outlet) : BlockReason :=
  if (s.protection b).state ≠ .normal ∧ (s.protection b).state ≠ .restoring then .state
  else if (s.sequencer b).inProgress.isSome then .inProgress
  else if (s.sequencer b).stagger < look s.settings.staggerSet b then .stagger
  else if s.headroom b k then .none
  else .headroom

/-- The blocking reason after an admission: NONE for an empty line, IN_PROGRESS for the new head (R97). -/
def reasonBehind (rest : List Byte) : BlockReason := if rest.isEmpty then .none else .inProgress

/-- The head admitted (R98, R101): it becomes the close in progress with a clear pulse mark, its entry enters CLOSING and has
begun, and its close step is handed over. -/
def State.admitHead (s : State) (b : Branch) (id : Byte) (rest : List Byte) (k : Outlet) : State :=
  ((s.setSequencer b { s.sequencer b with line := rest, inProgress := some id, pulseMark := false,
                                          reason := reasonBehind rest }).modEntry id
      fun e => { e with phase := .closing, begun := true }).handOver k .close

/-- The test of the head of branch `b`'s line (R101). -/
def State.testHead (s : State) (b : Branch) : State :=
  match (s.sequencer b).line with
  | [] => s.setSequencer b { s.sequencer b with reason := .none }
  | id :: rest =>
    match s.entryById id with
    | none => s
    | some e =>
      match s.blockReason b e.outlet with
      | .none => s.admitHead b id rest e.outlet
      | r => s.setSequencer b { s.sequencer b with reason := r }

/-! ### Joining and leaving the line (R94, R95) -/

/-- The place of outlet `k`'s entry among those that R94 keeps in ascending outlet order: at the tail, but ahead of one of
them, `returned`, that is a higher outlet's. -/
def insertReturned (outletOf : Byte → Option Outlet) (returned : List Byte) (k : Outlet) (id : Byte) : List Byte → List Byte
  | [] => [id]
  | h :: t =>
    if returned.contains h && ((outletOf h).map fun o => decide (k < o)).getD false then id :: h :: t
    else h :: insertReturned outletOf returned k id t

/-- A line that an entry has joined (R94): at the tail; an off hold that ended or a RESTORE placement made over the arrival in
hand among the others of that kind. DEDUCED, safe (assumption 1). -/
def State.lineWith (s : State) (e : Entry) (line : List Byte) : List Byte :=
  if s.returned.contains e.id then
    insertReturned (fun id => (s.entryById id).map (·.outlet)) s.returned e.outlet e.id line
  else line ++ [e.id]

/-- An entry joins its branch's waiting line, and is tested at once where it has become the head (R94, R101). -/
def State.joinLine (s : State) (e : Entry) : State :=
  let b := s.branchOf e.outlet
  let q := s.sequencer b
  let line := s.lineWith e q.line
  let s' := (s.modEntry e.id fun x => { x with phase := .waitAdmit }).setSequencer b { q with line := line }
  if line.head? = some e.id then s'.testHead b else s'

/-- An entry's id leaves its branch's line; a new head is tested at once, an emptied line has the reason NONE (R95). -/
def State.leaveLine (s : State) (b : Branch) (id : Byte) : State :=
  let q := s.sequencer b
  let s' := s.setSequencer b { q with line := q.line.erase id }
  if q.line.head? = some id then s'.testHead b else s'

/-! ### The end of the close in progress (R98, R99) -/

/-- The sequencer with no close in progress; the stagger count is zeroed where a pulse was made. DEDUCED, safe
(assumption 14): the pulse mark stands until the next admission clears it. -/
def Sequencer.endClose (q : Sequencer) : Sequencer :=
  { q with inProgress := none, stagger := if q.pulseMark then 0 else q.stagger }

/-- The close in progress of branch `b` ends and the head is tested at once (R98). -/
def State.endClose (s : State) (b : Branch) : State := (s.setSequencer b (s.sequencer b).endClose).testHead b

/-- An entry's completion handed to the Close Sequencer of its branch (R81, R95, R98). -/
def State.sequencerCompletion (s : State) (b : Branch) (id : Byte) : State :=
  if (s.sequencer b).inProgress = some id then s.endClose b
  else if (s.sequencer b).line.contains id then s.leaveLine b id
  else s

/-- The sequencer's part of a branch-sum stage: the stagger count (R99), then the test of the head (R101). -/
def State.sequencerStage (s : State) (b : Branch) : State :=
  (s.setSequencer b { s.sequencer b with stagger := holdUp Config.byteMax (s.sequencer b).stagger }).testHead b

/-- The driver's report of a pulse start of a close step (R98, R113). -/
def State.pulseStarted (s : State) (b : Branch) : State := s.setSequencer b { s.sequencer b with pulseMark := true }

end Sys2Proof.Machine
end

