-- ==== Sys2Proof/Machine/MonitorCore.lean ====
section
/-! DEFINITION. The Hang Monitor's own moves (chapter 9): heartbeats, evidence, pause, completions and grace. What a verdict
does to the queue stands in Machine/HangMonitor.lean. -/

namespace Sys2Proof.Machine

/-- The window length of a monitor in samples (chapter 9). -/
def State.windowLength (s : State) (k : Outlet) : Nat := look s.settings.monWindow k * Config.monitorUnit

/-- Whether outlet `k` is paused: unless its contact is CLOSED, it has no entry and its fault is none (R140). -/
def State.paused (s : State) (k : Outlet) : Bool :=
  !(s.contact k == .closed && (s.entryOf k).isNone && (s.driver k).fault.isNone)

/-- The evidence cleared (R143). -/
def Monitor.clearEvidence (m : Monitor) : Monitor := { m with evidence := 0, spread := none }

/-- A heartbeat at a monitor that is not OFF (R142). -/
def Monitor.heartbeat (m : Monitor) : Monitor :=
  { m.clearEvidence with state := .watching, silence := 0, retries := 0, activeMark := false,
                         placementPending := false, grace := 0 }

/-- A heartbeat at outlet `k` (R142): nothing at a monitor that is OFF. -/
def State.heartbeatAt (s : State) (k : Outlet) : State :=
  if (s.monitor k).state = .off then s else s.setMonitor k (s.monitor k).heartbeat

/-- One window result taken into the evidence (R143). -/
def Monitor.takeEvidence (m : Monitor) (pmW : Int) : Monitor :=
  { m with
    evidence := holdUp Config.byteMax m.evidence
    spread := match m.spread with
      | none => some (pmW, pmW)
      | some (lo, hi) => if m.evidence = 0 then some (pmW, pmW) else some (min lo pmW, max hi pmW) }

/-- The stall test with a stall band (R144). -/
def Monitor.stallPasses (m : Monitor) (band : Nat) : Bool :=
  band == 0 || (m.evidence != 0 && match m.spread with
    | none => false
    | some (lo, hi) => decide (hi - lo ≤ (band : Int)))

/-- Entering GRACE with the boot grace setting standing (R151). -/
def Monitor.enterGrace (m : Monitor) (bootGrace : Nat) : Monitor :=
  { m with state := .grace, grace := bootGrace * 5, placementPending := false }

/-- Grace expired: WATCHING with silence 0, evidence and active mark cleared, the retry count kept (R151). -/
def Monitor.expireGrace (m : Monitor) : Monitor :=
  { m.clearEvidence with state := .watching, silence := 0, activeMark := false, grace := 0 }

/-- A CLOSE completed DONE: IDLE with silence 0 and the retry count kept (R150). -/
def Monitor.closeDone (m : Monitor) : Monitor :=
  { m with state := .idle, silence := 0, placementPending := false, grace := 0 }

/-- A completion on the outlet (R150's table). -/
def Monitor.completion (m : Monitor) (kind : Kind) (origin : Origin) (result : ActionResult) (bootGrace : Nat) : Monitor :=
  if m.state = .off then m
  else if result = .done then
    match kind with
    | .cycle => m.enterGrace bootGrace
    | .closing => m.closeDone
    | .opening => m
  else if kind = .cycle ∧ origin = .monitor ∧ m.state = .expired then { m with state := .watching }
  else m

/-- A completion handed to outlet `k`'s monitor (R81, R150). -/
def State.monitorCompletion (s : State) (k : Outlet) (kind : Kind) (origin : Origin) (result : ActionResult) : State :=
  s.setMonitor k ((s.monitor k).completion kind origin result (look s.settings.bootGrace k))

/-- A pending verdict withdrawn (R149). -/
def Monitor.withdraw (m : Monitor) : Monitor :=
  if m.state = .expired ∧ m.placementPending = true then { m with state := .watching, placementPending := false } else m

/-- MONITOR_RESET's effect, and that of a change of the window setting to a value other than 0 (R152, R153). -/
def Monitor.reset : Monitor := Monitor.initial .idle

/-- The grace timer at an advance of the seconds counter (R151). -/
def Monitor.graceFall (m : Monitor) : Monitor := if m.state = .grace then { m with grace := m.grace - 1 } else m

/-- Grace expiry at outlet `k`, where its timer stands at 0 (R151). -/
def State.graceTurn (s : State) (k : Outlet) : State :=
  if (s.monitor k).state = .grace ∧ (s.monitor k).grace = 0 then s.setMonitor k (s.monitor k).expireGrace else s

end Sys2Proof.Machine
end

