-- ==== Sys2Proof/Machine/ActionQueue.lean ====
section
/-! DEFINITION. The Action Queue (chapter 5): ids, placement, the first step, completion, and the off hold. -/

namespace Sys2Proof.Machine

/-! ### Completion (R81) -/

/-- An entry completes: it leaves the queue, ACTION_ENDED is posted, and the completion is handed to the outlet's monitor
and the branch's sequencer (R81). -/
def State.complete (s : State) (e : Entry) (result : ActionResult) (detail : ResultDetail) : State :=
  ((((s.setEntries (s.entries.filter fun x => x.id != e.id)).post
      (.actionEnded e.outlet e.id e.kind result detail) e.eventOrigin).monitorCompletion e.outlet e.kind e.origin result
      ).sequencerCompletion (s.branchOf e.outlet) e.id)

/-! ### The first step (R75) -/

/-- The entry enters OPENING and its open step is handed over (R75). -/
def State.startOpening (s : State) (e : Entry) : State :=
  (s.modEntry e.id fun x => { x with phase := .opening, begun := true }).handOver e.outlet .opening

/-- The entry enters OFF_HOLD with its off time (R75, R77). -/
def State.startOffHold (s : State) (e : Entry) : State :=
  s.modEntry e.id fun x => { x with phase := .offHold, begun := true, offHold := x.offTime }

/-- The table of R75 for an entry whose turn has come. -/
def State.stepEntry (s : State) (e : Entry) : State :=
  match e.kind, s.contact e.outlet with
  | .opening, .opened => s.complete e .done .noPulse
  | .opening, _ => s.startOpening e
  | .closing, .closed => s.complete e .done .noPulse
  | .closing, _ => s.joinLine e
  | .cycle, .opened => s.startOffHold e
  | .cycle, _ => s.startOpening e

/-- Outlet `k`'s entry takes its first step where it stands in QUEUED and the driver is IDLE (R75). -/
def State.firstStep (s : State) (k : Outlet) : State :=
  match s.entryOf k with
  | none => s
  | some e => if e.phase = .queued ∧ (s.driver k).state = .idle then s.stepEntry e else s

/-! ### Placement (R69, R70, R71, R83) -/

/-- The first id from `id` on that no live entry holds, looking at most `fuel` ids ahead (R69). -/
def freeIdFrom (live : List Byte) : Nat → Byte → Byte
  | 0, id => id
  | fuel + 1, id => if live.contains id then freeIdFrom live fuel (id + 1) else id

/-- The id the next placement takes (R69). -/
def State.freeId (s : State) : Byte := freeIdFrom (s.entries.map (·.id)) 256 s.nextId

/-- The entry a placement makes, in QUEUED (R69 to R71). -/
def State.newEntry (s : State) (k : Outlet) (kind : Kind) (origin : Origin) (sweep : Bool) (tag : Option Byte)
    (offTime : Nat) : Entry :=
  { id := s.freeId, outlet := k, kind := kind, origin := origin, sweep := sweep, tag := tag,
    offTime := if kind = .cycle then offTime else 0, phase := .queued, offHold := 0, preempt := false, begun := false }

/-- The tripped flag cleared by an accepted CLOSE or CYCLE (R83). -/
def State.answerTrip (s : State) (k : Outlet) (kind : Kind) : State :=
  if kind = .opening then s else s.setTripped k false

/-- A placement: the entry stands at the tail in QUEUED and takes its first step (R70, R72 check 8, R74). -/
def State.place (s : State) (k : Outlet) (kind : Kind) (origin : Origin) (sweep : Bool) (tag : Option Byte)
    (offTime : Nat) : State :=
  let e := s.newEntry k kind origin sweep tag offTime
  ((((s.setEntries (s.entries ++ [e])).setNextId (e.id + 1)).answerTrip k kind).firstStep k)

/-! ### The off hold (R78) -/

/-- The off-hold remaining time at an advance of the seconds counter (R78). -/
def Entry.offHoldFall (e : Entry) : Entry := if e.phase = .offHold then { e with offHold := e.offHold - 1 } else e

/-- The end of outlet `k`'s off hold, where its remaining time stands at 0: the entry joins the waiting line (R78). -/
def State.offHoldTurn (s : State) (k : Outlet) : State :=
  match s.entryOf k with
  | none => s
  | some e => if e.phase = .offHold ∧ e.offHold = 0 then (s.noteReturn e.id).joinLine e else s

end Sys2Proof.Machine
end

