-- ==== Sys2Proof/Machine/RelayDriver.lean ====
section
/-! DEFINITION. The Relay Driver (chapter 7): how a step ends, the verify window, retry and fault, urgent opens and the
pre-emption they make (R86), giving up, discovery, and the Coil Arbiter. -/

namespace Sys2Proof.Machine

/-! ### The contact state (R50, R101, R149) -/

/-- The remembered load set from the latest window result, or 0 (R50). -/
def State.rememberLoad (s : State) (k : Outlet) : State :=
  s.setMeter k { s.meter k with remembered := ((s.meter k).windowResult.map (·.imA)).getD 0 }

/-- The head of a branch's line tested where it is outlet `k`'s entry, its remembered load having been set (R101). -/
def State.testHeadOf (s : State) (k : Outlet) : State :=
  match (s.sequencer (s.branchOf k)).line with
  | [] => s
  | id :: _ => if (s.entryById id).map (·.outlet) = some k then s.testHead (s.branchOf k) else s

/-- A change of contact state: a change to OPEN sets the remembered load (R50), and a change to OPEN or UNKNOWN withdraws a
pending verdict (R149). -/
def State.setContact (s : State) (k : Outlet) (c : Contact) : State :=
  let old := s.contact k
  let s1 := s.setDriver k { s.driver k with contact := c }
  if c = old then s1
  else
    match c with
    | .closed => s1
    | .unknown => s1.setMonitor k (s1.monitor k).withdraw
    | .opened => ((s1.rememberLoad k).setMonitor k ((s1.rememberLoad k).monitor k).withdraw).testHeadOf k

/-! ### The end of a step (R115, R116, R77, R79) -/

/-- The contact state a direction commands. -/
def Direction.contact : Direction → Contact
  | .close => .closed
  | .opening => .opened

/-- Outlet `k`'s entry as the origin of an event of its step; an urgent open carries none (R116). -/
def State.stepOrigin (s : State) (k : Outlet) (source : StepSource) : EventOrigin :=
  match source, s.entryOf k with
  | .entry, some e => e.eventOrigin
  | _, _ => EventOrigin.nobody

/-- The detail of a step's result in ACTION_ENDED. -/
def HowSet.detail : HowSet → ResultDetail
  | .unverified => .unverified
  | _ => .none

/-- A result VERIFIED or UNVERIFIED delivered to the entry whose step it was (R77, R79). The end of an urgent open pre-empts a
CYCLE that the outlet's monitor placed over the same arrival (R149); its ACTION_ENDED stands behind OUTLET_SWITCHED. DEDUCED,
unsafe (assumption 13). -/
def State.reportEnd (s : State) (k : Outlet) (source : StepSource) (how : HowSet) : State :=
  match source, s.entryOf k with
  | .entry, some e => if e.kind = .cycle ∧ e.phase = .opening then s.startOffHold e else s.complete e .done how.detail
  | .urgent _, some e => if s.triedNow e.id then s.complete e .preempted .none else s
  | _, none => s

/-- The driver with no step in hand, IDLE. -/
def Driver.idle (d : Driver) : Driver :=
  { d with state := .idle, step := none, pulseCount := 0, skip := 0, observe := 0, activeSeen := false,
           waitingUrgent := none }

/-- The VERIFIED or UNVERIFIED end of a step (R115, R116): the contact state, OUTLET_SWITCHED, the result to its source, and
the turn of an entry waiting in QUEUED. -/
def State.endStep (s : State) (k : Outlet) (step : Step) (how : HowSet) : State :=
  let origin := s.stepOrigin k step.source
  (((((s.setDriver k (s.driver k).idle).setContact k step.direction.contact).post
    (.outletSwitched k step.direction.contact how) origin).reportEnd k step.source how).firstStep k)

/-! ### Relay fault (R118, R82) -/

/-- The fault a failed step of a direction names. -/
def Direction.fault : Direction → RelayFault
  | .close => .stuckOpen
  | .opening => .stuckClosed

/-- The contact state a fault shows. -/
def RelayFault.contact : RelayFault → Contact
  | .stuckOpen => .opened
  | .stuckClosed => .closed

/-- The reason a fault names in ACTION_ENDED. -/
def RelayFault.detail : RelayFault → ResultDetail
  | .stuckOpen => .stuckOpen
  | .stuckClosed => .stuckClosed

/-- The outlet's entry, whatever its phase, completes FAILED with the reason of the fault (R82). -/
def State.failEntry (s : State) (k : Outlet) (f : RelayFault) : State :=
  match s.entryOf k with
  | none => s
  | some e => s.complete e .failed f.detail

/-- A relay fault declared (R118): the driver enters FAULTED, a pending verdict is withdrawn (R149), RELAY_FAULT is posted and
the outlet's entry fails. -/
def State.declareFault (s : State) (k : Outlet) (step : Step) : State :=
  let origin := s.stepOrigin k step.source
  let f := step.direction.fault
  let s1 := (s.setDriver k { (s.driver k).idle with state := .faulted, fault := some f }).setContact k f.contact
  (((s1.setMonitor k (s1.monitor k).withdraw).post (.relayFault k f false) origin).failEntry k f)

/-! ### Giving up and withdrawal (R122, R102) -/

/-- The driver drops the step it holds and becomes IDLE, the contact state as it was (R122). -/
def State.giveUp (s : State) (k : Outlet) : State := s.setDriver k (s.driver k).idle

/-- A close withdrawn to the head of its branch's line (R102): the driver gives up, the entry returns to WAIT_ADMIT and
stays begun, its id stands in the line once, at the head, and the close in progress ends. -/
def State.withdrawClose (s : State) (k : Outlet) : State :=
  match s.entryOf k with
  | none => s.giveUp k
  | some e =>
    let b := s.branchOf k
    let s1 := ((s.giveUp k).modEntry e.id fun x => { x with phase := .waitAdmit }).note
      fun h => { h with returned := h.returned.erase e.id }
    (s1.setSequencer b { s1.sequencer b with line := e.id :: (s1.sequencer b).line.erase e.id }).endClose b

/-! ### The verify window (R114, R117) -/

/-- The driver entering VERIFY (R114). -/
def Driver.enterVerify (d : Driver) : Driver :=
  { d with state := .verify, skip := Config.verifySkip, observe := Config.verifyObserve, activeSeen := false, pulseCount := 0 }

/-- Whether a step passes on the active-seen mark (R114). -/
def Step.passes (step : Step) (activeSeen : Bool) : Bool :=
  match step.direction with
  | .close => activeSeen
  | .opening => !activeSeen

/-- The retry: the second pulse's wait, both met marks cleared (R117). -/
def State.retry (s : State) (k : Outlet) (step : Step) : State :=
  s.setDriver k { s.driver k with state := .waitPhase, skip := 0, observe := 0, activeSeen := false,
                                  step := some { step with retry := 1, metRising := false, metFalling := false } }

/-- Whether the branch's state bars a close pulse (R102). -/
def State.closeBarred (s : State) (k : Outlet) : Bool :=
  (s.protection (s.branchOf k)).state == .shed || (s.protection (s.branchOf k)).state == .restartWait

/-- The end of a verify window (R114): VERIFIED, the retry, the fault, or the withdrawal of R102. DEDUCED, unsafe (assumption 7): a
close that fails for the second time while its branch is shed is a fault like any other. -/
def State.endVerify (s : State) (k : Outlet) (step : Step) : State :=
  if step.passes (s.driver k).activeSeen then s.endStep k step .verified
  else if step.retry = 0 then
    if step.direction = .close ∧ step.source = .entry ∧ s.closeBarred k = true then s.withdrawClose k else s.retry k step
  else s.declareFault k step

/-! ### Urgent opens (R86, R120) -/

/-- The outlet's entry pre-empted (R86): a close whose pulse is under way takes the mark, any other entry completes. -/
def State.preemptEntry (s : State) (k : Outlet) : State :=
  match s.entryOf k with
  | none => s
  | some e =>
    if e.phase = .closing ∧ (s.driver k).state = .pulse then s.modEntry e.id fun x => { x with preempt := true }
    else s.complete e .preempted .none

/-- An urgent open taken as a new step (R120). -/
def State.takeUrgent (s : State) (k : Outlet) (mode : UrgentMode) : State :=
  let step := s.newStep k .opening (.urgent mode)
  s.setDriver k { (s.driver k).idle with
    step := some step
    state := if step.sync = true ∧ mode = .openSync then .waitPhase else .waitSlot }

/-- The mode of the urgent open that waits for a close pulse's end, after another has joined it (R120). -/
def joinUrgent (waiting : Option UrgentMode) (mode : UrgentMode) : UrgentMode :=
  match waiting with
  | some .openNow => .openNow
  | _ => mode

/-- A second urgent open joins the one in hand: only an OPEN_NOW that finds an OPEN_SYNC in WAIT_PHASE moves it (R120).
DEDUCED, unsafe (assumption 15): the mode in hand stays. -/
def Driver.joinUrgentOpen (d : Driver) (inHand mode : UrgentMode) : Driver :=
  if mode = .openNow ∧ inHand = .openSync ∧ d.state = .waitPhase then { d with state := .waitSlot } else d

/-- An open step in PULSE or VERIFY adopted by an urgent open (R120). -/
def Driver.adopt (d : Driver) (step : Step) (mode : UrgentMode) : Driver :=
  { d with step := some { step with source := .urgent mode } }

/-- The driver's part of an urgent open (R120's table). -/
def State.urgentAtDriver (s : State) (k : Outlet) (mode : UrgentMode) : State :=
  let d := s.driver k
  match d.state, d.step with
  | .faulted, _ =>
    match d.fault with
    | none => s
    | some f => s.post (.relayFault k f true) EventOrigin.nobody
  | .idle, _ => if d.contact = .opened then s else s.takeUrgent k mode
  | _, none => s.takeUrgent k mode
  | st, some step =>
    match step.source with
    | .urgent m => s.setDriver k (d.joinUrgentOpen m mode)
    | .entry =>
      match st, step.direction with
      | .pulse, .opening => s.setDriver k (d.adopt step mode)
      | .verify, .opening => s.setDriver k (d.adopt step mode)
      | .pulse, .close => s.setDriver k { d with waitingUrgent := some (joinUrgent d.waitingUrgent mode) }
      | .verify, .close => (s.setContact k .unknown).takeUrgent k mode
      | _, _ => s.takeUrgent k mode

/-- An urgent open issued for outlet `k`: the queue's part, then the driver's (R86, R120). -/
def State.urgentOpen (s : State) (k : Outlet) (mode : UrgentMode) : State := (s.preemptEntry k).urgentAtDriver k mode

/-! ### The end of a pulse (R113) -/

/-- The coil released and the slot freed. -/
def State.releaseCoil (s : State) (k : Outlet) : State :=
  (s.setDriver k { s.driver k with coil := .released, pulseCount := 0 }).setSlots (s.slots.erase k)

/-- A close pulse that ends with its entry's pre-emption mark (R86, R113): the contact becomes UNKNOWN, the entry completes
PREEMPTED, and the urgent open that waited is taken up. -/
def State.endPreempted (s : State) (k : Outlet) (e : Entry) : State :=
  let waiting := (s.driver k).waitingUrgent
  let s1 := ((s.setDriver k (s.driver k).idle).setContact k .unknown).complete e .preempted .none
  match waiting with
  | none => s1.firstStep k
  | some mode => s1.takeUrgent k mode

/-- A pulse without the mark ends UNVERIFIED where its step is unsynchronized or its feed left TRACKING, and goes to
verification otherwise (R113). -/
def State.judgePulse (s : State) (k : Outlet) (step : Step) : State :=
  if !step.sync || step.feedLeft then s.endStep k step .unverified else s.setDriver k (s.driver k).enterVerify

/-- What the driver does with its step once the coil is released (R113). -/
def State.afterPulse (s : State) (k : Outlet) (step : Step) : State :=
  match step.source, s.entryOf k with
  | .entry, some e => if e.preempt then s.endPreempted k e else s.judgePulse k step
  | _, _ => s.judgePulse k step

/-- The end of outlet `k`'s pulse (R113). -/
def State.endPulse (s : State) (k : Outlet) (step : Step) : State := (s.releaseCoil k).afterPulse k step

/-! ### What an arrival hands the drivers (R110, R113, R114, R121) -/

/-- The counts of one arrival: the pulse count falls; in VERIFY the skip count falls, and after it the level is read and the
observation count falls (R113, R114). -/
def Driver.counts (d : Driver) (active : Bool) : Driver :=
  match d.state with
  | .pulse => { d with pulseCount := d.pulseCount - 1 }
  | .verify =>
    if d.skip = 0 then { d with activeSeen := d.activeSeen || active, observe := d.observe - 1 }
    else { d with skip := d.skip - 1 }
  | _ => d

/-- The met marks cleared by an accepted crossing of the step feed (R110). -/
def Driver.clearMet (d : Driver) : Driver :=
  { d with step := d.step.map fun st => { st with metRising := false, metFalling := false } }

/-- The step feed's leaving TRACKING (R110, R113): a waiting step loses its synchronized mark and asks at once, a pulse is
marked. VERIFY is dealt with in a turn of its own (R115). -/
def Driver.feedLeaves (d : Driver) : Driver :=
  match d.state with
  | .waitPhase => { d with state := .waitSlot, step := d.step.map fun st => { st with sync := false } }
  | .waitSlot => { d with step := d.step.map fun st => { st with sync := false } }
  | .pulse => { d with step := d.step.map fun st => { st with feedLeft := true } }
  | _ => d

/-- A driver as the arrival's tracker notice leaves it. -/
def Driver.takeNotice (d : Driver) (crossed left : Bool) : Driver :=
  let d1 := if crossed then d.clearMet else d
  if left then d1.feedLeaves else d1

/-- Whether the tracker's notice says an accepted crossing. -/
def Notice.crossed (n : Notice) : Bool :=
  match n.close with
  | some c => c.kind == .crossing
  | none => false

/-- The feed a driver's step latched, or its outlet's. -/
def State.stepFeed (s : State) (k : Outlet) : Feed := ((s.driver k).step.map (·.feed)).getD (s.feedOf k)

/-- Outlet `k`'s driver as one arrival leaves it before any turn. -/
def State.driverNotice (s : State) (k : Outlet) : State :=
  let n := (s.tracker (s.stepFeed k)).notice
  s.setDriver k (((s.driver k).takeNotice n.crossed n.leftTracking).counts (look s.handed.sense k))

/-- A discovered close that waited for admission completes NO_PULSE (R96). -/
def State.discoveredClosed (s : State) (k : Outlet) : State :=
  match s.entryOf k with
  | none => s
  | some e => if e.kind = .closing ∧ e.phase = .waitAdmit then s.complete e .done .noPulse else s

/-- Contact discovery of an IDLE outlet whose contact is UNKNOWN (R121). DEDUCED, unsafe (assumption 13): OUTLET_SWITCHED is
posted ahead of the ACTION_ENDED of a close that the discovery ends (R96). -/
def State.discover (s : State) (k : Outlet) : State :=
  if s.senseLive k then
    (((s.setContact k .closed).post (.outletSwitched k .closed .discovered) EventOrigin.nobody).discoveredClosed k)
  else (s.setContact k .opened).post (.outletSwitched k .opened .discovered) EventOrigin.nobody

/-- The step feed's leaving TRACKING at outlet `k`'s driver: a verify window is abandoned (R115), a waiting step, a retry
included, loses its synchronized mark (R110, R117), and a pulse is marked (R113). -/
def State.leavingTurn (s : State) (k : Outlet) : State :=
  if (s.tracker (s.stepFeed k)).notice.leftTracking then
    match (s.driver k).state, (s.driver k).step with
    | .verify, some step => s.endStep k step .unverified
    | _, _ => s.setDriver k (s.driver k).feedLeaves
  else s

/-- The end of a verify window whose observation count stands at 0. -/
def State.verifyTurn (s : State) (k : Outlet) : State :=
  match (s.driver k).state, (s.driver k).step with
  | .verify, some step => if (s.driver k).skip = 0 ∧ (s.driver k).observe = 0 then s.endVerify k step else s
  | _, _ => s

/-- The end of a pulse whose count stands at 0. -/
def State.pulseTurn (s : State) (k : Outlet) : State :=
  match (s.driver k).state, (s.driver k).step with
  | .pulse, some step => if (s.driver k).pulseCount = 0 then s.endPulse k step else s
  | _, _ => s

/-- Outlet `k`'s driver at its turn of an arrival: a pulse or a verify window that ends, or discovery (R113, R114, R121). -/
def State.driverTurn (s : State) (k : Outlet) : State :=
  match (s.driver k).state with
  | .pulse => s.pulseTurn k
  | .verify => s.verifyTurn k
  | .idle =>
    if (s.tracker (s.feedOf k)).notice.enteredTracking = true ∧ s.contact k = .unknown then s.discover k else s
  | _ => s

/-! ### Fire phases and the Coil Arbiter (R110 to R112) -/

/-- The step after meeting a fire phase, if the phase is one whose met mark is clear (R109, R110). -/
def Step.meet (step : Step) (tp phase : Nat) : Option Step :=
  if phase = risingFire tp step.delay ∧ step.metRising = false then some { step with metRising := true }
  else if phase = fallingFire tp step.delay ∧ step.metFalling = false then some { step with metFalling := true }
  else none

/-- Outlet `k`'s driver examines its step feed's phase in WAIT_PHASE (R110). -/
def State.meetPhase (s : State) (k : Outlet) : State :=
  match (s.driver k).state, (s.driver k).step with
  | .waitPhase, some step =>
    match step.meet (s.tracker step.feed).tp (s.tracker step.feed).phase with
    | none => s
    | some step' => s.setDriver k { s.driver k with state := .waitSlot, step := some step' }
  | _, _ => s

/-- Whether a step is an urgent open's. -/
def Step.isUrgent (step : Step) : Bool :=
  match step.source with
  | .urgent _ => true
  | .entry => false

/-- Whether outlet `k` asks for a slot with the given priority. -/
def State.asks (s : State) (urgent : Bool) (k : Outlet) : Bool :=
  (s.driver k).state == .waitSlot && ((s.driver k).step.map fun st => st.isUrgent == urgent).getD false

/-- The requests held, urgent first, lower outlets first (R111). -/
def State.requests (s : State) : List Outlet := allOutlets.filter (s.asks true) ++ allOutlets.filter (s.asks false)

/-- The coil a direction drives. -/
def Direction.coil : Direction → Coil
  | .close => .set
  | .opening => .reset

/-- A slot granted: the driver enters PULSE, drives its coil, and reports a close's pulse start (R111, R113). -/
def State.grant (s : State) (k : Outlet) : State :=
  match (s.driver k).step with
  | none => s
  | some step =>
    let s1 := (s.setDriver k { s.driver k with
      state := .pulse, pulseCount := step.pulse, coil := step.direction.coil,
      step := some { step with feedLeft := false } }).setSlots (s.slots ++ [k])
    match step.direction with
    | .close => s1.pulseStarted (s.branchOf k)
    | .opening => s1

/-- A request not granted: a synchronized ordinary one slips, any other stays (R112). -/
def State.slip (s : State) (k : Outlet) : State :=
  match (s.driver k).step with
  | none => s
  | some step => if step.sync && !step.isUrgent then s.setDriver k { s.driver k with state := .waitPhase } else s

/-- The slots that are free (R111). -/
def State.freeSlots (s : State) : Nat := Config.coilSlots - s.slots.length

/-- One round of the arbiter over the requests it holds (R111, R112). -/
def State.grantRound (s : State) : State :=
  ((s.requests.drop s.freeSlots).foldl State.slip ((s.requests.take s.freeSlots).foldl State.grant s))

/-- The fire phases of an arrival and the arbiter's round over its requests. -/
def State.arbitrate (s : State) : State := (allOutlets.foldl State.meetPhase s).grantRound

/-! ### Requests taken ahead of the round (R112) -/

/-- Whether outlet `k` asks for a slot. -/
def State.asksAny (s : State) (k : Outlet) : Bool := s.asks true k || s.asks false k

/-- Outlet `k`'s request taken by itself: granted where a slot is free, and otherwise slipped or held by R112. -/
def State.requestTurn (s : State) (k : Outlet) : State :=
  let s1 := s.meetPhase k
  if s1.asksAny k then if 0 < s1.freeSlots then s1.grant k else s1.slip k else s1

/-- Whether outlet `k`'s pulse started at the arrival in hand: its count stands at the latched length. -/
def State.startedNow (s : State) (k : Outlet) : Bool :=
  (s.driver k).state == .pulse && ((s.driver k).step.map fun st => st.pulse == (s.driver k).pulseCount).getD false

/-- Whether outlet `k`'s step is an urgent open. -/
def State.urgentStep (s : State) (k : Outlet) : Bool := ((s.driver k).step.map Step.isUrgent).getD false

/-- Whether the arbiter grants outlet `j`'s request ahead of outlet `k`'s: urgent first, then the lower outlet (R111). -/
def State.ranksAhead (s : State) (j k : Outlet) : Bool :=
  if s.urgentStep j = s.urgentStep k then decide (j < k) else s.urgentStep j

/-- Whether a request that ranks behind outlet `k`'s has been granted at the arrival in hand. -/
def State.overtaken (s : State) (k : Outlet) : Bool := allOutlets.any fun g => s.startedNow g && s.ranksAhead k g

/-- Whether taking outlet `k`'s request by itself keeps R111's order: a request that slips must not have been overtaken. -/
def State.requestFair (s : State) (k : Outlet) : Bool :=
  let s1 := s.meetPhase k
  !(s1.asksAny k && s1.freeSlots == 0 && s1.overtaken k &&
    ((s1.driver k).step.map fun st => st.sync && !st.isUrgent).getD false)

/-- Whether the arrival's last round keeps R111's order: no request that it leaves out has been overtaken. -/
def State.roundFair (s : State) : Bool :=
  let s1 := allOutlets.foldl State.meetPhase s
  (s1.requests.drop s1.freeSlots).all fun k => !s1.grantRound.overtaken k

end Sys2Proof.Machine
end

