-- ==== Sys2Proof/Machine/BranchProtection.lean ====
section
/-! DEFINITION. Branch Protection (chapter 8): the branch sum and its run, outlet trips, causes, shedding, automatic restart
and restoration. -/

namespace Sys2Proof.Machine

/-! ### The branch sum and overcurrent (R124, R125) -/

/-- The I_mA of an outlet's latest cycle result, 0 where absent. -/
def State.cycleImA (s : State) (k : Outlet) : Nat := ((s.meter k).cycleResult.map (·.imA)).getD 0

/-- The sum of the latest cycle currents of a branch's outlets (R124). -/
def State.branchSum (s : State) (b : Branch) : Nat := ((s.outletsOf b).map s.cycleImA).sum

/-- The over-limit run after a sum (R125). -/
def nextOverRun (limit sum run : Nat) : Nat :=
  if limit = 0 then 0 else if limit < sum then holdUp Config.byteMax run else 0

/-- The branch sum and the over-limit run of a branch-sum stage (R124, R125). -/
def State.formSum (s : State) (b : Branch) : State :=
  let p := s.protection b
  s.setProtection b { p with
    sum := some (s.branchSum b)
    overRun := nextOverRun (look s.settings.branchLimit b) (s.branchSum b) p.overRun }

/-! ### Shedding (R87, R102, R130, R131) -/

/-- An outlet put into its branch's victim set. -/
def State.addVictim (s : State) (b : Branch) (k : Outlet) : State :=
  s.setProtection b { s.protection b with victims := put (s.protection b).victims k true }

/-- An outlet taken out of a branch's victim set. -/
def State.dropVictim (s : State) (b : Branch) (k : Outlet) : State :=
  s.setProtection b { s.protection b with victims := put (s.protection b).victims k false }

/-- Whether an outlet's driver waits with an ordinary step before its pulse. -/
def State.waitsForPulse (s : State) (k : Outlet) : Bool :=
  ((s.driver k).state == .waitPhase || (s.driver k).state == .waitSlot) &&
    ((s.driver k).step.map fun st => st.source == .entry).getD false

/-- A CLOSE or CYCLE entry completed PREEMPTED where no urgent open is issued, its step given up (R87, R102). -/
def State.preemptQuietly (s : State) (k : Outlet) (e : Entry) : State :=
  if s.waitsForPulse k then (s.giveUp k).complete e .preempted .none else s.complete e .preempted .none

/-- Whether a shed issues an urgent open for an outlet that is not tripped (R131). -/
def State.needsUrgent (s : State) (k : Outlet) : Bool :=
  s.contact k != .opened ||
    match s.entryOf k with
    | none => false
    | some e =>
      (e.phase == .closing && ((s.driver k).state == .pulse || (s.driver k).state == .verify)) ||
        (e.kind == .cycle && e.phase == .opening)

/-- The shed of an outlet whose mode is OPEN_NOW or OPEN_SYNC and which is not tripped (R131). -/
def State.shedOpen (s : State) (b : Branch) (k : Outlet) (mode : UrgentMode) : State :=
  if s.needsUrgent k then (s.addVictim b k).urgentOpen k mode
  else
    match s.entryOf k with
    | none => s
    | some e => if e.kind = .opening then s else (s.addVictim b k).preemptQuietly k e

/-- Whether outlet `k`'s driver has an urgent open in hand, or one that waits for a close pulse's end (R120). -/
def State.urgentInHand (s : State) (k : Outlet) : Bool := s.urgentStep k || (s.driver k).waitingUrgent.isSome

/-- The shed of a tripped outlet (R127, R131): no victim, and its entry is dealt with as for any outlet of its mode. DEDUCED,
unsafe (assumption 8): the urgent open that pre-empts the entry is the trip's own where that is still in hand, and is
issued where it is done. -/
def State.shedTripped (s : State) (k : Outlet) (mode : UrgentMode) : State :=
  match s.entryOf k with
  | none => s
  | some e =>
    if s.needsUrgent k then (if s.urgentInHand k then s.preemptEntry k else s.urgentOpen k mode)
    else if e.kind = .opening then s else s.preemptQuietly k e

/-- The shed of a KEEP outlet: only a close in progress that has not started its pulse is withdrawn (R102, R131). -/
def State.shedKeep (s : State) (k : Outlet) : State :=
  match s.entryOf k with
  | none => s
  | some e => if e.phase = .closing ∧ s.waitsForPulse k = true then s.withdrawClose k else s

/-- What an entry into SHED does with one outlet, by its shed mode as it stands (R131). -/
def State.shedOutlet (b : Branch) (s : State) (k : Outlet) : State :=
  match look s.settings.shedMode k with
  | .keep => s.shedKeep k
  | .openNow => if s.isTripped k then s.shedTripped k .openNow else s.shedOpen b k .openNow
  | .openSync => if s.isTripped k then s.shedTripped k .openSync else s.shedOpen b k .openSync

/-- A RESTORE entry not begun of a branch that leaves RESTORING for SHED: PREEMPTED, its outlet a victim again (R87, R131). -/
def State.undoRestore (b : Branch) (s : State) (k : Outlet) : State :=
  match s.entryOf k with
  | none => s
  | some e => if e.origin = .restore ∧ e.begun = false then (s.addVictim b k).complete e .preempted .none else s

/-- What every entry of a branch into SHED does (R131): its RESTORE entries where it leaves RESTORING, its outlets in ascending
order, and the sequencer's test. -/
def State.shedBranch (s : State) (b : Branch) : State :=
  let s1 := s.setProtection b { s.protection b with state := .shed, restartTimer := 0 }
  let s2 := if (s.protection b).state = .restoring then (s1.outletsOf b).foldl (State.undoRestore b) s1 else s1
  ((s2.outletsOf b).foldl (State.shedOutlet b) s2).testHead b

/-- The entry into SHED by a cause (R130): BRANCH_SHED carries the victim set as it then stands (DEDUCED, unsafe, assumption
13: posted after the acts). -/
def State.enterShed (s : State) (b : Branch) (cause : Cause) : State :=
  let s1 := s.shedBranch b
  s1.post (.branchShed b cause (s.protection b).state (s1.protection b).victims) EventOrigin.nobody

/-! ### Causes (R125, R128, R129, R130, R133) -/

/-- Whether a cause is active. -/
def Protection.active (p : Protection) : Cause → Bool
  | .overcurrent => p.overcurrent
  | .breaker => p.breaker
  | .manual => p.manual

/-- A cause set active or inactive; an active MANUAL sets the manual mark (R129). -/
def Protection.mark (p : Protection) (on : Bool) : Cause → Protection
  | .overcurrent => { p with overcurrent := on }
  | .breaker => { p with breaker := on }
  | .manual => { p with manual := on, manualMark := p.manualMark || on }

/-- Whether no cause is active. -/
def Protection.noCause (p : Protection) : Bool := !p.overcurrent && !p.breaker && !p.manual

/-- Whether an automatic restart begins (R133). -/
def State.restartDue (s : State) (b : Branch) : Bool :=
  (s.protection b).state == .shed && look s.settings.restartEnable b && (s.protection b).noCause &&
    !(s.protection b).manualMark && !(s.protection b).exhaustedMark

/-- The automatic restart, where it is due: RESTART_WAIT with the delay standing (R133). -/
def State.autoRestart (s : State) (b : Branch) : State :=
  if s.restartDue b then
    s.setProtection b { s.protection b with state := .restartWait, restartTimer := look s.settings.restartDelay b }
  else s

/-- A cause becoming active (R130). -/
def State.activate (s : State) (b : Branch) (cause : Cause) : State :=
  let s1 := s.setProtection b ((s.protection b).mark true cause)
  if (s.protection b).state = .shed then s1 else s1.enterShed b cause

/-- A cause becoming inactive, which may begin an automatic restart (R133). -/
def State.deactivate (s : State) (b : Branch) (cause : Cause) : State :=
  (s.setProtection b ((s.protection b).mark false cause)).autoRestart b

/-- Whether OVERCURRENT becomes active (R125). -/
def State.overcurrentDue (s : State) (b : Branch) : Bool :=
  !(s.protection b).overcurrent && decide (look s.settings.overCycles b ≤ (s.protection b).overRun)

/-- OVERCURRENT at a branch-sum stage (R125). -/
def State.overcurrentStage (s : State) (b : Branch) : State :=
  if s.overcurrentDue b then s.activate b .overcurrent
  else if (s.protection b).overcurrent = true ∧ (s.protection b).overRun = 0 then s.deactivate b .overcurrent
  else s

/-- The BREAKER cause follows the debounced level (R128). -/
def State.breakerTurn (s : State) (b : Branch) : State :=
  match (s.breaker b).level with
  | some .opened => if (s.protection b).breaker then s else s.activate b .breaker
  | some .closed => if (s.protection b).breaker then s.deactivate b .breaker else s
  | none => s

/-! ### Outlet trip (R126) -/

/-- An outlet trips: the urgent open, the tripped flag, OUTLET_TRIP, and the trip run 0. -/
def State.tripOutlet (s : State) (k : Outlet) : State :=
  let ima := s.cycleImA k
  ((((s.urgentOpen k .openNow).setTripped k true).post
    (.outletTrip k ima (look s.settings.tripLevel k)) EventOrigin.nobody).setTripRun k 0)

/-- An outlet's trip run after a branch-sum stage (R126). -/
def State.nextTripRun (s : State) (k : Outlet) : Nat :=
  if look s.settings.tripLevel k = 0 ∨ (s.driver k).fault.isSome = true ∨ (s.isTripped k = true ∧ s.contact k = .opened) then 0
  else if look s.settings.tripLevel k < s.cycleImA k then holdUp Config.byteMax (s.tripRun k)
  else 0

/-- Whether an outlet's trip run has reached its trip cycles. -/
def State.tripDue (s : State) (k : Outlet) : Bool := decide (look s.settings.tripCycles k ≤ s.tripRun k)

/-- One outlet's trip test at a branch-sum stage (R126). -/
def State.tripTest (s : State) (k : Outlet) : State :=
  let s1 := s.setTripRun k (s.nextTripRun k)
  if s1.tripDue k then s1.tripOutlet k else s1

/-- The branch-sum stage of a close taken by itself, once the sum is formed: OVERCURRENT, the trips in ascending order, and the
sequencer (R21 stage 5, R125, R126, R99). -/
def State.afterSum (s : State) (b : Branch) : State :=
  ((s.outletsOf b).foldl State.tripTest (s.overcurrentStage b)).sequencerStage b

/-- Whether the arrival in hand brings branch `b` to a branch-sum stage: its feed's cycle has closed (R124). -/
def State.atSumStage (s : State) (b : Branch) : Bool := (s.tracker (s.branchFeedOf b)).notice.close.isSome

/-! ### Restoration (R132, R133, R135, R136) -/

/-- Whether the victim set is empty. -/
def Protection.noVictims (p : Protection) : Bool := allOutlets.all fun k => !look p.victims k

/-- The branch enters NORMAL (R134, R136): the set emptied, the manual and exhausted marks cleared, BRANCH_NORMAL posted and
the head tested. -/
def State.enterNormal (s : State) (b : Branch) (origin : RestoreOrigin) : State :=
  (((s.setProtection b { s.protection b with
      state := .normal, victims := fill 24 false, manualMark := false, exhaustedMark := false }).post
    (.branchNormal b origin) EventOrigin.nobody).testHead b)

/-- A branch in RESTORING whose victim set is empty enters NORMAL (R136). -/
def State.settleRestoring (s : State) (b : Branch) : State :=
  if (s.protection b).state = .restoring ∧ (s.protection b).noVictims = true then s.enterNormal b .restored else s

/-- A victim removed by the pass as held or faulted, with RESTORE_SKIPPED (R135). -/
def State.skipVictim (s : State) (b : Branch) (k : Outlet) (holder : Option Link) : State :=
  (s.dropVictim b k).post (.restoreSkipped k b holder) EventOrigin.nobody

/-- One victim's turn in a pass (R135): skipped, dropped or placed; none where the queue is full, which stops the pass. -/
def State.restoreVictim (s : State) (b : Branch) (k : Outlet) : Option State :=
  match s.hold k with
  | some x => some (s.skipVictim b k (some x))
  | none =>
    if (s.driver k).fault.isSome then some (s.skipVictim b k none)
    else if (s.entryOf k).isSome then some (s.dropVictim b k)
    else if s.hasRoom then some (((s.dropVictim b k).noteReturn s.freeId).place k .closing .restore false none 0)
    else none

/-- A run over the outlets in ascending order: `visit` at each, then, while the pass goes on, its turn as a victim (R135). -/
def returnOver (visit : State → Outlet → State) (b : Branch) : List Outlet → Bool → State → State
  | [], _, s => s
  | k :: ks, going, s =>
    if going && look ((visit s k).protection b).victims k then
      match (visit s k).restoreVictim b k with
      | some t => returnOver visit b ks true t
      | none => returnOver visit b ks false (visit s k)
    else returnOver visit b ks going (visit s k)

/-- The run over the outlets, with the victims' turns where the branch is in RESTORING (R135). -/
def State.passWith (s : State) (visit : State → Outlet → State) (b : Branch) : State :=
  returnOver visit b allOutlets ((s.protection b).state == .restoring) s

/-- A restoration pass, where the branch is in RESTORING, and the branch's way to NORMAL where its set is then empty (R135,
R136). -/
def State.restorationPass (s : State) (b : Branch) : State := (s.passWith (fun t _ => t) b).settleRestoring b

/-- The entry into RESTORING less its pass (R133, R134, R136): BRANCH_RESTORE_BEGIN and the head's test (R104). -/
def State.beginRestoring (s : State) (b : Branch) (origin : RestoreOrigin) : State :=
  let s1 := s.setProtection b { s.protection b with state := .restoring, restartTimer := 0 }
  (s1.post (.branchRestoreBegin b (s1.protection b).victims (s1.protection b).restartCount origin)
    EventOrigin.nobody).testHead b

/-- The entry into RESTORING and its first pass (R134, R135). -/
def State.enterRestoring (s : State) (b : Branch) (origin : RestoreOrigin) : State :=
  (s.beginRestoring b origin).restorationPass b

/-- Whether restarts are left (R133). -/
def State.restartsLeft (s : State) (b : Branch) : Bool :=
  look s.settings.restartLimit b == 0 || decide ((s.protection b).restartCount < look s.settings.restartLimit b)

/-- The expiry of a wait less its restoration pass (R133): RESTORING with the count raised, or SHED, entered as any other time
(R131), with RESTART_EXHAUSTED (posted after the acts: assumption 13). -/
def State.expireWait (s : State) (b : Branch) : State :=
  if s.restartsLeft b then
    (s.setProtection b { s.protection b with
      restartCount := holdUp Config.byteMax (s.protection b).restartCount }).beginRestoring b .auto
  else
    ((s.setProtection b { s.protection b with exhaustedMark := true }).shedBranch b).post
      (.restartExhausted b (s.protection b).restartCount) EventOrigin.nobody

/-- Whether branch `b`'s wait expires: its timer stands at 0 in RESTART_WAIT. -/
def State.waitOver (s : State) (b : Branch) : Bool :=
  (s.protection b).state == .restartWait && (s.protection b).restartTimer == 0

/-- The expiry at branch `b`, with its pass, where its timer stands at 0 in RESTART_WAIT (R133, R135). -/
def State.restartTurn (s : State) (b : Branch) : State :=
  if s.waitOver b then (s.expireWait b).restorationPass b else s

/-- An off hold of an outlet of branch `b` that ends (R78). -/
def State.offHoldOf (b : Branch) (s : State) (k : Outlet) : State := if s.branchOf k = b then s.offHoldTurn k else s

/-- Branch `b`'s turn of an arrival: the expiry of its wait, then one run over the outlets in which the off holds that end and
the arrival's one restoration pass join the line in ascending outlet order (R78, R94, R133, R135). Its way to NORMAL is a turn
of its own, ahead of which a cause may be taken (R136). -/
def State.returnsTurn (s : State) (b : Branch) : State :=
  (if s.waitOver b then s.expireWait b else s).passWith (State.offHoldOf b) b

/-- The restart timer at an advance of the seconds counter (R133). -/
def Protection.timerFall (p : Protection) : Protection :=
  if p.state = .restartWait then { p with restartTimer := p.restartTimer - 1 } else p

/-- An outlet leaves the victim set of its branch by a link's accepted OPEN or by a move (R132), which may end a restoration
(R136). -/
def State.withdrawVictim (s : State) (b : Branch) (k : Outlet) : State :=
  if (s.protection b).state ≠ .normal ∧ look (s.protection b).victims k = true then (s.dropVictim b k).settleRestoring b
  else s

end Sys2Proof.Machine
end

