-- ==== Sys2Proof/Machine/HangMonitor.lean ====
section
/-! DEFINITION. The Hang Monitor's verdict, its placement and its turn of an arrival (chapter 9). -/

namespace Sys2Proof.Machine

/-- HANG_DETECTED for outlet `k` with its monitor's counts as they stand (R147, R148). DEDUCED, safe (assumption 6): the
retry count carried with the reasons REPORT and HELD is the present one. -/
def State.postHang (s : State) (k : Outlet) (reason : HangReason) : State :=
  let m := s.monitor k
  s.post (.hangDetected k reason m.retries m.silence m.evidence m.spread) EventOrigin.nobody

/-- The verdict turned into, or given as, a report (R147, R148). -/
def State.reportHang (s : State) (k : Outlet) (reason : HangReason) : State :=
  (s.setMonitor k { s.monitor k with state := .reported, placementPending := false }).postHang k reason

/-- A try's placement (R74, R148): refused for a fault or a shut branch, else a CYCLE of origin MONITOR, noted as placed over
the arrival in hand (R149). -/
def State.placeCycle (s : State) (k : Outlet) : State :=
  if (s.driver k).fault.isSome = true ∨ s.branchShut (s.branchOf k) = true then s
  else
    let id := s.freeId
    let s1 := s.setMonitor k { s.monitor k with placementPending := false, retries := (s.monitor k).retries + 1 }
    ((s1.note fun h => { h with tries := id :: h.tries }).place k .cycle .monitor false none
      (look s.settings.cycleOff k)).postHang k (.cycle id)

/-- A try to place a pending verdict's CYCLE (R148), made only when the outlet has no entry and the queue has room. -/
def State.tryPlace (s : State) (k : Outlet) : State :=
  if (s.monitor k).state = .expired ∧ (s.monitor k).placementPending = true ∧ s.entryOf k = none ∧ s.hasRoom = true then
    match s.hold k with
    | some x => s.reportHang k (.held x)
    | none => s.placeCycle k
  else s

/-- A verdict, acting by R147's table; a pending one makes its monitor's try of the arrival at once (R148). -/
def State.giveVerdict (s : State) (k : Outlet) : State :=
  let m := s.monitor k
  match look s.settings.monAction k, s.hold k with
  | .report, _ => s.reportHang k .report
  | .cycle, some x => s.reportHang k (.held x)
  | .cycle, none =>
    if m.retries < look s.settings.retryLimit k then
      ((s.setMonitor k { m with state := .expired, placementPending := true }).noteTry k).tryPlace k
    else
      (s.setMonitor k { m with state := .gaveUp }).post
        (.hangGaveUp k m.retries m.silence m.evidence m.spread) EventOrigin.nobody

/-- The monitor entering SUSPECT, with HANG_ACTIVE where its active mark is clear (R145). -/
def State.enterSuspect (s : State) (k : Outlet) : State :=
  let m := s.monitor k
  if m.activeMark then s.setMonitor k { m with state := .suspect }
  else (s.setMonitor k { m with state := .suspect, activeMark := true }).post
    (.hangActive k m.silence m.evidence m.spread) EventOrigin.nobody

/-- Whether outlet `k`'s stall test passes (R144). -/
def State.stallPasses (s : State) (k : Outlet) : Bool := (s.monitor k).stallPasses (look s.settings.stallBand k)

/-- Whether the verdict test of R145 is made: WATCHING, the silence at the window length, not paused. -/
def State.verdictDue (s : State) (k : Outlet) : Bool :=
  (s.monitor k).state == .watching && decide (s.windowLength k ≤ (s.monitor k).silence) && !s.paused k

/-- The verdict test in WATCHING (R145). -/
def State.verdictTest (s : State) (k : Outlet) : State :=
  if s.verdictDue k then (if s.stallPasses k then s.giveVerdict k else s.enterSuspect k) else s

/-- The silence after one arrival (R141). -/
def State.silenceRise (s : State) (k : Outlet) : State :=
  if (s.monitor k).state = .watching ∧ s.paused k = false then
    s.setMonitor k { s.monitor k with silence := holdUp (s.windowLength k) (s.monitor k).silence }
  else s

/-- The arrival's try for a verdict that was pending before it; one given at the arrival has made its try (R148). -/
def State.tryPending (s : State) (k : Outlet) : State := if s.triedBy k then s else s.tryPlace k

/-- Outlet `k`'s monitor at its turn of an arrival: the silence and the verdict test, or the try for a pending verdict (R141,
R145, R148). -/
def State.monitorTurn (s : State) (k : Outlet) : State :=
  if (s.monitor k).state = .watching then (s.silenceRise k).verdictTest k else s.tryPending k

/-- A window result taken into the evidence, and the test in SUSPECT (R143, R146). -/
def State.evidence (s : State) (k : Outlet) : State :=
  if (s.monitor k).state = .off then s
  else
    let s1 := s.setMonitor k ((s.monitor k).takeEvidence (((s.meter k).windowResult.map (·.pmW)).getD 0))
    if (s1.monitor k).state = .suspect ∧ s1.paused k = false ∧ s1.stallPasses k = true then s1.giveVerdict k else s1

end Sys2Proof.Machine
end

