-- ==== Sys2Proof/Machine/Requests.lean ====
section
/-! DEFINITION. The control requests' own rules, less the link's side (chapters 4, 5, 7, 8 and 9): SWITCH, CANCEL, HOLD,
RELEASE, HEARTBEAT, SNAPSHOT, SHED, SHED_CLEAR, FAULT_CLEAR and MONITOR_RESET. Each gives the state after it and its answer:
a status and a payload (R177, R186). -/

namespace Sys2Proof.Machine

/-- An answer: its status and payload. -/
structure Answer where
  status : Status
  payload : List Byte
  deriving DecidableEq, Repr

/-- An answer with no payload. -/
def Answer.bare (st : Status) : Answer := { status := st, payload := [] }

/-- A refusal: it changes nothing and its answer has no payload (R72, section 11.5). -/
def State.refuse (s : State) (st : Status) : State × Answer := (s, Answer.bare st)

/-! ### SWITCH (R71 to R73, R83, R132) -/

/-- What follows from an accepted request: the tripped flag (R83) and, for an OPEN, the victim set (R132). -/
def State.accepted (s : State) (k : Outlet) (kind : Kind) : State :=
  match kind with
  | .opening => s.withdrawVictim (s.branchOf k) k
  | _ => s.setTripped k false

/-- The off time a CYCLE takes (R71). -/
def State.offTimeFor (s : State) (k : Outlet) (off : Nat) : Nat :=
  if off = 0 then look s.settings.cycleOff k else min off 255

/-- Checks 7 and 8 of R72: QUEUE_FULL, or the entry placed and answered OK or CLAMPED with its id. -/
def State.switchPlace (s : State) (x : Link) (k : Outlet) (kind : Kind) (off : Nat) (tag : Option Byte) (sweep : Bool) :
    State × Answer :=
  if s.hasRoom then
    ((s.place k kind (originOf x) sweep tag (s.offTimeFor k off)).accepted k kind,
      { status := if kind = .cycle ∧ 255 < off then .clamped else .ok, payload := [s.freeId] })
  else s.refuse .queueFull

/-- A request judged against the outlet's existing entry (R73). -/
def State.switchExisting (s : State) (x : Link) (k : Outlet) (kind : Kind) (off : Nat) (tag : Option Byte) (sweep : Bool)
    (e : Entry) : State × Answer :=
  if e.kind = kind ∧ e.preempt = false then (s.accepted k kind, { status := .joined, payload := [e.id] })
  else if e.begun = false ∧ e.kind ≠ kind then (s.complete e .superseded .none).switchPlace x k kind off tag sweep
  else if e.kind = .cycle ∧ (e.phase = .offHold ∨ e.phase = .waitAdmit) ∧ kind = .opening then
    ((s.complete e .cut .none).accepted k kind, Answer.bare .already)
  else (s, { status := .busyOutlet, payload := [e.id] })

/-- Whether check 6 of R72 applies: the driver IDLE and the contact already the target. -/
def State.atTarget (s : State) (k : Outlet) (kind : Kind) : Bool :=
  (s.driver k).state == .idle &&
    match kind with
    | .opening => s.contact k == .opened
    | .closing => s.contact k == .closed
    | .cycle => false

/-- A switching request from link `x`, its outlet and kind being of the listed values (checks 2 to 8 of R72). -/
def State.switchAction (s : State) (x : Link) (k : Outlet) (kind : Kind) (off : Nat) (tag : Option Byte) (sweep : Bool) :
    State × Answer :=
  if s.heldByOther x k then s.refuse .held
  else if (s.driver k).fault.isSome then s.refuse .faulted
  else if kind ≠ .opening ∧ s.branchShut (s.branchOf k) = true then s.refuse .shed
  else
    match s.entryOf k with
    | some e => s.switchExisting x k kind off tag sweep e
    | none =>
      if s.atTarget k kind then (s.accepted k kind, Answer.bare .already)
      else s.switchPlace x k kind off tag sweep

/-- A SWITCH with its fields (R72 check 1, R177). -/
def State.switchFields (s : State) (x : Link) (outlet kind : Byte) (off : Nat) (tag : Option Byte) : State × Answer :=
  match outletFrom outlet, kindFrom kind with
  | some k, some kd => s.switchAction x k kd off tag false
  | _, _ => s.refuse .badValue

/-- SWITCH: a payload of 4 bytes, or of 5 with a tag (R185). -/
def requestSwitch (x : Link) (payload : List Byte) (s : State) : State × Answer :=
  match payload with
  | [outlet, kind, h, l] => s.switchFields x outlet kind (number2 h l) none
  | [outlet, kind, h, l, tag] => s.switchFields x outlet kind (number2 h l) (some tag)
  | _ => s.refuse .badLength

/-! ### CANCEL (R80) -/

/-- A CANCEL of the outlet's entry. -/
def State.cancelEntry (s : State) (e : Entry) : State × Answer :=
  if e.begun = false then (s.complete e .cancelled .none, { status := .ok, payload := [e.id] })
  else if e.kind = .cycle ∧ (e.phase = .offHold ∨ e.phase = .waitAdmit) then
    (s.complete e .cut .none, { status := .ok, payload := [e.id] })
  else (s, { status := .busyOutlet, payload := [e.id] })

/-- CANCEL (R80). -/
def requestCancel (x : Link) (payload : List Byte) (s : State) : State × Answer :=
  match payload with
  | [outlet] =>
    match outletFrom outlet with
    | none => s.refuse .badValue
    | some k =>
      if s.heldByOther x k then s.refuse .held
      else
        match s.entryOf k with
        | none => s.refuse .already
        | some e => s.cancelEntry e
  | _ => s.refuse .badLength

/-! ### HOLD and RELEASE (R88, R89) -/

/-- The outlets of a mask that a HOLD from link `x` newly holds. -/
def State.holdable (s : State) (mask : Vector Bool 24) : Vector Bool 24 :=
  tab24 fun k => look mask k && (s.hold k).isNone

/-- The outlets of a mask held by the other link. -/
def State.heldElsewhere (s : State) (x : Link) (mask : Vector Bool 24) : Vector Bool 24 :=
  tab24 fun k => look mask k && s.heldByOther x k

/-- The outlets of a mask held by link `x`. -/
def State.heldHere (s : State) (x : Link) (mask : Vector Bool 24) : Vector Bool 24 :=
  tab24 fun k => look mask k && s.hold k == some x

/-- The holds with the outlets of a set given a holder. -/
def State.giveHolds (s : State) (set : Vector Bool 24) (holder : Option Link) : State :=
  { s with holds := tab24 fun k => if look set k then holder else s.hold k }

/-- HOLD (R88). -/
def requestHold (x : Link) (payload : List Byte) (s : State) : State × Answer :=
  match payload with
  | [a, b, c] =>
    let mask := maskFrom a b c
    (s.giveHolds (s.holdable mask) (some x),
      { status := .ok, payload := maskBytes (s.holdable mask) ++ maskBytes (s.heldElsewhere x mask) })
  | _ => s.refuse .badLength

/-- RELEASE (R89). -/
def requestRelease (x : Link) (payload : List Byte) (s : State) : State × Answer :=
  match payload with
  | [a, b, c] =>
    let mask := maskFrom a b c
    (s.giveHolds (s.heldHere x mask) none, { status := .ok, payload := maskBytes (s.heldHere x mask) })
  | _ => s.refuse .badLength

/-! ### HEARTBEAT and MONITOR_RESET (R142, R152) -/

/-- The outlets of a mask whose monitors are not OFF. -/
def State.watched (s : State) (mask : Vector Bool 24) : Vector Bool 24 :=
  tab24 fun k => look mask k && (s.monitor k).state != .off

/-- HEARTBEAT (R142), from either link. -/
def requestHeartbeat (_x : Link) (payload : List Byte) (s : State) : State × Answer :=
  match payload with
  | [a, b, c] =>
    let mask := maskFrom a b c
    (allOutlets.foldl (fun t k => if look mask k then t.heartbeatAt k else t) s,
      { status := .ok, payload := maskBytes (s.watched mask) })
  | _ => s.refuse .badLength

/-- MONITOR_RESET (R152). -/
def requestMonitorReset (x : Link) (payload : List Byte) (s : State) : State × Answer :=
  match payload with
  | [outlet] =>
    match outletFrom outlet with
    | none => s.refuse .badValue
    | some k =>
      if s.heldByOther x k then s.refuse .held
      else if (s.monitor k).state = .off then s.refuse .already
      else (s.setMonitor k Monitor.reset, Answer.bare .ok)
  | _ => s.refuse .badLength

/-! ### SNAPSHOT (R62) -/

/-- SNAPSHOT (R62). -/
def requestSnapshot (x : Link) (payload : List Byte) (s : State) : State × Answer :=
  match payload with
  | [] =>
    let n := (s.bankPort x).counter + 1
    (s.setBank x { bank := some { sequence := n, stamp := s.stamp, copies := s.energy }, counter := n },
      { status := .ok, payload := bytes2 n.toNat ++ s.stamp.bytes })
  | _ => s.refuse .badLength

/-! ### SHED and SHED_CLEAR (R129, R134) -/

/-- SHED (R129), from either link. -/
def requestShed (_x : Link) (payload : List Byte) (s : State) : State × Answer :=
  match payload with
  | [branch] =>
    match branchFrom branch with
    | none => s.refuse .badValue
    | some b => if (s.protection b).manual then s.refuse .already else (s.activate b .manual, Answer.bare .ok)
  | _ => s.refuse .badLength

/-- The acceptance of a SHED_CLEAR (R134): MANUAL, the restart count and the marks cleared, a running timer dropped. -/
def State.clearShed (s : State) (b : Branch) : State :=
  s.setProtection b { s.protection b with
    manual := false, restartCount := 0, restartTimer := 0, manualMark := false, exhaustedMark := false }

/-- A SHED_CLEAR accepted with the restore flag set (R134). -/
def State.clearRestore (s : State) (b : Branch) : State :=
  if (s.protection b).state = .restoring then s.clearShed b else (s.clearShed b).enterRestoring b .cleared

/-- SHED_CLEAR (R134, R177), from either link. -/
def requestShedClear (_x : Link) (payload : List Byte) (s : State) : State × Answer :=
  match payload with
  | [branch, flag] =>
    match branchFrom branch, codedFrom [false, true] flag with
    | some b, some restore =>
      if (s.protection b).state = .normal then s.refuse .notShed
      else if (s.protection b).overcurrent || (s.protection b).breaker then s.refuse .causeActive
      else if restore then (s.clearRestore b, Answer.bare .ok)
      else ((s.clearShed b).enterNormal b .cleared, Answer.bare .ok)
    | _, _ => s.refuse .badValue
  | _ => s.refuse .badLength

/-! ### FAULT_CLEAR (R119) -/

/-- The contact re-read at a clear (R119). -/
def State.reread (s : State) (k : Outlet) : State :=
  if s.isTracking (s.feedOf k) then
    if s.senseLive k then (s.setContact k .closed).post (.outletSwitched k .closed .reread) EventOrigin.nobody
    else (s.setContact k .opened).post (.outletSwitched k .opened .reread) EventOrigin.nobody
  else s.setContact k .unknown

/-- A relay fault cleared: the driver IDLE, the contact re-read, and the turn of a waiting entry (R119, R75). -/
def State.clearFault (s : State) (k : Outlet) : State :=
  (((s.setDriver k { (s.driver k).idle with fault := none }).reread k).firstStep k)

/-- FAULT_CLEAR (R119). -/
def requestFaultClear (x : Link) (payload : List Byte) (s : State) : State × Answer :=
  match payload with
  | [outlet] =>
    match outletFrom outlet with
    | none => s.refuse .badValue
    | some k =>
      if s.heldByOther x k then s.refuse .held
      else if (s.driver k).fault.isNone then s.refuse .already
      else (s.clearFault k, { status := .ok, payload := [byteOf ((s.clearFault k).contact k).code] })
  | _ => s.refuse .badLength

end Sys2Proof.Machine
end

