-- ==== Sys2Proof/Machine/Sweeps.lean ====
section
/-! DEFINITION. Placing a response in a link's buffer (R168), and the Sweep Engine (chapter 10). -/

namespace Sys2Proof.Machine

/-! ### The response buffer (R168) -/

/-- A response placed in link `x`'s buffer with the generation standing. -/
def State.respond (s : State) (x : Link) (status : Status) (echo : Byte) (payload : List Byte) : State :=
  s.setPort x { s.port x with
    response := { status := status, echo := echo, generation := s.generation, payload := payload } }

/-- Link `x`'s pending mark set or cleared (R169). -/
def State.setPendingMark (s : State) (x : Link) (b : Bool) : State := s.setPort x { s.port x with pendingMark := b }

/-! ### Starting a sweep (R157) -/

/-- The count a sweep takes: at least 1 and at most the outlets from its start to the end of its range. -/
def sweepCount (start : Outlet) (direction : SweepDirection) (count : Nat) : Nat :=
  match direction with
  | .up => min (max count 1) (24 - start.val)
  | .down => min (max count 1) (start.val + 1)

/-- The off time a sweep keeps: 0 stays 0, and an action other than CYCLE has none. -/
def sweepOffTime (action : SweepAction) (off : Nat) : Nat := if action = .cycle then min off 255 else 0

/-- The context an accepted SWEEP forms. -/
def newSweep (start : Outlet) (count : Nat) (direction : SweepDirection) (metric : Metric) (relation : Relation)
    (value : Int) (action : SweepAction) (off : Nat) (stop : StopMode) : SweepContext :=
  { start := start, direction := direction, metric := metric, relation := relation, value := value, action := action,
    offTime := sweepOffTime action off, stop := stop,
    clamped := decide (sweepCount start direction count ≠ count) || decide (action = .cycle ∧ 255 < off),
    cursor := start, remaining := sweepCount start direction count, matched := 0, accepted := 0, refused := 0,
    last := none, suspended := false }

/-- A SWEEP whose fields are of the listed values: SWEEP_ACTIVE, or accepted, the link pending (R157, R169). -/
def State.startSweep (s : State) (x : Link) (c : SweepContext) : State × Answer :=
  if (s.sweepEngine x).context.isSome then s.refuse .sweepActive
  else ((s.setSweep x { s.sweepEngine x with context := some c }).setPendingMark x true, Answer.bare .pending)

/-- SWEEP (R157, R185). -/
def requestSweep (x : Link) (payload : List Byte) (s : State) : State × Answer :=
  match payload with
  | [start, count, direction, metric, relation, v3, v2, v1, v0, action, h, l, stop] =>
    match outletFrom start, codedFrom [.up, .down] direction,
      codedFrom [.contact, .cycleImA, .windowImA, .windowPmW, .monitorState, .branch, .heldBy] metric,
      codedFrom [.eq, .ne, .lt, .ge] relation,
      codedFrom [.none, .opening, .closing, .cycle, .hold, .release, .heartbeat] action,
      codedFrom [.all, .first] stop with
    | some k, some d, some m, some r, some a, some st =>
      s.startSweep x (newSweep k count.toNat d m r (number4 v3 v2 v1 v0) a (number2 h l) st)
    | _, _, _, _, _, _ => s.refuse .badValue
  | _ => s.refuse .badLength

/-! ### The condition (R158) -/

/-- The value a metric examines, absent where its result is. -/
def State.metricValue (s : State) (k : Outlet) : Metric → Option Int
  | .contact => some (s.contact k).code
  | .cycleImA => (s.meter k).cycleResult.map fun r => (r.imA : Int)
  | .windowImA => (s.meter k).windowResult.map fun r => (r.imA : Int)
  | .windowPmW => (s.meter k).windowResult.map (·.pmW)
  | .monitorState => some (s.monitor k).state.code
  | .branch => some (s.branchOf k).val
  | .heldBy => some (holdCode (s.hold k))

/-- A relation between a metric value and the context's value. -/
def Relation.test (r : Relation) (v w : Int) : Bool :=
  match r with
  | .eq => decide (v = w)
  | .ne => decide (v ≠ w)
  | .lt => decide (v < w)
  | .ge => decide (w ≤ v)

/-- Whether the cursor outlet matches; an absent value matches under no relation. -/
def State.sweepMatches (s : State) (c : SweepContext) : Bool :=
  match s.metricValue c.cursor c.metric with
  | none => false
  | some v => c.relation.test v c.value

/-! ### The action (R159) -/

/-- How the answer to an action is counted; `full` is QUEUE_FULL, which is not counted. -/
inductive Tally
  | accepted
  | refused
  | full
  deriving DecidableEq, Repr

/-- The tally of a SWITCH's status (R159's table). -/
def Status.tally : Status → Tally
  | .ok => .accepted
  | .clamped => .accepted
  | .joined => .accepted
  | .already => .accepted
  | .queueFull => .full
  | _ => .refused

/-- A switching action of a sweep: a SWITCH with no tag and the sweep mark. -/
def State.sweepSwitch (s : State) (x : Link) (k : Outlet) (kind : Kind) (off : Nat) : State × Option Tally :=
  ((s.switchAction x k kind off none true).1, some (s.switchAction x k kind off none true).2.status.tally)

/-- The action of a match applied to one outlet with link `x`'s rights. -/
def State.sweepAction (s : State) (x : Link) (k : Outlet) (c : SweepContext) : State × Option Tally :=
  match c.action with
  | .none => (s, none)
  | .opening => s.sweepSwitch x k .opening 0
  | .closing => s.sweepSwitch x k .closing 0
  | .cycle => s.sweepSwitch x k .cycle c.offTime
  | .hold => if s.heldByOther x k then (s, some .refused) else (s.setHold k (some x), some .accepted)
  | .release => if s.heldByOther x k then (s, some .refused) else (s.setHold k none, some .accepted)
  | .heartbeat => if (s.monitor k).state = .off then (s, some .refused) else (s.heartbeatAt k, some .accepted)

/-! ### The end of a sweep (R161 to R163) -/

/-- The result record of a context (R161). -/
def SweepContext.result (c : SweepContext) (reason : StopReason) : SweepResult :=
  { matched := c.matched, accepted := c.accepted, refused := c.refused, last := c.last, reason := reason,
    matchFlag := decide (0 < c.matched), clamped := c.clamped }

/-- The bytes of a result record (R186). -/
def SweepResult.bytes (r : SweepResult) : List Byte :=
  [byteOf r.matched, byteOf r.accepted, byteOf r.refused, outletByte r.last, byteOf r.reason.code,
    sweepFlags r.matchFlag r.clamped]

/-- The context discarded, its record kept, the link no longer pending (R161, R162). -/
def State.dropSweep (s : State) (x : Link) (r : SweepResult) : State :=
  (s.setSweep x { context := none, last := some r }).setPendingMark x false

/-- A sweep ended with the SWEEP's own response (R161, R163). -/
def State.endSweep (s : State) (x : Link) (c : SweepContext) (reason : StopReason) : State :=
  (s.dropSweep x (c.result reason)).respond x (if c.clamped then .clamped else .ok) 0x1B (c.result reason).bytes

/-- The sweep of a link that leaves PRESENT, ended ABORTED (R163). DEDUCED, safe (assumption 9): its response has the
status R161 gives the SWEEP's response. -/
def State.abortSweep (s : State) (x : Link) : State :=
  match (s.sweepEngine x).context with
  | none => s
  | some c => s.endSweep x c .aborted

/-- SWEEP_ABORT (R162). -/
def requestSweepAbort (x : Link) (payload : List Byte) (s : State) : State × Answer :=
  match payload with
  | [] =>
    match (s.sweepEngine x).context with
    | some c => (s.dropSweep x (c.result .aborted), { status := .ok, payload := (c.result .aborted).bytes })
    | none => (s, { status := .noSweep, payload := ((s.sweepEngine x).last.map SweepResult.bytes).getD [] })
  | _ => s.refuse .badLength

/-! ### An examination (R158, R160, R161) -/

/-- The outlet after the cursor. At the end of the range no outlet follows and the context is discarded. -/
def SweepContext.nextCursor (c : SweepContext) : Outlet :=
  match c.direction with
  | .up => c.cursor + 1
  | .down => c.cursor - 1

/-- The context after its cursor outlet has been examined. -/
def SweepContext.pass (c : SweepContext) : SweepContext :=
  { c with cursor := c.nextCursor, remaining := c.remaining - 1, last := some c.cursor, suspended := false }

/-- The context after a match whose action was counted. -/
def SweepContext.count (c : SweepContext) (t : Option Tally) : SweepContext :=
  { c with
    matched := c.matched + 1
    accepted := if t = some .accepted then c.accepted + 1 else c.accepted
    refused := if t = some .refused then c.refused + 1 else c.refused }

/-- The context kept, or the sweep ended where its remaining count is 0 (R161). -/
def State.keepSweep (s : State) (x : Link) (c : SweepContext) : State :=
  if c.remaining = 0 then s.endSweep x c .countDone else s.setSweep x { s.sweepEngine x with context := some c }

/-- The matched cursor outlet: its action, and a suspension, an end or a pass (R159, R160, R161). -/
def State.sweepMatch (s : State) (x : Link) (c : SweepContext) : State :=
  match s.sweepAction x c.cursor c with
  | (s1, some .full) => s1.setSweep x { s1.sweepEngine x with context := some { c with suspended := true } }
  | (s1, t) =>
    if c.stop = .first then s1.endSweep x (c.pass.count t) .firstMatch else s1.keepSweep x (c.pass.count t)

/-- The examination of the cursor outlet (R158). -/
def State.examine (s : State) (x : Link) (c : SweepContext) : State :=
  if s.sweepMatches c then s.sweepMatch x c else s.keepSweep x c.pass

/-- Link `x`'s sweep at its turn of an arrival: a suspended one waits for room (R158, R160). -/
def State.sweepTurn (s : State) (x : Link) : State :=
  match (s.sweepEngine x).context with
  | none => s
  | some c => if c.suspended = true ∧ s.hasRoom = false then s else s.examine x c

/-- A suspended sweep resumed where the queue has room (R160). -/
def State.sweepResume (s : State) (x : Link) : State :=
  match (s.sweepEngine x).context with
  | none => s
  | some c => if c.suspended = true ∧ s.hasRoom = true then s.examine x c else s

end Sys2Proof.Machine
end

