-- ==== Sys2Proof/Machine/SettingsStore.lean ====
section
/-! DEFINITION. The Settings store (R179 to R182): the settings with their ids and indexes, their ranges, what a write
stores, and what the owning blocks do at an accepted write. -/

namespace Sys2Proof.Machine

/-- A setting with its index (R179's table). -/
inductive Setting
  | noLoad
  | creep
  | vGain (f : Feed)
  | vOffset (f : Feed)
  | iGain (k : Outlet)
  | iOffset (k : Outlet)
  | windowExp (f : Feed)
  | divider (f : Feed)
  | branchFeed (b : Branch)
  | branchLimit (b : Branch)
  | overCycles (b : Branch)
  | stagger (b : Branch)
  | restartEnable (b : Branch)
  | restartDelay (b : Branch)
  | restartLimit (b : Branch)
  | outletBranch (k : Outlet)
  | closeDelay (k : Outlet)
  | openDelay (k : Outlet)
  | pulseLength (k : Outlet)
  | tripLevel (k : Outlet)
  | tripCycles (k : Outlet)
  | shedMode (k : Outlet)
  | monWindow (k : Outlet)
  | monAction (k : Outlet)
  | retryLimit (k : Outlet)
  | stallBand (k : Outlet)
  | bootGrace (k : Outlet)
  | cycleOff (k : Outlet)
  | badLimit (x : Link)
  | linkTimeout (x : Link)
  deriving DecidableEq, Repr

/-- A link index. -/
def linkFrom (n : Byte) : Option Link := codedFrom [.a, .b] n

/-- The setting an id and an index name: none for an unknown id or an index beyond the setting's scope (R180). -/
def settingFrom (id index : Byte) : Option Setting :=
  match id.toNat with
  | 0x01 => if index = 0 then some .noLoad else none
  | 0x02 => if index = 0 then some .creep else none
  | 0x08 => (feedFrom index).map .vGain
  | 0x09 => (feedFrom index).map .vOffset
  | 0x0A => (outletFrom index).map .iGain
  | 0x0B => (outletFrom index).map .iOffset
  | 0x10 => (feedFrom index).map .windowExp
  | 0x11 => (feedFrom index).map .divider
  | 0x18 => (branchFrom index).map .branchFeed
  | 0x19 => (branchFrom index).map .branchLimit
  | 0x1A => (branchFrom index).map .overCycles
  | 0x1B => (branchFrom index).map .stagger
  | 0x1C => (branchFrom index).map .restartEnable
  | 0x1D => (branchFrom index).map .restartDelay
  | 0x1E => (branchFrom index).map .restartLimit
  | 0x20 => (outletFrom index).map .outletBranch
  | 0x21 => (outletFrom index).map .closeDelay
  | 0x22 => (outletFrom index).map .openDelay
  | 0x23 => (outletFrom index).map .pulseLength
  | 0x24 => (outletFrom index).map .tripLevel
  | 0x25 => (outletFrom index).map .tripCycles
  | 0x26 => (outletFrom index).map .shedMode
  | 0x28 => (outletFrom index).map .monWindow
  | 0x29 => (outletFrom index).map .monAction
  | 0x2A => (outletFrom index).map .retryLimit
  | 0x2B => (outletFrom index).map .stallBand
  | 0x2C => (outletFrom index).map .bootGrace
  | 0x2D => (outletFrom index).map .cycleOff
  | 0x30 => (linkFrom index).map .badLimit
  | 0x31 => (linkFrom index).map .linkTimeout
  | _ => none

/-! ### Ranges (R179, R180) -/

/-- The values a setting takes: a range whose limits replace values outside it, or a list. -/
inductive Domain
  | range (lo hi : Int)
  | listed (values : List Int)
  deriving DecidableEq, Repr

/-- The range or the values of a setting (R179's table). -/
def Setting.domain : Setting → Domain
  | .noLoad => .range 0 1000
  | .creep => .range 0 5000
  | .vGain _ => .range 0 32767
  | .vOffset _ => .range (-2048) 2047
  | .iGain _ => .range 0 32767
  | .iOffset _ => .range (-2048) 2047
  | .windowExp _ => .range 3 7
  | .divider _ => .listed [1, 4, 16]
  | .branchFeed _ => .listed [0, 1, 2]
  | .branchLimit _ => .range 0 32000
  | .overCycles _ => .range 1 255
  | .stagger _ => .range 0 255
  | .restartEnable _ => .listed [0, 1]
  | .restartDelay _ => .range 1 255
  | .restartLimit _ => .range 0 15
  | .outletBranch _ => .listed [0, 1, 2, 3, 4, 5]
  | .closeDelay _ => .range 0 191
  | .openDelay _ => .range 0 191
  | .pulseLength _ => .range 8 255
  | .tripLevel _ => .range 0 31999
  | .tripCycles _ => .range 1 255
  | .shedMode _ => .listed [0, 1, 2]
  | .monWindow _ => .range 0 255
  | .monAction _ => .listed [0, 1]
  | .retryLimit _ => .range 1 7
  | .stallBand _ => .range 0 100000
  | .bootGrace _ => .range 1 255
  | .cycleOff _ => .range 1 255
  | .badLimit _ => .range 1 15
  | .linkTimeout _ => .range 0 255

/-- The value a write stores with its report, or none for BAD_VALUE (R180 steps 3, 5 and 6). -/
def Domain.fit (d : Domain) (v : Int) : Option (Int × Status) :=
  match d with
  | .range lo hi => some (saturate lo hi v, if saturate lo hi v = v then .ok else .clamped)
  | .listed values => if values.contains v then some (v, .ok) else none

/-! ### Reading and storing -/

/-- The value a setting holds, as its code (R179, R190). -/
def Settings.read (c : Settings) : Setting → Int
  | .noLoad => c.noLoad
  | .creep => c.creep
  | .vGain f => (look c.vGain f : Nat)
  | .vOffset f => look c.vOffset f
  | .iGain k => (look c.iGain k : Nat)
  | .iOffset k => look c.iOffset k
  | .windowExp f => (look c.windowExp f : Nat)
  | .divider f => (look c.divider f : Nat)
  | .branchFeed b => (look c.branchFeed b).val
  | .branchLimit b => (look c.branchLimit b : Nat)
  | .overCycles b => (look c.overCycles b : Nat)
  | .stagger b => (look c.staggerSet b : Nat)
  | .restartEnable b => flagBit 1 (look c.restartEnable b)
  | .restartDelay b => (look c.restartDelay b : Nat)
  | .restartLimit b => (look c.restartLimit b : Nat)
  | .outletBranch k => (look c.outletBranch k).val
  | .closeDelay k => (look c.closeDelay k : Nat)
  | .openDelay k => (look c.openDelay k : Nat)
  | .pulseLength k => (look c.pulseLength k : Nat)
  | .tripLevel k => (look c.tripLevel k : Nat)
  | .tripCycles k => (look c.tripCycles k : Nat)
  | .shedMode k => (look c.shedMode k).code
  | .monWindow k => (look c.monWindow k : Nat)
  | .monAction k => (look c.monAction k).code
  | .retryLimit k => (look c.retryLimit k : Nat)
  | .stallBand k => (look c.stallBand k : Nat)
  | .bootGrace k => (look c.bootGrace k : Nat)
  | .cycleOff k => (look c.cycleOff k : Nat)
  | .badLimit x => c.badLimit.get x
  | .linkTimeout x => c.linkTimeout.get x

/-- The shed mode of a code. -/
def shedModeOf : Nat → ShedMode
  | 0 => .openNow
  | 1 => .openSync
  | _ => .keep

/-- The monitor action of a code. -/
def monitorActionOf : Nat → MonitorAction
  | 0 => .report
  | _ => .cycle

/-- The settings with one value stored. -/
def Settings.store (c : Settings) (t : Setting) (v : Int) : Settings :=
  match t with
  | .noLoad => { c with noLoad := v.toNat }
  | .creep => { c with creep := v.toNat }
  | .vGain f => { c with vGain := put c.vGain f v.toNat }
  | .vOffset f => { c with vOffset := put c.vOffset f v }
  | .iGain k => { c with iGain := put c.iGain k v.toNat }
  | .iOffset k => { c with iOffset := put c.iOffset k v }
  | .windowExp f => { c with windowExp := put c.windowExp f v.toNat }
  | .divider f => { c with divider := put c.divider f v.toNat }
  | .branchFeed b => { c with branchFeed := put c.branchFeed b (Fin.ofNat 3 v.toNat) }
  | .branchLimit b => { c with branchLimit := put c.branchLimit b v.toNat }
  | .overCycles b => { c with overCycles := put c.overCycles b v.toNat }
  | .stagger b => { c with staggerSet := put c.staggerSet b v.toNat }
  | .restartEnable b => { c with restartEnable := put c.restartEnable b (v == 1) }
  | .restartDelay b => { c with restartDelay := put c.restartDelay b v.toNat }
  | .restartLimit b => { c with restartLimit := put c.restartLimit b v.toNat }
  | .outletBranch k => { c with outletBranch := put c.outletBranch k (Fin.ofNat 6 v.toNat) }
  | .closeDelay k => { c with closeDelay := put c.closeDelay k v.toNat }
  | .openDelay k => { c with openDelay := put c.openDelay k v.toNat }
  | .pulseLength k => { c with pulseLength := put c.pulseLength k v.toNat }
  | .tripLevel k => { c with tripLevel := put c.tripLevel k v.toNat }
  | .tripCycles k => { c with tripCycles := put c.tripCycles k v.toNat }
  | .shedMode k => { c with shedMode := put c.shedMode k (shedModeOf v.toNat) }
  | .monWindow k => { c with monWindow := put c.monWindow k v.toNat }
  | .monAction k => { c with monAction := put c.monAction k (monitorActionOf v.toNat) }
  | .retryLimit k => { c with retryLimit := put c.retryLimit k v.toNat }
  | .stallBand k => { c with stallBand := put c.stallBand k v.toNat }
  | .bootGrace k => { c with bootGrace := put c.bootGrace k v.toNat }
  | .cycleOff k => { c with cycleOff := put c.cycleOff k v.toNat }
  | .badLimit x => { c with badLimit := c.badLimit.set x v.toNat }
  | .linkTimeout x => { c with linkTimeout := c.linkTimeout.set x v.toNat }

/-! ### The map's condition (R181) -/

/-- Whether a write that differs from the stored value is refused MAP_BUSY. -/
def State.mapBusy (s : State) : Setting → Bool
  | .outletBranch k => (s.entryOf k).isSome
  | .branchFeed b => (s.protection b).state != .normal || (s.outletsOf b).any fun k => (s.entryOf k).isSome
  | _ => false

/-! ### What the owning blocks do at an accepted write -/

/-- The window exponent of a feed changed (R26, R45). -/
def State.exponentChanged (s : State) (f : Feed) : State :=
  (s.outletsOfFeed f).foldl (fun t k => t.setMeter k (t.meter k).clearWindow)
    (s.setTracker f (s.tracker f).discardWindow)

/-- A branch's feed changed (R46, R138). -/
def State.branchFeedChanged (s : State) (b : Branch) : State :=
  (s.outletsOf b).foldl (fun t k => (t.setMeter k (t.meter k).realign).setTripRun k 0)
    (s.setProtection b { s.protection b with overRun := 0 })

/-- An outlet moved from branch `old` (R46, R127, R132): `moved` says that its feed changed with it. -/
def State.outletMoved (s : State) (k : Outlet) (old : Branch) (moved : Bool) : State :=
  let s1 := s.setTripRun k 0
  (if moved then s1.setMeter k (s1.meter k).realign else s1).withdrawVictim old k

/-- An outlet's monitor window changed (R153). -/
def State.windowSettingChanged (s : State) (k : Outlet) (v : Int) : State :=
  s.setMonitor k (if v = 0 then Monitor.initial .off else Monitor.reset)

/-- The effects of a write that changed its setting; `s` holds the new value and `old` is the state before it. A restart enable that comes
on may begin an automatic restart (R133). -/
def State.changed (s : State) (old : State) (t : Setting) (v : Int) : State :=
  match t with
  | .windowExp f => s.exponentChanged f
  | .divider f => s.setTracker f (s.tracker f).captureNone
  | .branchFeed b => s.branchFeedChanged b
  | .outletBranch k => s.outletMoved k (old.branchOf k) (old.feedOf k != s.feedOf k)
  | .monWindow k => s.windowSettingChanged k v
  | .restartEnable b => s.autoRestart b
  | _ => s

/-- The effects of any accepted write: the head's test for the stagger and the limit (R105). -/
def State.written (s : State) : Setting → State
  | .branchLimit b => s.testHead b
  | .stagger b => s.testHead b
  | _ => s

/-! ### The requests (R180, R182) -/

/-- The answer's payload: the id, the index and the value. -/
def settingPayload (id index : Byte) (v : Int) : List Byte := [id, index] ++ signed4 v

/-- An accepted write: stored, the generation raised, CONFIG_CHANGED posted, and its effects (R180, R182). DEDUCED, unsafe
(assumption 13): in this order. -/
def State.acceptWrite (s : State) (x : Link) (t : Setting) (id index : Byte) (v : Int) : State :=
  let s1 := ((s.setSettings (s.settings.store t v)).setGeneration (s.generation + 1)).post
    (.configChanged id index x v) EventOrigin.nobody
  (if s.settings.read t = v then s1 else s1.changed s t v).written t

/-- A SETTING_WRITE of a known setting (R180). -/
def State.writeSetting (s : State) (x : Link) (t : Setting) (id index : Byte) (v : Int) : State × Answer :=
  match t.domain.fit v with
  | none => s.refuse .badValue
  | some (w, status) =>
    if s.settings.read t ≠ w ∧ s.mapBusy t = true then s.refuse .mapBusy
    else (s.acceptWrite x t id index w, { status := status, payload := settingPayload id index w })

/-- SETTING_WRITE (R180, R185). -/
def requestSettingWrite (x : Link) (payload : List Byte) (s : State) : State × Answer :=
  match payload with
  | [id, index, v3, v2, v1, v0] =>
    match settingFrom id index with
    | none => s.refuse .badValue
    | some t => s.writeSetting x t id index (number4 v3 v2 v1 v0)
  | _ => s.refuse .badLength

/-- SETTING_READ (R176, R180). -/
def requestSettingRead (_x : Link) (payload : List Byte) (s : State) : State × Answer :=
  match payload with
  | [id, index] =>
    match settingFrom id index with
    | none => s.refuse .badValue
    | some t => (s, { status := .ok, payload := settingPayload id index (s.settings.read t) })
  | _ => s.refuse .badLength

end Sys2Proof.Machine
end

