-- ==== Sys2Proof/Machine/Reports.lean ====
section
/-! DEFINITION. The reading requests and their byte layouts (R176, R187, R189), with EVENTS_READ (R174, R183) and ENERGY_READ
(R64). An absent result or field reads 0 beside its presence bit (R183). -/

namespace Sys2Proof.Machine

/-- A field of `n` bytes that reads 0. -/
def zeros (n : Nat) : List Byte := List.replicate n 0

/-- The bytes of an optional record of `n` bytes. -/
def optionBytes {α : Type} (n : Nat) (f : α → List Byte) : Option α → List Byte
  | none => zeros n
  | some r => f r

/-- The outlets that meet a condition, as a mask. -/
def outletsWhere (p : Outlet → Bool) : Vector Bool 24 := tab24 p

/-! ### STATUS -/

/-- STATUS page 0 of link `x`, 39 bytes. -/
def State.statusPage0 (s : State) (x : Link) : List Byte :=
  bytes4 s.sampleCounter.toNat ++ s.now.bytes ++
    [byteOf (s.port .a).presence.code, byteOf (s.port .b).presence.code, byteOf (s.port x).events.length,
     byteOf (flagBit 1 (s.port x).overflow)] ++
    allFeeds.map (fun f => byteOf (s.tracker f).state.code) ++
    allBranches.map (fun b => byteOf (s.protection b).state.code) ++
    [byteOf s.entries.length] ++
    maskBytes (outletsWhere fun k => s.hold k == some .a) ++
    maskBytes (outletsWhere fun k => s.hold k == some .b) ++
    maskBytes (outletsWhere fun k => s.contact k == .closed) ++
    maskBytes (outletsWhere fun k => s.contact k == .unknown) ++
    maskBytes (outletsWhere fun k => (s.driver k).fault.isSome)

/-- An entry of STATUS page 1. -/
def Entry.statusBytes (e : Entry) : List Byte :=
  [e.id, byteOf (e.outlet.val * 4 + e.kind.code),
   byteOf (e.phase.code * 16 + originCode (some e.origin) * 2 + flagBit 1 e.sweep)]

/-- STATUS page 1. -/
def State.statusPage1 (s : State) : List Byte :=
  byteOf s.entries.length :: (s.entries.map Entry.statusBytes).flatten

/-- STATUS (R176). -/
def requestStatus (x : Link) (payload : List Byte) (s : State) : State × Answer :=
  match payload with
  | [page] =>
    if page = 0 then (s, { status := .ok, payload := s.statusPage0 x })
    else if page = 1 then (s, { status := .ok, payload := s.statusPage1 })
    else s.refuse .badValue
  | _ => s.refuse .badLength

/-! ### OUTLET_READ -/

/-- The entry part of an outlet record, 7 bytes. -/
def Entry.reportBytes (e : Entry) : List Byte :=
  [e.id, byteOf e.kind.code, byteOf (originCode (some e.origin)), e.tag.getD 0, byteOf e.offTime, byteOf e.phase.code,
   byteOf (if e.phase = .offHold then e.offHold else 0)]

/-- The monitor's part of an outlet record, 21 bytes (R155). -/
def State.monitorBytes (s : State) (k : Outlet) : List Byte :=
  [byteOf (s.monitor k).state.code] ++ bytes4 (s.monitor k).silence ++ bytes4 (s.windowLength k) ++
    [byteOf (s.monitor k).retries, byteOf (s.monitor k).evidence] ++ spreadBytes (s.monitor k).spread ++
    bytes2 (if (s.monitor k).state = .grace then (s.monitor k).grace else 0)

/-- OUTLET_READ part 0, 35 bytes. -/
def State.outletPart0 (s : State) (k : Outlet) : List Byte :=
  [byteOf (s.branchOf k).val, byteOf (s.feedOf k).val, byteOf (s.contact k).code, byteOf (s.driver k).state.code,
   byteOf (faultCode (s.driver k).fault), byteOf (holdCode (s.hold k)),
   outletFlags (s.isTripped k) (s.senseLive k) (s.paused k) (s.entryOf k) (s.monitor k)] ++
    optionBytes 7 Entry.reportBytes (s.entryOf k) ++ s.monitorBytes k

/-- A cycle result, 20 bytes. -/
def CycleResult.bytes (r : CycleResult) : List Byte :=
  signed4 r.pmW ++ bytes2 r.imA ++ bytes4 r.smVA ++ signed2 r.pf ++
    [byteOf r.n, resultFlags r.clip r.noLoad r.synthetic] ++ r.stamp.bytes

/-- A window result, 22 bytes. -/
def WindowResult.bytes (r : WindowResult) : List Byte :=
  signed4 r.pmW ++ bytes2 r.imA ++ bytes4 r.smVA ++ signed2 r.pf ++ bytes2 r.total ++
    [byteOf r.length, resultFlags r.clip r.noLoad r.synthetic] ++ r.stamp.bytes

/-- OUTLET_READ part 1, 45 bytes (R52). -/
def State.outletPart1 (s : State) (k : Outlet) : List Byte :=
  [meterPresence (s.meter k)] ++ optionBytes 20 CycleResult.bytes (s.meter k).cycleResult ++
    optionBytes 22 WindowResult.bytes (s.meter k).windowResult ++ bytes2 (s.meter k).remembered

/-- OUTLET_READ (R68). -/
def requestOutletRead (_x : Link) (payload : List Byte) (s : State) : State × Answer :=
  match payload with
  | [outlet, part] =>
    match outletFrom outlet with
    | none => s.refuse .badValue
    | some k =>
      if part = 0 then (s, { status := .ok, payload := s.outletPart0 k })
      else if part = 1 then (s, { status := .ok, payload := s.outletPart1 k })
      else s.refuse .badValue
  | _ => s.refuse .badLength

/-! ### FEED_READ -/

/-- A feed cycle result, 4 bytes. -/
def FeedCycle.bytes (r : FeedCycle) : List Byte :=
  bytes2 r.vcV ++ [byteOf r.n, resultFlags r.clip false r.synthetic]

/-- A feed window result, 6 bytes. -/
def FeedWindow.bytes (r : FeedWindow) : List Byte :=
  bytes2 r.vcV ++ bytes2 r.total ++ [byteOf r.length, resultFlags r.clip false r.synthetic]

/-- A frequency result, 11 bytes. -/
def Frequency.bytes (r : Frequency) : List Byte := bytes4 r.mHz ++ [byteOf r.divider] ++ r.stamp.bytes

/-- FEED_READ, 35 bytes (R29). -/
def State.feedReport (s : State) (f : Feed) : List Byte :=
  let t := s.tracker f
  [byteOf t.state.code] ++ bytes2 t.phase ++ [byteOf t.tp, feedPresence t] ++
    optionBytes 5 (fun c : BitVec 40 => bytes5 c.toNat) t.lastCrossing ++
    optionBytes 4 FeedCycle.bytes t.cycleResult ++ optionBytes 6 FeedWindow.bytes t.windowResult ++
    [byteOf (look s.settings.windowExp f), byteOf t.win.count, byteOf (look s.settings.divider f), byteOf t.inRange] ++
    optionBytes 11 Frequency.bytes t.frequency

/-- FEED_READ (R29). -/
def requestFeedRead (_x : Link) (payload : List Byte) (s : State) : State × Answer :=
  match payload with
  | [feed] =>
    match feedFrom feed with
    | none => s.refuse .badValue
    | some f => (s, { status := .ok, payload := s.feedReport f })
  | _ => s.refuse .badLength

/-! ### BRANCH_READ -/

/-- The shed mode and trip run of an outlet, the run shown as 63 from 63 on. -/
def State.tripByte (s : State) (k : Outlet) : Byte :=
  byteOf ((look s.settings.shedMode k).code * 64 + min (s.tripRun k) 63)

/-- BRANCH_READ, 21 to 61 bytes (R106, R137). -/
def State.branchReport (s : State) (b : Branch) : List Byte :=
  let p := s.protection b
  let q := s.sequencer b
  [byteOf p.state.code, causeFlags p (s.breaker b).level, byteOf (s.branchFeedOf b).val, branchMarks p q] ++
    bytes3 (p.sum.getD 0) ++ [byteOf p.overRun, byteOf p.restartCount, byteOf p.restartTimer] ++
    maskBytes p.victims ++ maskBytes (outletsWhere fun k => s.branchOf k == b) ++
    [q.inProgress.getD 0, byteOf q.stagger, byteOf (look s.settings.staggerSet b), byteOf q.reason.code,
     byteOf q.line.length] ++ q.line ++ (s.outletsOf b).map s.tripByte

/-- BRANCH_READ (R137). -/
def requestBranchRead (_x : Link) (payload : List Byte) (s : State) : State × Answer :=
  match payload with
  | [branch] =>
    match branchFrom branch with
    | none => s.refuse .badValue
    | some b => (s, { status := .ok, payload := s.branchReport b })
  | _ => s.refuse .badLength

/-! ### EVENTS_READ (R174, R183) -/

/-- The events an EVENTS_READ carries: at most `count`, while their bytes fit in `room`. -/
def takeFitting : Nat → Nat → List Event → List Event
  | 0, _, _ => []
  | _, _, [] => []
  | count + 1, room, e :: es =>
    if e.bytes.length ≤ room then e :: takeFitting count (room - e.bytes.length) es else []

/-- The events link `x`'s next EVENTS_READ carries. -/
def State.eventsTaken (s : State) (x : Link) : List Event := takeFitting 4 61 (s.port x).events

/-- The events left in link `x`'s queue after them. -/
def State.eventsLeft (s : State) (x : Link) : List Event := (s.port x).events.drop (s.eventsTaken x).length

/-- The answer to an EVENTS_READ. -/
def State.eventsPayload (s : State) (x : Link) : List Byte :=
  [byteOf (s.eventsTaken x).length, byteOf (s.eventsLeft x).length, byteOf (flagBit 1 (s.port x).overflow)] ++
    ((s.eventsTaken x).map Event.bytes).flatten

/-- EVENTS_READ (R174). -/
def requestEventsRead (x : Link) (payload : List Byte) (s : State) : State × Answer :=
  match payload with
  | [] =>
    (s.setPort x { (s.port x).withEvents (s.eventsLeft x) with overflow := false },
      { status := .ok, payload := s.eventsPayload x })
  | _ => s.refuse .badLength

/-! ### ENERGY_READ (R64, R189) -/

/-- One outlet's copied registers, 14 bytes. -/
def Energy.bytes (e : Energy) : List Byte :=
  bytes5 e.importWh ++ bytes2 (mwhOf e.importRem) ++ bytes5 e.exportWh ++ bytes2 (mwhOf e.exportRem)

/-- The four outlets of a page. -/
def pageOutlets (page : Branch) : List Outlet := allOutlets.filter fun k => k.val / 4 == page.val

/-- The payload of a page of a bank, 64 bytes. -/
def Bank.page (b : Bank) (page : Branch) : List Byte :=
  bytes2 b.sequence.toNat ++ b.stamp.bytes ++ ((pageOutlets page).map fun k => (look b.copies k).bytes).flatten

/-- ENERGY_READ (R64). A page, like a branch, is 0 to 5. -/
def requestEnergyRead (x : Link) (payload : List Byte) (s : State) : State × Answer :=
  match payload with
  | [page] =>
    match branchFrom page with
    | none => s.refuse .badValue
    | some p =>
      match (s.bankPort x).bank with
      | none => s.refuse .noSnapshot
      | some b => (s, { status := .ok, payload := b.page p })
  | _ => s.refuse .badLength

end Sys2Proof.Machine
end

