-- ==== Sys2Proof/Machine/LinkPort.lean ====
section
/-! DEFINITION. The Link Port (chapter 11): presence, transactions and frames byte by byte, the whole transactions of the
request rows, reads, stalls and LINK_RESET. -/

namespace Sys2Proof.Machine

/-! ### Presence (R91, R171, R172) -/

/-- The outlets link `x` holds. -/
def State.heldBy (s : State) (x : Link) : Vector Bool 24 := tab24 fun k => s.hold k == some x

/-- Whether a set of outlets has a member. -/
def anyOf (v : Vector Bool 24) : Bool := allOutlets.any fun k => look v k

/-- All of link `x`'s holds lapse, HOLD_LAPSED being posted if there was one (R91). -/
def State.lapseHolds (s : State) (x : Link) (cause : LapseCause) : State :=
  if anyOf (s.heldBy x) then
    (s.giveHolds (s.heldBy x) none).post (.holdLapsed x (s.heldBy x) cause) EventOrigin.nobody
  else s

/-- The lapse cause of a presence state that a link enters from PRESENT. -/
def Presence.lapseCause : Presence → LapseCause
  | .degraded => .degraded
  | _ => .absent

/-- What leaving PRESENT does: the holds lapse and the sweep ends ABORTED (R172 step 1). -/
def State.leavePresent (s : State) (x : Link) (p : Presence) : State := (s.lapseHolds x p.lapseCause).abortSweep x

/-- A link's bank made absent, its counter kept (R65). -/
def State.dropBank (s : State) (x : Link) : State := s.setBank x { s.bankPort x with bank := none }

/-- A port in a presence state. DEDUCED, safe (assumption 10): the silence timer is 0 from the moment the link is ABSENT. -/
def Port.withPresence (p : Port) (q : Presence) : Port :=
  { p with presence := q, silence := if q = .absent then 0 else p.silence }

/-- Link `x`'s presence state changed to another, with R172's effects in their order. -/
def State.changePresence (s : State) (x : Link) (p : Presence) : State :=
  let old := (s.port x).presence
  let s1 := s.setPort x ((s.port x).withPresence p)
  let s2 := if old = .present then s1.leavePresent x p else s1
  let s3 := if p = .absent then s2.dropBank x else s2
  s3.postTo x.other (.peerLink x p old) EventOrigin.nobody

/-- A valid frame's effect on presence, made before its request is looked at (R171). -/
def State.validFrame (s : State) (x : Link) : State :=
  let s1 := s.setPort x { s.port x with badFrames := 0, silence := 0 }
  if (s.port x).presence = .present then s1 else s1.changePresence x .present

/-- One bad frame counted (R171). -/
def State.countBad (s : State) (x : Link) : State :=
  let s1 := s.setPort x { s.port x with badFrames := holdUp Config.byteMax (s.port x).badFrames }
  if (s.port x).presence = .present ∧ s.settings.badLimit.get x ≤ (s1.port x).badFrames then
    s1.changePresence x .degraded
  else s1

/-- Whether link `x`'s silence timer has reached its timeout (R171). -/
def State.timeoutDue (s : State) (x : Link) : Bool :=
  (s.port x).presence != .absent && decide (0 < s.settings.linkTimeout.get x) &&
    decide (s.settings.linkTimeout.get x ≤ (s.port x).silence)

/-- The link passing to ABSENT at its timeout (R171). -/
def State.timeout (s : State) (x : Link) : State := if s.timeoutDue x then s.changePresence x .absent else s

/-! ### LINK_RESET (R175) -/

/-- What a LINK_RESET does, in R175's order. -/
def State.linkReset (s : State) (x : Link) : State :=
  let s1 := s.setPort x { (s.port x).withEvents [] with overflow := false }
  let s2 := s1.lapseHolds x .linkReset
  let s3 := (s2.setSweep x { s2.sweepEngine x with last := none }).dropBank x
  s3.setPort x { s3.port x with latch := false }

/-- LINK_RESET (R175). -/
def requestLinkReset (x : Link) (payload : List Byte) (s : State) : State × Answer :=
  match payload with
  | [] => (s.linkReset x, { status := .ok, payload := maskBytes (s.heldBy x) })
  | _ => s.refuse .badLength

/-! ### Judging a frame (R167) -/

/-- A request taken: the valid frame's effect on presence, the request, and its response (R167 steps 3 to 6, R168). -/
def State.answered (s : State) (x : Link) (code : Byte) (take : State → State × Answer) : State :=
  (take (s.validFrame x)).1.respond x (take (s.validFrame x)).2.status code (take (s.validFrame x)).2.payload

/-- What a valid frame's command asks of link `x`: the requests of R176 and R177 by their codes, or BAD_COMMAND. -/
def requestOf (x : Link) (code : Byte) (payload : List Byte) (s : State) : State × Answer :=
  match code.toNat with
  | 0x01 => requestStatus x payload s
  | 0x02 => requestOutletRead x payload s
  | 0x03 => requestFeedRead x payload s
  | 0x04 => requestBranchRead x payload s
  | 0x05 => requestEventsRead x payload s
  | 0x06 => requestEnergyRead x payload s
  | 0x07 => requestSettingRead x payload s
  | 0x10 => requestSwitch x payload s
  | 0x11 => requestCancel x payload s
  | 0x12 => requestHold x payload s
  | 0x13 => requestRelease x payload s
  | 0x14 => requestHeartbeat x payload s
  | 0x15 => requestSnapshot x payload s
  | 0x16 => requestShed x payload s
  | 0x17 => requestShedClear x payload s
  | 0x18 => requestFaultClear x payload s
  | 0x19 => requestMonitorReset x payload s
  | 0x1A => requestSettingWrite x payload s
  | 0x1B => requestSweep x payload s
  | 0x1C => requestSweepAbort x payload s
  | 0x1F => requestLinkReset x payload s
  | _ => s.refuse .badCommand

/-- A valid frame judged (R167 steps 3 to 6). -/
def State.judge (s : State) (x : Link) (code : Byte) (payload : List Byte) : State :=
  s.answered x code (requestOf x code payload)

/-- A frame answered BAD_FRAME and counted (R167 step 2). DEDUCED, safe (assumption 11): the response is placed before the
count, so that a sweep that the count ends leaves its own response in the buffer. -/
def State.badFrame (s : State) (x : Link) (echo : Byte) : State := (s.respond x .badFrame echo []).countBad x

/-- A write frame completed at its STOP or repeated START (R167). -/
def State.completeFrame (s : State) (x : Link) (bytes : List Byte) (overlong : Bool) : State :=
  if bytes.isEmpty then s
  else
    match overlong, parseFrame bytes with
    | false, some (code, payload) => s.judge x code payload
    | _, _ => s.badFrame x (bytes.headD 0)

/-! ### Transactions (R165, R166, R168) -/

/-- A port with no transaction in progress and no frame. -/
def Port.quiet (p : Port) : Port := { p with trans := .none, frame := [], overlong := false }

/-- The transaction in progress ended by a STOP or a repeated START: a write frame completes, a read clears the latch
(R165, R167, R168). -/
def State.endTransaction (s : State) (x : Link) : State :=
  let p := s.port x
  match p.trans with
  | .none => s
  | .write => (s.setPort x p.quiet).completeFrame x p.frame p.overlong
  | .refusing => s.setPort x p.quiet
  | .read => s.setPort x { p.quiet with latch := false }

/-- A START or repeated START with an address and a direction (R165). -/
def State.start (s : State) (x : Link) (address : BitVec 7) (read : Bool) : State :=
  let s1 := s.endTransaction x
  if address = s1.targetAddress then
    s1.setPort x { (s1.port x).quiet with trans := if read then .read else .write, acked := true }
  else s1.setPort x { s1.port x with acked := false }

/-- A byte refused that ends the frame: the latch set, the port REFUSING (R166). -/
def Port.refuseFrame (p : Port) : Port :=
  { p with trans := .refusing, frame := [], overlong := false, latch := true, acked := false }

/-- A byte acknowledged and kept. -/
def Port.keep (p : Port) (byte : Byte) : Port := { p with frame := p.frame ++ [byte], acked := true }

/-- Whether a port refuses a command byte: its latch is set, or it is pending and the byte is not SWEEP_ABORT's (R166). -/
def Port.refusesCommand (p : Port) (code : Byte) : Bool := p.latch || (p.pendingMark && code != 0x1C)

/-- One byte of a write transaction (R166). -/
def State.receiveWrite (s : State) (x : Link) (byte : Byte) : State :=
  let p := s.port x
  match p.frame with
  | [] => s.setPort x (if p.refusesCommand byte then p.refuseFrame else p.keep byte)
  | [code] =>
    if 32 < byte.toNat then (s.setPort x p.refuseFrame).badFrame x code else s.setPort x (p.keep byte)
  | _ :: len :: _ =>
    if p.frame.length ≤ len.toNat + 2 then s.setPort x (p.keep byte)
    else s.setPort x { p with overlong := true, acked := false }

/-- One byte on link `x` (R166). DESIGN CHOICE, safe (assumption 12): in READ and with no transaction the part does not
receive. -/
def State.receive (s : State) (x : Link) (byte : Byte) : State :=
  match (s.port x).trans with
  | .write => s.receiveWrite x byte
  | .refusing => s.setPort x { s.port x with acked := false }
  | _ => s

/-! ### Whole transactions -/

/-- A whole write transaction carrying bytes: its START, its bytes and its STOP. -/
def State.writeBytes (s : State) (x : Link) (bytes : List Byte) : State :=
  (bytes.foldl (fun t b => t.receive x b) (s.start x s.targetAddress false)).endTransaction x

/-- A whole write transaction carrying the frame of a command with an intact CRC; `done` is what a valid frame does. -/
def State.frameTransaction (s : State) (x : Link) (code : Byte) (payload : List Byte) (done : State → State) : State :=
  let s1 := s.endTransaction x
  let p := (s1.port x).quiet
  if p.refusesCommand code then s1.setPort x { p with latch := true, acked := false }
  else if 32 < payload.length then (s1.setPort x { p with latch := true, acked := false }).badFrame x code
  else done (s1.setPort x { p with acked := true })

/-- A request's whole write transaction (DESIGN CHOICE, safe, assumption 12). While RESET_N is low the part takes no request
(R92, R165). -/
def State.request (s : State) (x : Link) (code : Byte) (payload : List Byte) (take : State → State × Answer) : State :=
  if s.resetHeld then s else s.frameTransaction x code payload fun t => t.answered x code take

/-- A whole read transaction of `count` bytes (R168). -/
def State.readTransaction (s : State) (x : Link) (count : Nat) : State :=
  let s1 := s.endTransaction x
  s1.setPort x { (s1.port x).quiet with
    latch := false, acked := true, readOut := (s1.port x).response.read count }

/-! ### Stalls (R170) -/

/-- A transaction abandoned for a stall: no response, one bad frame. -/
def State.abandon (s : State) (x : Link) : State :=
  (s.setPort x { (s.port x).quiet with stallDue := false, acked := false }).countBad x

/-- The stall count at an arrival; `stallDue` says that it reached its limit with a transaction in progress. -/
def Port.stallCount (p : Port) (low : Bool) : Port :=
  if low then
    { p with stall := holdUp Config.stallLength p.stall,
             stallDue := decide (p.stall + 1 = Config.stallLength) && p.trans != .none }
  else { p with stall := 0, stallDue := false }

/-- The silence timer at an advance of the seconds counter (R171). -/
def Port.silenceRise (p : Port) : Port :=
  if p.presence = .absent then p else { p with silence := holdUp Config.byteMax p.silence }

end Sys2Proof.Machine
end

