-- ==== Sys2Proof/Machine/Arrival.lean ====
section
/-! DEFINITION. One sample arrival (R3, and "at a sample arrival" throughout): the front end, the trackers and the counts
that every block makes, then the blocks' turns in the order of the operand, then the coil slots. -/

namespace Sys2Proof.Machine

/-! ### The stages of a close (R21) -/

/-- Stages 3 to 5 of the close that feed `f`'s tracker hands on, as far as the branch sums: `meter` is what each meter does at
the arrival. The outlets whose meters form a window result are noted for their monitors (R143). -/
def State.closeStages (s : State) (f : Feed) (meter : State → Outlet → State) : State :=
  let formed := (s.outletsOfFeed f).filter s.formsWindow
  let s1 := ((s.outletsOfFeed f).foldl meter s).note fun h => { h with formed := h.formed ++ formed }
  if (s.tracker f).notice.close.isSome then (s.branchesOfFeed f).foldl State.formSum s1 else s1

/-! ### The turns -/

/-- One block's turn. -/
def State.turn (s : State) : Turn → State
  | .feedState f => s.feedStateTurn f
  | .closes f => s.closeStages f State.meterArrival
  | .evidence k => if s.formedNow k then s.evidence k else s
  | .overcurrent b => if s.atSumStage b then s.overcurrentStage b else s
  | .trip k => if s.atSumStage (s.branchOf k) then s.tripTest k else s
  | .admission b => if s.atSumStage b then s.sequencerStage b else s
  | .breakerCause b => s.breakerTurn b
  | .returns b => s.returnsTurn b
  | .settles b => s.settleRestoring b
  | .grace k => s.graceTurn k
  | .driver k => s.driverTurn k
  | .leaving k => s.leavingTurn k
  | .request k => s.requestTurn k
  | .monitor k => s.monitorTurn k
  | .sweep x => s.sweepTurn x
  | .stall x => if (s.port x).stallDue then s.abandon x else s
  | .timeout x => if s.ticked then s.timeout x else s

/-! ### The order of the turns -/

/-- Every turn of an arrival but the requests taken ahead and the ways to NORMAL, in the order taken where the operand names
no other. -/
def allTurns : List Turn :=
  allFeeds.map .feedState ++ allFeeds.map .closes ++ allOutlets.map .evidence ++ allBranches.map .overcurrent ++ allOutlets.map .trip ++
    allBranches.map .admission ++ allBranches.map .breakerCause ++ allBranches.map .returns ++ allOutlets.map .grace ++
    allOutlets.map .driver ++ allOutlets.map .leaving ++ allOutlets.map .monitor ++ allLinks.map .sweep ++
    allLinks.map .stall ++ allLinks.map .timeout

/-- A turn with the stage of the close that comes before it (R21, R124, R143). -/
def State.withNeeds (s : State) (t : Turn) : List Turn :=
  match t with
  | .evidence k => [.closes (s.feedOf k), t]
  | .overcurrent b => [.closes (s.branchFeedOf b), t]
  | .trip k => [.closes (s.feedOf k), t]
  | .admission b => [.closes (s.branchFeedOf b), t]
  | _ => [t]

/-- Whether a turn is a cause of branch `b`, which may be taken ahead of the branch's entry into NORMAL (R136). -/
def isCauseOf (b : Branch) : Turn → Bool
  | .overcurrent b' => b' == b
  | .breakerCause b' => b' == b
  | _ => false

/-- The branch whose pass a turn makes. -/
def passBranch : Turn → Option Branch
  | .returns b => some b
  | _ => none

/-- Turns with each branch's way to NORMAL put behind its pass, and behind the causes of that branch that are taken right
after the pass; `due` is the branch whose pass has just been made (R136). DEDUCED, safe (assumption 1). -/
def withSettles : Option Branch → List Turn → List Turn
  | none, [] => []
  | some b, [] => [.settles b]
  | none, t :: ts => t :: withSettles (passBranch t) ts
  | some b, t :: ts =>
    if isCauseOf b t then t :: withSettles (some b) ts else .settles b :: t :: withSettles (passBranch t) ts

/-- Whether a turn is a way to NORMAL, whose place its branch's pass gives. -/
def isSettles : Turn → Bool
  | .settles _ => true
  | _ => false

/-- The turns of an arrival: those named first, each once and after the stage it needs, then the others. -/
def State.turnsOf (s : State) (o : ArrivalOrder) : List Turn :=
  let first := ((o.first.filter fun t => !isSettles t).flatMap s.withNeeds).eraseDups
  withSettles none (first ++ allTurns.filter fun t => !first.contains t)

/-- Whether a turn takes a coil request ahead of the arbiter's round. -/
def takesRequest : Turn → Bool
  | .request _ => true
  | _ => false

/-- Whether the requests taken ahead keep the arbiter's order of grants over the whole arrival (R111). -/
def State.fair : List Turn → State → Bool
  | [], s => s.roundFair
  | t :: ts, s =>
    (match t with
      | .request k => s.requestFair k
      | _ => true) && State.fair ts (s.turn t)

/-! ### The counts of an arrival -/

/-- Every timer in seconds one on, where the seconds counter advanced (R78, R133, R151, R171). -/
def State.secondsPass (s : State) : State :=
  { s with
    entries := s.entries.map Entry.offHoldFall
    protections := tab6 fun b => (s.protection b).timerFall
    monitors := tab24 fun k => (s.monitor k).graceFall
    ports := ⟨(s.port .a).silenceRise, (s.port .b).silenceRise⟩ }

/-- The stall counts (R170). -/
def State.sampleLines (s : State) (low : PerLink Bool) : State :=
  { s with ports := ⟨(s.port .a).stallCount low.a, (s.port .b).stallCount low.b⟩ }

/-- The arrival up to its turns: counters, front end, trackers, drivers' counts and the timers. -/
def State.takeArrival (s : State) (set : SampleSet) : State :=
  let s1 := (s.setHandling (some Handling.begun)).advanceClock.stampArrival.takeSet set
  let s2 := allOutlets.foldl State.driverNotice (allFeeds.foldl State.trackerPass s1)
  (if s2.ticked then s2.secondsPass else s2).sampleLines set.sclLow

/-- Turns taken one after another, and the Coil Arbiter's round after them. -/
def State.runTurns (s : State) (ts : List Turn) : State := (ts.foldl State.turn s).arbitrate

/-- The turns of an arrival. Requests taken ahead that would keep a request from a slot that R111 gives it are no permitted
order, and are then taken in the round (assumption 1). -/
def State.takeTurns (s : State) (o : ArrivalOrder) : State :=
  let ts := s.turnsOf o
  if ts.any takesRequest && !State.fair ts s then s.runTurns (ts.filter fun t => !takesRequest t) else s.runTurns ts

/-- What was held for one arrival alone is dropped. -/
def State.closeArrival (s : State) : State := s.clearNotices.setHandling none

/-- A sample arrival: while RESET_N is low only the counters advance (R4). -/
def State.arrival (s : State) (set : SampleSet) (o : ArrivalOrder) : State :=
  if s.resetHeld then s.advanceClock else ((s.takeArrival set).takeTurns o).closeArrival

end Sys2Proof.Machine
end

