-- ==== Sys2Proof/Machine/Resets.lean ====
section
/-! DEFINITION. The power-on reset and the pin reset (R4 and each chapter's reset rule). -/

namespace Sys2Proof.Machine

/-- The target address the straps form (R165). -/
def addressOf (straps : BitVec 2) : BitVec 7 := Config.baseAddress + straps.setWidth 7

/-- A power-on reset: every value as `State.reset` gives it, the address from the straps. DESIGN CHOICE, unsafe
(assumption 5): the level of RESET_N and the waiting commands are outside the part's reset, and a request or a bus operation
that comes before the first sample arrival, which R4 says ends the reset, is taken as it is after it, with the timestamp
(0, 0). -/
def State.powerOn (s : State) (straps : BitVec 2) : State :=
  { State.reset with resetHeld := s.resetHeld, targetAddress := addressOf straps, pending := s.pending }

/-- A driver at a pin reset: FAULTED stays with its fault and contact, IDLE keeps its contact, any other drops its step and has
its contact UNKNOWN (R123). -/
def Driver.pinReset (d : Driver) : Driver :=
  { d.idle with
    state := if d.state = .faulted then .faulted else .idle
    contact := if d.state = .faulted ∨ d.state = .idle then d.contact else .unknown
    coil := .released }

/-- A monitor at a pin reset, by its window setting (R156). -/
def State.pinMonitor (s : State) (k : Outlet) : Monitor :=
  Monitor.initial (if look s.settings.monWindow k = 0 then .off else .idle)

/-- The pin-reset column of every chapter's table: the settings, the generation, the energy registers, the counters, the
timestamp of the last arrival handled (R14) and the address stay. DESIGN CHOICE, unsafe (assumption 4): section 1.6 gives
the clip indications alone of what the front end has handed on, and the corrected values and the sense and breaker levels last
handed on stay until the next arrival handled. -/
def State.pinValues (s : State) : State :=
  { s with
    handed := { s.handed with vClip := fill 3 false, aClip := fill 24 false }
    senseAge := fill 24 Config.senseAgeMax
    breakers := fill 6 Breaker.initial
    trackers := fill 3 Tracker.initial
    meters := fill 24 Meter.initial
    entries := []
    nextId := 0
    holds := fill 24 none
    tripped := fill 24 false
    handling := none
    sequencers := fill 6 Sequencer.initial
    drivers := tab24 fun k => (s.driver k).pinReset
    slots := []
    protections := fill 6 Protection.initial
    tripRuns := fill 24 0
    monitors := tab24 fun k => s.pinMonitor k
    sweeps := ⟨SweepEngine.initial, SweepEngine.initial⟩
    banks := ⟨BankPort.initial, BankPort.initial⟩
    ports := ⟨Port.initial s.generation, Port.initial s.generation⟩ }

/-- RESET_N goes low. -/
def State.pinReset (s : State) : State := s.pinValues.setResetHeld true

/-- RESET_N returns high: the values are those of the pin reset and the straps are read. Nothing where it is not low. -/
def State.pinRelease (s : State) (straps : BitVec 2) : State :=
  if s.resetHeld then (s.pinValues.setResetHeld false).setAddress (addressOf straps) else s

end Sys2Proof.Machine
end

