-- ==== Sys2Proof/Machine/Happenings.lean ====
section
/-! DEFINITION. The happenings that opcode_table.json lists beside SAMPLE_ARRIVAL, each taken by itself. A happening acts where
the condition of its rule stands and leaves the part as it is elsewhere (assumption 3). -/

namespace Sys2Proof.Machine

/-- What the part does while it runs: nothing while RESET_N is low (R4, R92). -/
def State.running (s : State) (act : State → State) : State := if s.resetHeld then s else act s

/-- A breaker's 64th differing arrival, by the line level last handed on (R10, R128). -/
def State.breakerChange (s : State) (b : Branch) : State :=
  let br := s.breaker b
  let br' := br.next (look s.handed.breaker b)
  if br.level.isSome = true ∧ br'.level ≠ br.level then (s.setBreaker b br').breakerTurn b else s

/-- The second's end: the sample-in-second 0, the seconds counter and every timer in seconds one on (R13). -/
def State.secondTick (s : State) : State :=
  if s.atSecondsEnd then s.advanceSecond.running State.secondsPass else s

/-- A driver's part of a close that no arrival brings: the notice of its step feed, less the counts of an arrival. -/
def State.driverHears (s : State) (k : Outlet) : State :=
  let n := (s.tracker (s.stepFeed k)).notice
  s.setDriver k ((s.driver k).takeNotice n.crossed n.leftTracking)

/-- A meter at a close whose last sample it has summed. -/
def State.meterNotice (s : State) (k : Outlet) : State :=
  match (s.tracker (s.feedOf k)).notice.close with
  | none => s
  | some n => s.meterClose k n

/-- An open cycle of 192 samples closed as a synthetic cycle (R20), with the stages of the close (R21) and the end of the
verify windows that the feed's leaving TRACKING brings (R115). -/
def State.syntheticCycle (s : State) (f : Feed) : State :=
  if Config.syntheticLength ≤ (s.tracker f).cyc.n then
    let s1 := allOutlets.foldl State.driverHears (s.trackerSynthetic f)
    let formed := (s1.outletsOfFeed f).filter s1.formsWindow
    let s2 := formed.foldl State.evidence (s1.closeStages f State.meterNotice)
    (allOutlets.foldl State.leavingTurn ((s2.branchesOfFeed f).foldl State.afterSum s2)).clearNotices
  else s

/-- A frequency result where the in-range count stands at the divider (R27). -/
def State.frequencyResult (s : State) (f : Feed) : State :=
  let t := s.tracker f
  match t.anchor, t.lastCrossing with
  | some a, some c =>
    if look s.settings.divider f ≤ t.inRange then
      s.setTracker f (t.formFrequency (look s.settings.divider f) a c s.stamp)
    else s
  | _, _ => s

/-- A JOINED meter's window closed with its feed's, a WAITING one joining (R43, R46). -/
def State.meterWindow (s : State) (k : Outlet) : State :=
  if (s.meter k).waiting then s.setMeter k { s.meter k with waiting := false }
  else
    s.setMeter k ((s.meter k).closeWindow (s.tracker (s.feedOf k)).windowResult s.settings.noLoad s.stamp)

/-- A feed's window closed where its count stands at 2^w, with its JOINED meters' and their evidence (R25, R43, R143). -/
def State.windowClose (s : State) (f : Feed) : State :=
  let w := look s.settings.windowExp f
  if 2 ^ w ≤ (s.tracker f).win.count then
    let formed := (s.outletsOfFeed f).filter fun k => !(s.meter k).waiting
    formed.foldl State.evidence
      ((s.outletsOfFeed f).foldl State.meterWindow (s.setTracker f ((s.tracker f).closeWindow w)))
  else s

/-- OVERCURRENT active where the run stands at the over-limit cycles (R125). -/
def State.overcurrentActive (s : State) (b : Branch) : State :=
  if s.overcurrentDue b then s.activate b .overcurrent else s

/-- Whether an outlet may trip: a trip level, no fault, and not already tripped and OPEN (R126). -/
def State.mayTrip (s : State) (k : Outlet) : Bool :=
  look s.settings.tripLevel k != 0 && (s.driver k).fault.isNone && !(s.isTripped k && s.contact k == .opened)

/-- An outlet tripped where its run stands at the trip cycles (R126). -/
def State.outletTrip (s : State) (k : Outlet) : State :=
  if s.mayTrip k && s.tripDue k then s.tripOutlet k else s

/-- A stall whose count stands at 231 with a transaction in progress (R170). -/
def State.busStall (s : State) (x : Link) : State :=
  if Config.stallLength ≤ (s.port x).stall ∧ (s.port x).trans ≠ .none then s.abandon x else s

end Sys2Proof.Machine
end

