-- ==== Sys2Proof/Machine/ArrivalMeanings.lean ====
section
/-! DEFINITION. The meanings of SAMPLE_ARRIVAL, of the resets and of the happenings inside the part, one definition for each row of the table. -/

namespace Sys2Proof.Machine

/-- SAMPLE_ARRIVAL (R3). -/
def execSampleArrival (set : SampleSet) (order : ArrivalOrder) (s : State) : Host.Outcome State Fault Refusal :=
  .next (s.arrival set order)

/-- POWER_ON_RESET (R4). -/
def execPowerOnReset (straps : BitVec 2) (s : State) : Host.Outcome State Fault Refusal :=
  .next (s.powerOn straps)

/-- PIN_RESET (R4). -/
def execPinReset (s : State) : Host.Outcome State Fault Refusal :=
  .next (s.pinReset)

/-- PIN_RESET_RELEASE (R4). -/
def execPinResetRelease (straps : BitVec 2) (s : State) : Host.Outcome State Fault Refusal :=
  .next (s.pinRelease straps)

/-- BREAKER_LEVEL_CHANGE (R10, R128). -/
def execBreakerLevelChange (b : Branch) (s : State) : Host.Outcome State Fault Refusal :=
  .next (s.running fun t => t.breakerChange b)

/-- SECOND_TICK (R13). -/
def execSecondTick (s : State) : Host.Outcome State Fault Refusal :=
  .next (s.secondTick)

/-- SYNTHETIC_CYCLE (R20). -/
def execSyntheticCycle (f : Feed) (s : State) : Host.Outcome State Fault Refusal :=
  .next (s.running fun t => t.syntheticCycle f)

/-- FREQUENCY_RESULT (R27). -/
def execFrequencyResult (f : Feed) (s : State) : Host.Outcome State Fault Refusal :=
  .next (s.running fun t => t.frequencyResult f)

/-- WINDOW_CLOSE (R25). -/
def execWindowClose (f : Feed) (s : State) : Host.Outcome State Fault Refusal :=
  .next (s.running fun t => t.windowClose f)

/-- OVERCURRENT_ACTIVE (R125, R130). -/
def execOvercurrentActive (b : Branch) (s : State) : Host.Outcome State Fault Refusal :=
  .next (s.running fun t => t.overcurrentActive b)

/-- OUTLET_TRIP (R126). -/
def execOutletTrip (k : Outlet) (s : State) : Host.Outcome State Fault Refusal :=
  .next (s.running fun t => t.outletTrip k)

/-- AUTOMATIC_RESTART (R133). -/
def execAutomaticRestart (b : Branch) (s : State) : Host.Outcome State Fault Refusal :=
  .next (s.running fun t => t.autoRestart b)

/-- RESTART_EXPIRY (R133). -/
def execRestartExpiry (b : Branch) (s : State) : Host.Outcome State Fault Refusal :=
  .next (s.running fun t => t.restartTurn b)

/-- RESTORATION_PASS (R135, R136). -/
def execRestorationPass (b : Branch) (s : State) : Host.Outcome State Fault Refusal :=
  .next (s.running fun t => t.restorationPass b)

/-- ADMISSION: the test of the head of the line, which admits it where all four conditions hold (R97, R101). -/
def execAdmission (b : Branch) (s : State) : Host.Outcome State Fault Refusal :=
  .next (s.running fun t => t.testHead b)

/-- FIRST_STEP (R75). -/
def execFirstStep (k : Outlet) (s : State) : Host.Outcome State Fault Refusal :=
  .next (s.running fun t => t.firstStep k)

/-- OFF_HOLD_END (R78). -/
def execOffHoldEnd (k : Outlet) (s : State) : Host.Outcome State Fault Refusal :=
  .next (s.running fun t => t.offHoldTurn k)

/-- FIRE_PHASE (R110). -/
def execFirePhase (k : Outlet) (s : State) : Host.Outcome State Fault Refusal :=
  .next (s.running fun t => t.meetPhase k)

/-- SLOT_GRANT (R111, R112). -/
def execSlotGrant (s : State) : Host.Outcome State Fault Refusal :=
  .next (s.running fun t => t.grantRound)

/-- PULSE_END (R113). -/
def execPulseEnd (k : Outlet) (s : State) : Host.Outcome State Fault Refusal :=
  .next (s.running fun t => t.pulseTurn k)

/-- VERIFY_WINDOW_END (R114). -/
def execVerifyWindowEnd (k : Outlet) (s : State) : Host.Outcome State Fault Refusal :=
  .next (s.running fun t => t.verifyTurn k)

/-- VERDICT (R145). -/
def execVerdict (k : Outlet) (s : State) : Host.Outcome State Fault Refusal :=
  .next (s.running fun t => t.verdictTest k)

/-- MONITOR_PLACEMENT (R148). -/
def execMonitorPlacement (k : Outlet) (s : State) : Host.Outcome State Fault Refusal :=
  .next (s.running fun t => t.tryPlace k)

/-- GRACE_EXPIRY (R151). -/
def execGraceExpiry (k : Outlet) (s : State) : Host.Outcome State Fault Refusal :=
  .next (s.running fun t => t.graceTurn k)

/-- SWEEP_RESUME (R160). -/
def execSweepResume (x : Link) (s : State) : Host.Outcome State Fault Refusal :=
  .next (s.running fun t => t.sweepResume x)

end Sys2Proof.Machine
end

