-- ==== Sys2Proof/Machine/LinkMeanings.lean ====
section
/-! DEFINITION. The meanings of the bus operations of the links, one definition for each row of the table. -/

namespace Sys2Proof.Machine

/-- TRANSACTION_START (R165). -/
def execTransactionStart (x : Link) (address : BitVec 7) (read : Bool) (s : State) : Host.Outcome State Fault Refusal :=
  .next (s.running fun t => t.start x address read)

/-- FRAME_BYTE (R166). -/
def execFrameByte (x : Link) (byte : Byte) (s : State) : Host.Outcome State Fault Refusal :=
  .next (s.running fun t => t.receive x byte)

/-- BAD_FRAME: a whole write transaction carrying `bytes` (R167). -/
def execBadFrame (x : Link) (bytes : List Byte) (s : State) : Host.Outcome State Fault Refusal :=
  .next (s.running fun t => t.writeBytes x bytes)

/-- BAD_COMMAND: a whole write transaction whose valid frame's command is judged by its code (R167). -/
def execBadCommand (x : Link) (code : Byte) (payload : List Byte) (s : State) : Host.Outcome State Fault Refusal :=
  .next (s.running fun t => t.frameTransaction x code payload fun u => u.judge x code payload)

/-- READ_TRANSACTION (R168). -/
def execReadTransaction (x : Link) (count : Nat) (s : State) : Host.Outcome State Fault Refusal :=
  .next (s.running fun t => t.readTransaction x count)

/-- BUS_STALL (R170). -/
def execBusStall (x : Link) (s : State) : Host.Outcome State Fault Refusal :=
  .next (s.running fun t => t.busStall x)

/-- LINK_TIMEOUT (R171). -/
def execLinkTimeout (x : Link) (s : State) : Host.Outcome State Fault Refusal :=
  .next (s.running fun t => t.timeout x)

end Sys2Proof.Machine
end

