-- ==== Sys2Proof/Machine/RequestMeanings.lean ====
section
/-! DEFINITION. The meanings of the requests, one definition for each row of the table: the whole write transaction that carries the request. -/

namespace Sys2Proof.Machine

/-- STATUS (R176), code 0x01. -/
def execStatus (x : Link) (payload : List Byte) (s : State) : Host.Outcome State Fault Refusal :=
  .next (s.request x 0x01 payload (requestStatus x payload))

/-- OUTLET_READ (R68), code 0x02. -/
def execOutletRead (x : Link) (payload : List Byte) (s : State) : Host.Outcome State Fault Refusal :=
  .next (s.request x 0x02 payload (requestOutletRead x payload))

/-- FEED_READ (R29), code 0x03. -/
def execFeedRead (x : Link) (payload : List Byte) (s : State) : Host.Outcome State Fault Refusal :=
  .next (s.request x 0x03 payload (requestFeedRead x payload))

/-- BRANCH_READ (R137), code 0x04. -/
def execBranchRead (x : Link) (payload : List Byte) (s : State) : Host.Outcome State Fault Refusal :=
  .next (s.request x 0x04 payload (requestBranchRead x payload))

/-- EVENTS_READ (R174), code 0x05. -/
def execEventsRead (x : Link) (payload : List Byte) (s : State) : Host.Outcome State Fault Refusal :=
  .next (s.request x 0x05 payload (requestEventsRead x payload))

/-- ENERGY_READ (R64), code 0x06. -/
def execEnergyRead (x : Link) (payload : List Byte) (s : State) : Host.Outcome State Fault Refusal :=
  .next (s.request x 0x06 payload (requestEnergyRead x payload))

/-- SETTING_READ (R180), code 0x07. -/
def execSettingRead (x : Link) (payload : List Byte) (s : State) : Host.Outcome State Fault Refusal :=
  .next (s.request x 0x07 payload (requestSettingRead x payload))

/-- SWITCH (R72), code 0x10. -/
def execSwitch (x : Link) (payload : List Byte) (s : State) : Host.Outcome State Fault Refusal :=
  .next (s.request x 0x10 payload (requestSwitch x payload))

/-- CANCEL (R80), code 0x11. -/
def execCancel (x : Link) (payload : List Byte) (s : State) : Host.Outcome State Fault Refusal :=
  .next (s.request x 0x11 payload (requestCancel x payload))

/-- HOLD (R88), code 0x12. -/
def execHold (x : Link) (payload : List Byte) (s : State) : Host.Outcome State Fault Refusal :=
  .next (s.request x 0x12 payload (requestHold x payload))

/-- RELEASE (R89), code 0x13. -/
def execRelease (x : Link) (payload : List Byte) (s : State) : Host.Outcome State Fault Refusal :=
  .next (s.request x 0x13 payload (requestRelease x payload))

/-- HEARTBEAT (R142), code 0x14. -/
def execHeartbeat (x : Link) (payload : List Byte) (s : State) : Host.Outcome State Fault Refusal :=
  .next (s.request x 0x14 payload (requestHeartbeat x payload))

/-- SNAPSHOT (R62), code 0x15. -/
def execSnapshot (x : Link) (payload : List Byte) (s : State) : Host.Outcome State Fault Refusal :=
  .next (s.request x 0x15 payload (requestSnapshot x payload))

/-- SHED (R129), code 0x16. -/
def execShed (x : Link) (payload : List Byte) (s : State) : Host.Outcome State Fault Refusal :=
  .next (s.request x 0x16 payload (requestShed x payload))

/-- SHED_CLEAR (R134), code 0x17. -/
def execShedClear (x : Link) (payload : List Byte) (s : State) : Host.Outcome State Fault Refusal :=
  .next (s.request x 0x17 payload (requestShedClear x payload))

/-- FAULT_CLEAR (R119), code 0x18. -/
def execFaultClear (x : Link) (payload : List Byte) (s : State) : Host.Outcome State Fault Refusal :=
  .next (s.request x 0x18 payload (requestFaultClear x payload))

/-- MONITOR_RESET (R152), code 0x19. -/
def execMonitorReset (x : Link) (payload : List Byte) (s : State) : Host.Outcome State Fault Refusal :=
  .next (s.request x 0x19 payload (requestMonitorReset x payload))

/-- SETTING_WRITE (R180), code 0x1A. -/
def execSettingWrite (x : Link) (payload : List Byte) (s : State) : Host.Outcome State Fault Refusal :=
  .next (s.request x 0x1A payload (requestSettingWrite x payload))

/-- SWEEP (R157), code 0x1B. -/
def execSweep (x : Link) (payload : List Byte) (s : State) : Host.Outcome State Fault Refusal :=
  .next (s.request x 0x1B payload (requestSweep x payload))

/-- SWEEP_ABORT (R162), code 0x1C. -/
def execSweepAbort (x : Link) (payload : List Byte) (s : State) : Host.Outcome State Fault Refusal :=
  .next (s.request x 0x1C payload (requestSweepAbort x payload))

/-- LINK_RESET (R175), code 0x1F. -/
def execLinkReset (x : Link) (payload : List Byte) (s : State) : Host.Outcome State Fault Refusal :=
  .next (s.request x 0x1F payload (requestLinkReset x payload))

end Sys2Proof.Machine
end

