-- ==== Sys2Proof/Machine/Dispatch.lean ====
section
/-! DEFINITION. The dispatch: one arm for each command. -/

namespace Sys2Proof.Machine

def exec (i : Instr) (s : State) : Host.Outcome State Fault Refusal :=
  match i with
  | .sampleArrival set order => Sys2Proof.Machine.execSampleArrival set order s
  | .powerOnReset straps => Sys2Proof.Machine.execPowerOnReset straps s
  | .pinReset => Sys2Proof.Machine.execPinReset s
  | .pinResetRelease straps => Sys2Proof.Machine.execPinResetRelease straps s
  | .breakerLevelChange b => Sys2Proof.Machine.execBreakerLevelChange b s
  | .secondTick => Sys2Proof.Machine.execSecondTick s
  | .syntheticCycle f => Sys2Proof.Machine.execSyntheticCycle f s
  | .frequencyResult f => Sys2Proof.Machine.execFrequencyResult f s
  | .windowClose f => Sys2Proof.Machine.execWindowClose f s
  | .overcurrentActive b => Sys2Proof.Machine.execOvercurrentActive b s
  | .outletTrip k => Sys2Proof.Machine.execOutletTrip k s
  | .automaticRestart b => Sys2Proof.Machine.execAutomaticRestart b s
  | .restartExpiry b => Sys2Proof.Machine.execRestartExpiry b s
  | .restorationPass b => Sys2Proof.Machine.execRestorationPass b s
  | .admission b => Sys2Proof.Machine.execAdmission b s
  | .firstStep k => Sys2Proof.Machine.execFirstStep k s
  | .offHoldEnd k => Sys2Proof.Machine.execOffHoldEnd k s
  | .firePhase k => Sys2Proof.Machine.execFirePhase k s
  | .slotGrant => Sys2Proof.Machine.execSlotGrant s
  | .pulseEnd k => Sys2Proof.Machine.execPulseEnd k s
  | .verifyWindowEnd k => Sys2Proof.Machine.execVerifyWindowEnd k s
  | .verdict k => Sys2Proof.Machine.execVerdict k s
  | .monitorPlacement k => Sys2Proof.Machine.execMonitorPlacement k s
  | .graceExpiry k => Sys2Proof.Machine.execGraceExpiry k s
  | .sweepResume x => Sys2Proof.Machine.execSweepResume x s
  | .transactionStart x address read => Sys2Proof.Machine.execTransactionStart x address read s
  | .frameByte x byte => Sys2Proof.Machine.execFrameByte x byte s
  | .badFrame x bytes => Sys2Proof.Machine.execBadFrame x bytes s
  | .badCommand x code payload => Sys2Proof.Machine.execBadCommand x code payload s
  | .readTransaction x count => Sys2Proof.Machine.execReadTransaction x count s
  | .busStall x => Sys2Proof.Machine.execBusStall x s
  | .linkTimeout x => Sys2Proof.Machine.execLinkTimeout x s
  | .status x payload => Sys2Proof.Machine.execStatus x payload s
  | .outletRead x payload => Sys2Proof.Machine.execOutletRead x payload s
  | .feedRead x payload => Sys2Proof.Machine.execFeedRead x payload s
  | .branchRead x payload => Sys2Proof.Machine.execBranchRead x payload s
  | .eventsRead x payload => Sys2Proof.Machine.execEventsRead x payload s
  | .energyRead x payload => Sys2Proof.Machine.execEnergyRead x payload s
  | .settingRead x payload => Sys2Proof.Machine.execSettingRead x payload s
  | .switch x payload => Sys2Proof.Machine.execSwitch x payload s
  | .cancel x payload => Sys2Proof.Machine.execCancel x payload s
  | .hold x payload => Sys2Proof.Machine.execHold x payload s
  | .release x payload => Sys2Proof.Machine.execRelease x payload s
  | .heartbeat x payload => Sys2Proof.Machine.execHeartbeat x payload s
  | .snapshot x payload => Sys2Proof.Machine.execSnapshot x payload s
  | .shed x payload => Sys2Proof.Machine.execShed x payload s
  | .shedClear x payload => Sys2Proof.Machine.execShedClear x payload s
  | .faultClear x payload => Sys2Proof.Machine.execFaultClear x payload s
  | .monitorReset x payload => Sys2Proof.Machine.execMonitorReset x payload s
  | .settingWrite x payload => Sys2Proof.Machine.execSettingWrite x payload s
  | .sweep x payload => Sys2Proof.Machine.execSweep x payload s
  | .sweepAbort x payload => Sys2Proof.Machine.execSweepAbort x payload s
  | .linkReset x payload => Sys2Proof.Machine.execLinkReset x payload s

end Sys2Proof.Machine
end

