-- ==== Sys2Proof/WellFormed.lean ====
section
/-! DEFINITION. The commands that the spec's senders can give. `exec` has a meaning for every command; claims about frames
name the well-formed ones. -/

namespace Sys2Proof

/-- The command code and payload of a request row (R176, R177). -/
def Instr.request : Instr → Option (Link × Byte × List Byte)
  | .status x p => some (x, 0x01, p)
  | .outletRead x p => some (x, 0x02, p)
  | .feedRead x p => some (x, 0x03, p)
  | .branchRead x p => some (x, 0x04, p)
  | .eventsRead x p => some (x, 0x05, p)
  | .energyRead x p => some (x, 0x06, p)
  | .settingRead x p => some (x, 0x07, p)
  | .switch x p => some (x, 0x10, p)
  | .cancel x p => some (x, 0x11, p)
  | .hold x p => some (x, 0x12, p)
  | .release x p => some (x, 0x13, p)
  | .heartbeat x p => some (x, 0x14, p)
  | .snapshot x p => some (x, 0x15, p)
  | .shed x p => some (x, 0x16, p)
  | .shedClear x p => some (x, 0x17, p)
  | .faultClear x p => some (x, 0x18, p)
  | .monitorReset x p => some (x, 0x19, p)
  | .settingWrite x p => some (x, 0x1A, p)
  | .sweep x p => some (x, 0x1B, p)
  | .sweepAbort x p => some (x, 0x1C, p)
  | .linkReset x p => some (x, 0x1F, p)
  | .sampleArrival .. => none
  | .powerOnReset .. => none
  | .pinReset => none
  | .pinResetRelease .. => none
  | .breakerLevelChange .. => none
  | .secondTick => none
  | .syntheticCycle .. => none
  | .frequencyResult .. => none
  | .windowClose .. => none
  | .overcurrentActive .. => none
  | .outletTrip .. => none
  | .automaticRestart .. => none
  | .restartExpiry .. => none
  | .restorationPass .. => none
  | .admission .. => none
  | .firstStep .. => none
  | .offHoldEnd .. => none
  | .firePhase .. => none
  | .slotGrant => none
  | .pulseEnd .. => none
  | .verifyWindowEnd .. => none
  | .verdict .. => none
  | .monitorPlacement .. => none
  | .graceExpiry .. => none
  | .sweepResume .. => none
  | .transactionStart .. => none
  | .frameByte .. => none
  | .badFrame .. => none
  | .badCommand .. => none
  | .readTransaction .. => none
  | .busStall .. => none
  | .linkTimeout .. => none

/-- The payload lengths a command takes (R185). -/
def payloadLengths (code : Byte) : List Nat :=
  match code.toNat with
  | 0x01 => [1]
  | 0x02 => [2]
  | 0x03 => [1]
  | 0x04 => [1]
  | 0x05 => [0]
  | 0x06 => [1]
  | 0x07 => [2]
  | 0x10 => [4, 5]
  | 0x11 => [1]
  | 0x12 => [3]
  | 0x13 => [3]
  | 0x14 => [3]
  | 0x15 => [0]
  | 0x16 => [1]
  | 0x17 => [2]
  | 0x18 => [1]
  | 0x19 => [1]
  | 0x1A => [6]
  | 0x1B => [13]
  | 0x1C => [0]
  | 0x1F => [0]
  | _ => []

/-- A payload that a length byte admits (R166, R184). -/
def payloadFits (p : List Byte) : Bool := decide (p.length ≤ 32)

/-- The check of a command's operands: a payload of at most 32 bytes; for BAD_COMMAND a code that names no request; for
BAD_FRAME some bytes that make no valid frame (R167); for SAMPLE_ARRIVAL no turn named twice. -/
def Instr.wf (c : Instr) : Bool :=
  match c.request with
  | some (_, _, p) => payloadFits p
  | none =>
    match c with
    | .badCommand _ code p => payloadFits p && !Machine.requestCodes.contains code
    | .badFrame _ bytes => !bytes.isEmpty && (Machine.parseFrame bytes).isNone
    | .sampleArrival _ o => decide o.first.Nodup
    | _ => true

end Sys2Proof
end

