-- ==== Sys2Proof/Safety.lean ====
section
/-! DEFINITION. What claims about the part speak of: a link that is ready to take a request, and the properties that every
command keeps. -/

namespace Sys2Proof.Machine

/-! ### A link ready to take a request -/

/-- The part runs, link `x` has no transaction in progress, a clear latch, no pending request, and is PRESENT: its next
request is taken at once and with no change of presence (R166, R167, R171). -/
structure State.Ready (s : State) (x : Link) : Prop where
  running : s.resetHeld = false
  quiet : (s.port x).trans = .none
  latch : (s.port x).latch = false
  pendingMark : (s.port x).pendingMark = false
  present : (s.port x).presence = .present

/-- Link `x`'s port once it has taken a valid frame: no transaction and no frame, the last byte acknowledged, the counts of
R171 at 0. -/
def Port.took (p : Port) : Port :=
  { p with trans := .none, frame := [], overlong := false, acked := true, badFrames := 0, silence := 0 }

/-- Link `x`'s port after a request that it took from a ready port: as `Port.took` leaves it, and the response with the
generation that stands after the request (R168). -/
def Port.after (p : Port) (status : Status) (echo : Byte) (generation : BitVec 16) (payload : List Byte) : Port :=
  { p.took with response := { status := status, echo := echo, generation := generation, payload := payload } }

/-- The state after a request that touches nothing but its own answer. -/
def State.answeredOnly (s : State) (x : Link) (status : Status) (echo : Byte) (payload : List Byte) : State :=
  s.setPort x ((s.port x).after status echo s.generation payload)

/-! ### Frames -/

/-- What the acts of the Action Queue, the sequencers, the drivers, the protection and the monitors leave alone: the clock, the
inputs, the trackers, the energy, the holds, the sweeps, the banks, the settings, the address and the waiting commands. -/
structure State.SameOutside (s t : State) : Prop where
  held : t.resetHeld = s.resetHeld
  clock : t.sampleCounter = s.sampleCounter ∧ t.seconds = s.seconds ∧ t.subSecond = s.subSecond ∧ t.stamp = s.stamp
  inputs : t.handed = s.handed ∧ t.senseAge = s.senseAge ∧ t.breakers = s.breakers
  measured : t.trackers = s.trackers ∧ t.energy = s.energy
  holds : t.holds = s.holds
  links : t.sweeps = s.sweeps ∧ t.banks = s.banks ∧ t.targetAddress = s.targetAddress
  settings : t.settings = s.settings ∧ t.generation = s.generation
  pending : t.pending = s.pending

/-- The blocks' acts and nothing else: all of `SameOutside`, and each port as it was but for events offered to its queue. -/
def State.ActsOnly (s t : State) : Prop :=
  s.SameOutside t ∧ ∀ x, ∃ es : List Event, t.port x = es.foldl Port.offer (s.port x)

/-! ### Commands one after another -/

/-- Commands executed in turn, stopping at a fault or a refusal. -/
def execAll : List Instr → State → Host.Outcome State Fault Refusal
  | [], s => .next s
  | c :: cs, s =>
    match exec c s with
    | .next t => execAll cs t
    | .fault f => .fault f
    | .refused r => .refused r

/-! ### Contacts, completions and the ends of steps

The rules' tables once more, written out apart from the model's own operations, so that a statement about a meaning says
what the rule says and not what the meaning calls. -/

/-- A monitor whose pending verdict is withdrawn: EXPIRED with placement pending becomes WATCHING with the mark clear, the rest
kept (R149). -/
def Monitor.withdrawn (m : Monitor) : Monitor :=
  if m.state = .expired ∧ m.placementPending = true then { m with state := .watching, placementPending := false } else m

/-- The monitor of an outlet whose contact was `old` and is now `c`: a change to OPEN or UNKNOWN withdraws (R149). -/
def Monitor.afterMove (m : Monitor) (old c : Contact) : Monitor := if c ≠ old ∧ c ≠ .closed then m.withdrawn else m

/-- The monitor after a completion on its outlet, by R150's table. -/
def Monitor.afterEnd (m : Monitor) (kind : Kind) (origin : Origin) (result : ActionResult) (bootGrace : Nat) : Monitor :=
  match m.state, kind, result with
  | .off, _, _ => m
  | _, .cycle, .done => { m with state := .grace, grace := bootGrace * 5, placementPending := false }
  | _, .closing, .done => { m with state := .idle, silence := 0, placementPending := false, grace := 0 }
  | .expired, .cycle, _ => if origin = .monitor then { m with state := .watching } else m
  | _, _, _ => m

/-- Both links offered an event, stamped with the arrival's time. -/
def State.told (s : State) (body : EventBody) (source : EventOrigin) : State :=
  let e : Event := { body := body, source := source, stamp := s.stamp }
  { s with ports := ⟨(s.port .a).offer e, (s.port .b).offer e⟩ }

/-- Outlet `k`'s contact brought to `c`: a change to OPEN sets the remembered load to the current of the latest window
result, or 0 where there is none (R50), and a change to OPEN or UNKNOWN withdraws a pending verdict (R149). -/
def State.moved (s : State) (k : Outlet) (c : Contact) : State :=
  { s with
    drivers := put s.drivers k { s.driver k with contact := c }
    meters := if c = .opened ∧ s.contact k ≠ .opened then
        put s.meters k { s.meter k with remembered :=
          match (s.meter k).windowResult with
          | some r => r.imA
          | none => 0 }
      else s.meters
    monitors := put s.monitors k ((s.monitor k).afterMove (s.contact k) c) }

/-- An entry's completion, less what its branch's sequencer does: it leaves the queue, ACTION_ENDED carries its result, and its
outlet's monitor acts on it (R81, R150). -/
def State.ended (s : State) (e : Entry) (result : ActionResult) (detail : ResultDetail) : State :=
  { s.told (.actionEnded e.outlet e.id e.kind result detail)
      { origin := some e.origin, sweep := e.sweep, tag := e.tag } with
    entries := s.entries.filter fun e' => e'.id != e.id
    monitors := put s.monitors e.outlet
      ((s.monitor e.outlet).afterEnd e.kind e.origin result (look s.settings.bootGrace e.outlet)) }

/-- What the completion of entry `id`, which stands in no waiting line, means to the sequencer of its branch `b`: where it was
the close in progress that close has ended, the stagger count 0 if a pulse was made, and the head is tested; else nothing
(R98, R99, R101). -/
def State.CloseEnds (s : State) (b : Branch) (id : Byte) (t : State) : Prop :=
  let q := s.sequencer b
  if q.inProgress = some id then
    exec (.admission b) (s.setSequencer b
      { q with inProgress := none, stagger := if q.pulseMark = true then 0 else q.stagger }) = .next t
  else t = s

/-- Outlet `k`'s driver IDLE, without a step and with every count of a step at 0. -/
def State.driverFree (s : State) (k : Outlet) : State :=
  { s with drivers := put s.drivers k { s.driver k with
      state := .idle, step := none, pulseCount := 0, skip := 0, observe := 0, activeSeen := false, waitingUrgent := none } }

/-- The contact a direction commands (R115). -/
def Direction.target (d : Direction) : Contact := if d = .close then .closed else .opened

/-- `t` follows from the VERIFIED or UNVERIFIED end of step `st` of outlet `k` in `s`: the driver is IDLE, the contact the
commanded one, and OUTLET_SWITCHED says how (R115, R116). A CYCLE in OPENING enters OFF_HOLD with its off time (R77); any
other entry whose step it was completes DONE, with the detail UNVERIFIED where so (R77, R79). After an urgent open an entry
in QUEUED takes its first step (R75). -/
structure State.StepEnds (s : State) (k : Outlet) (st : Step) (how : HowSet) (t : State) : Prop where
  offHold : ∀ e, s.entryOf k = some e → st.source = .entry → e.kind = .cycle → e.phase = .opening →
    t = { ((s.driverFree k).moved k st.direction.target).told (.outletSwitched k st.direction.target how)
            { origin := some e.origin, sweep := e.sweep, tag := e.tag } with
          entries := s.entries.map fun e' =>
            if e'.id = e.id then { e with phase := .offHold, begun := true, offHold := e.offTime } else e' }
  done : ∀ e, s.entryOf k = some e → st.source = .entry → e.phase = .closing ∨ e.phase = .opening ∧ e.kind ≠ .cycle →
    ((((s.driverFree k).moved k st.direction.target).told (.outletSwitched k st.direction.target how)
      { origin := some e.origin, sweep := e.sweep, tag := e.tag }).ended e .done
        (if how = .unverified then .unverified else .none)).CloseEnds (s.branchOf k) e.id t
  alone : st.source ≠ .entry → s.entryOf k = none →
    t = ((s.driverFree k).moved k st.direction.target).told (.outletSwitched k st.direction.target how) EventOrigin.nobody
  queued : ∀ e, st.source ≠ .entry → s.entryOf k = some e → e.phase = .queued → s.triedNow e.id = false →
    exec (.firstStep k) (((s.driverFree k).moved k st.direction.target).told
      (.outletSwitched k st.direction.target how) EventOrigin.nobody) = .next t

/-- What an OPEN that a link has had accepted does to the victims of its branch: the outlet leaves the set of a branch that is
not NORMAL (R132), and a branch in RESTORING whose set is then empty is NORMAL with its marks clear (R136). -/
structure State.VictimLeaves (s : State) (k : Outlet) (t : State) : Prop where
  others : ∀ b, b ≠ s.branchOf k → t.protection b = s.protection b
  absent : (s.protection (s.branchOf k)).state = .normal ∨ look (s.protection (s.branchOf k)).victims k = false →
    t.protection (s.branchOf k) = s.protection (s.branchOf k)
  last : (s.protection (s.branchOf k)).state = .restoring → look (s.protection (s.branchOf k)).victims k = true →
    (∀ j, j ≠ k → look (s.protection (s.branchOf k)).victims j = false) →
    t.protection (s.branchOf k) = { s.protection (s.branchOf k) with
      state := .normal, victims := Vector.replicate 24 false, manualMark := false, exhaustedMark := false }
  leaves : (s.protection (s.branchOf k)).state ≠ .normal → look (s.protection (s.branchOf k)).victims k = true →
    ((s.protection (s.branchOf k)).state ≠ .restoring ∨
      ∃ j, j ≠ k ∧ look (s.protection (s.branchOf k)).victims j = true) →
    t.protection (s.branchOf k) = { s.protection (s.branchOf k) with
      victims := put (s.protection (s.branchOf k)).victims k false }

/-! ### What a pin reset leaves -/

/-- The pin-reset columns of the chapters' tables: what is kept of `s`, and the values of the rest (R4, R30, R54, R61, R66,
R92, R107, R123, R139, R156, R163, R178, R182). -/
structure PinValues (s t : State) : Prop where
  clock : t.sampleCounter = s.sampleCounter ∧ t.seconds = s.seconds ∧ t.subSecond = s.subSecond ∧ t.stamp = s.stamp
  kept : t.energy = s.energy ∧ t.settings = s.settings ∧ t.generation = s.generation ∧ t.pending = s.pending
  inputs : ∀ k b, t.age k = 192 ∧ t.breaker b = { level := none, run := 0 }
  clips : (∀ f, look t.handed.vClip f = false) ∧ ∀ k, look t.handed.aClip k = false
  trackers : ∀ f, (t.tracker f).state = .noLine ∧ (t.tracker f).armed = false ∧ (t.tracker f).phase = 0 ∧
    (t.tracker f).tp = 0 ∧ (t.tracker f).acquired = 0 ∧ (t.tracker f).cyc = OpenCycle.empty .reset ∧
    (t.tracker f).win = OpenWindow.empty ∧ (t.tracker f).anchor = none ∧ (t.tracker f).inRange = 0 ∧
    (t.tracker f).lastCrossing = none ∧ (t.tracker f).cycleResult = none ∧ (t.tracker f).windowResult = none ∧
    (t.tracker f).frequency = none
  meters : ∀ k, t.meter k = Meter.initial
  queue : t.entries = [] ∧ t.nextId = 0 ∧ ∀ k, t.hold k = none ∧ t.isTripped k = false
  sequencers : ∀ b, t.sequencer b =
    { line := [], inProgress := none, pulseMark := false, stagger := 255, reason := .none }
  slots : t.slots = []
  faulted : ∀ k, (s.driver k).state = .faulted →
    (t.driver k).state = .faulted ∧ (t.driver k).fault = (s.driver k).fault ∧ t.contact k = s.contact k
  idle : ∀ k, (s.driver k).state = .idle → (t.driver k).state = .idle ∧ t.contact k = s.contact k
  stepping : ∀ k, (s.driver k).state ≠ .idle → (s.driver k).state ≠ .faulted →
    (t.driver k).state = .idle ∧ t.contact k = .unknown
  coils : ∀ k, (t.driver k).coil = .released ∧ (t.driver k).step = none
  protection : ∀ b, t.protection b = Protection.initial
  trips : ∀ k, t.tripRun k = 0
  monitors : ∀ k, t.monitor k = Monitor.initial (if look s.settings.monWindow k = 0 then .off else .idle)
  sweeps : ∀ x, t.sweepEngine x = { context := none, last := none }
  banks : ∀ x, t.bankPort x = { bank := none, counter := 0 }
  ports : ∀ x, (t.port x).trans = .none ∧ (t.port x).presence = .absent ∧ (t.port x).badFrames = 0 ∧
    (t.port x).silence = 0 ∧ (t.port x).stall = 0 ∧ (t.port x).events = [] ∧ (t.port x).overflow = false ∧
    (t.port x).alert = false ∧ (t.port x).latch = false ∧ (t.port x).pendingMark = false ∧
    (t.port x).response = { status := .idle, echo := 0, generation := s.generation, payload := [] }

/-! ### Properties that every command keeps -/

/-- Each link's alert line follows its queue, and the queue holds at most 16 events (R173, R174). -/
def State.AlertsFollow (s : State) : Prop :=
  ∀ x, (s.port x).alert = !(s.port x).events.isEmpty ∧ (s.port x).events.length ≤ Config.eventQueueSize

/-- The queue holds at most 16 entries (R70). -/
def State.QueueFits (s : State) : Prop := s.entries.length ≤ Config.queueSize

/-- No two live entries share an id or an outlet (R69, R70). -/
def State.EntriesDistinct (s : State) : Prop :=
  (s.entries.map (·.id)).Nodup ∧ (s.entries.map (·.outlet)).Nodup

/-- At most four drivers hold a coil slot (R111). -/
def State.SlotsFit (s : State) : Prop := s.slots.length ≤ Config.coilSlots

/-- A coil is driven only where its outlet holds a slot (R111, R113). -/
def State.CoilsSlotted (s : State) : Prop := ∀ k, (s.driver k).coil ≠ .released → k ∈ s.slots

/-- The number of relay coils that are pulsed. -/
def State.coilsDriven (s : State) : Nat := (allOutlets.filter fun k => (s.driver k).coil != .released).length

/-- No outlet is held by a link that is not PRESENT (R91). -/
def State.HoldsPresent (s : State) : Prop := ∀ k x, s.hold k = some x → (s.port x).presence = .present

/-- A link is pending exactly while it has a sweep, and then it is PRESENT (R163, R169). -/
def State.SweepsPending (s : State) : Prop :=
  ∀ x, (s.port x).pendingMark = (s.sweepEngine x).context.isSome ∧
    ((s.sweepEngine x).context.isSome = true → (s.port x).presence = .present)

/-- Whether a value is one that a setting's range or list admits. -/
def Domain.admits (d : Domain) (v : Int) : Prop :=
  match d with
  | .range lo hi => lo ≤ v ∧ v ≤ hi
  | .listed values => v ∈ values

/-- Every setting holds a value of its range or list (R179, R180). -/
def State.SettingsInRange (s : State) : Prop := ∀ t : Setting, t.domain.admits (s.settings.read t)

/-- Each counter that a rule bounds is within its bound: the sample-in-second (R13), the sense ages (R8), the breakers' runs
(R10), each feed's phase and acquisition count (R19, R22), the stagger counts (R99), the over-limit runs and restart counts
(R125, R133), the trip runs (R126), the monitors' evidence counts and silences (R143, R141), and each link's stall count,
bad-frame count and silence timer (R170, R171). -/
structure State.CountersFit (s : State) : Prop where
  clock : s.subSecond < 7680
  ages : ∀ k, s.age k ≤ 192
  breakers : ∀ b, (s.breaker b).run < 64
  feeds : ∀ f, (s.tracker f).phase ≤ 65535 ∧ (s.tracker f).acquired < 4
  staggers : ∀ b, (s.sequencer b).stagger ≤ 255
  branches : ∀ b, (s.protection b).overRun ≤ 255 ∧ (s.protection b).restartCount ≤ 255
  trips : ∀ k, s.tripRun k ≤ 255
  monitors : ∀ k, (s.monitor k).evidence ≤ 255 ∧ (s.monitor k).silence ≤ look s.settings.monWindow k * 3840
  links : ∀ x, (s.port x).stall ≤ 231 ∧ (s.port x).badFrames ≤ 255 ∧ (s.port x).silence ≤ 255

/-- A link that is ABSENT has no snapshot bank and no running silence timer (R65, R171). -/
def State.AbsentIsBare (s : State) : Prop :=
  ∀ x, (s.port x).presence = .absent → (s.bankPort x).bank = none ∧ (s.port x).silence = 0

/-- The sums in the ranges that R34, R57 and R58 give. Each feed has fewer than 192 samples in its open cycle, fewer than 2^w
cycles in its window and at most 192 samples for each of them; the squares and products summed over a cycle or a window
come to at most 32,767² for each of its samples. A meter that skips a cycle or waits has empty window sums. The energy
remainders are below WH_RAW and the counts at most 2^40 - 1. -/
structure State.MeterSumsFit (s : State) : Prop where
  cycles : ∀ f, (s.tracker f).cyc.n < 192 ∧ (s.tracker f).cyc.sv ≤ (s.tracker f).cyc.n * 1073676289
  windows : ∀ f, (s.tracker f).win.count < 2 ^ look s.settings.windowExp f ∧
    (s.tracker f).win.total ≤ 192 * (s.tracker f).win.count ∧
    (s.tracker f).win.sv ≤ (s.tracker f).win.total * 1073676289
  cycleSums : ∀ k, (s.meter k).sp.natAbs ≤ (s.tracker (s.feedOf k)).cyc.n * 1073676289 ∧
    (s.meter k).si ≤ (s.tracker (s.feedOf k)).cyc.n * 1073676289
  windowSums : ∀ k, (s.meter k).wsp.natAbs ≤ (s.tracker (s.feedOf k)).win.total * 1073676289 ∧
    (s.meter k).wsi ≤ (s.tracker (s.feedOf k)).win.total * 1073676289
  outside : ∀ k, (s.meter k).skip = true ∨ (s.meter k).waiting = true → (s.meter k).wsp = 0 ∧ (s.meter k).wsi = 0
  energy : ∀ k, (s.energyOf k).importRem < 1811939328000 ∧ (s.energyOf k).exportRem < 1811939328000 ∧
    (s.energyOf k).importWh < 2 ^ 40 ∧ (s.energyOf k).exportWh < 2 ^ 40

/-- Between commands nothing of an arrival is in hand: no record of it, no tracker's notice (R24, R31), and no transaction that
a stall has still to abandon (R170). -/
def State.NothingInHand (s : State) : Prop :=
  s.handling = none ∧ (∀ f, (s.tracker f).notice = Notice.quiet) ∧ ∀ x, (s.port x).stallDue = false

/-- A verdict with placement pending stands only at an outlet that is CLOSED and without a fault (R149). -/
def State.VerdictsWait (s : State) : Prop :=
  ∀ k, (s.monitor k).state = .expired → (s.monitor k).placementPending = true →
    s.contact k = .closed ∧ (s.driver k).fault = none

/-- Each waiting line holds ids of its branch's live entries in WAIT_ADMIT, none twice, and each close in progress is that of
a live entry of its branch in CLOSING (R94, R98). -/
def State.LinesLive (s : State) : Prop :=
  ∀ b, (s.sequencer b).line.Nodup ∧
    (∀ id, id ∈ (s.sequencer b).line →
      ∃ e, e ∈ s.entries ∧ e.id = id ∧ e.phase = .waitAdmit ∧ s.branchOf e.outlet = b) ∧
    ∀ id, (s.sequencer b).inProgress = some id →
      ∃ e, e ∈ s.entries ∧ e.id = id ∧ e.phase = .closing ∧ s.branchOf e.outlet = b

end Sys2Proof.Machine
end

