-- ==== Sys2Proof/Certificates/Slice0/Obligations.lean ====
section
/-! DEFINITION. The statements for the provers. -/

open Sys2Proof Sys2Proof.Machine

/-! ### The machine as a whole -/

/-- The step takes the command at the front of the queue and executes it with the queue's rest; on an empty queue the part
idles, which is the model's choice (assumption 2). -/
def Obligations.StepTakesFrontCommand : Prop :=
  (∀ (c : Instr) (rest : List Instr) (s : State), step (s.setPending (c :: rest)) = exec c (s.setPending rest)) ∧
    ∀ s : State, s.pending = [] → step s = .next s

/-- Every command leads to a next state and leaves the waiting commands as they are. That the commands wait in a queue is the
model's choice (assumption 2), and so is that POWER_ON_RESET keeps them (assumption 5). -/
def Obligations.PartNeverStops : Prop :=
  ∀ (c : Instr) (s : State), ∃ t, exec c s = .next t ∧ t.pending = s.pending

/-- The state right after a power-on reset has every property that the part keeps. -/
def Obligations.ResetMeetsEveryInvariant : Prop :=
  State.reset.AlertsFollow ∧ State.reset.QueueFits ∧ State.reset.EntriesDistinct ∧ State.reset.SlotsFit ∧
    State.reset.CoilsSlotted ∧ State.reset.HoldsPresent ∧ State.reset.SweepsPending ∧ State.reset.AbsentIsBare ∧
    State.reset.SettingsInRange ∧ State.reset.CountersFit ∧ State.reset.MeterSumsFit ∧ State.reset.NothingInHand ∧
    State.reset.LinesLive ∧ State.reset.VerdictsWait

/-- POWER_ON_RESET gives every block the power-on column of its chapter's table and every setting its default, and reads
the straps. That RESET_N's level and the waiting commands stay is the model's choice (assumption 5). -/
def Obligations.PowerOnResetGivesDefaults : Prop :=
  ∀ (straps : BitVec 2) (s : State), ∃ t, exec (.powerOnReset straps) s = .next t ∧
    t.targetAddress = 0x58 + straps.setWidth 7 ∧ t.resetHeld = s.resetHeld ∧ t.pending = s.pending ∧
    t.sampleCounter = 0 ∧ t.seconds = 0 ∧ t.subSecond = 0 ∧ t.generation = 0 ∧
    t.entries = [] ∧ t.nextId = 0 ∧ t.slots = [] ∧
    (∀ f, (t.tracker f).state = .noLine ∧ (t.tracker f).armed = false ∧ (t.tracker f).phase = 0 ∧
      (t.tracker f).tp = 0 ∧ (t.tracker f).acquired = 0 ∧ (t.tracker f).cyc = OpenCycle.empty .reset ∧
      (t.tracker f).win = OpenWindow.empty ∧ (t.tracker f).anchor = none ∧ (t.tracker f).inRange = 0 ∧
      (t.tracker f).lastCrossing = none ∧ (t.tracker f).cycleResult = none ∧ (t.tracker f).windowResult = none ∧
      (t.tracker f).frequency = none ∧ look t.handed.vClip f = false ∧ t.settings.read (.windowExp f) = 5 ∧ t.settings.read (.divider f) = 4 ∧
      t.settings.read (.vGain f) = 16384 ∧ t.settings.read (.vOffset f) = 0) ∧
    (∀ k, t.energyOf k = { importWh := 0, importRem := 0, exportWh := 0, exportRem := 0 } ∧ t.meter k = Meter.initial ∧
      t.hold k = none ∧ t.isTripped k = false ∧ t.contact k = .unknown ∧ (t.driver k).state = .idle ∧
      (t.driver k).fault = none ∧ (t.driver k).step = none ∧ (t.driver k).coil = .released ∧ t.age k = 192 ∧
      look t.handed.aClip k = false ∧ t.tripRun k = 0 ∧ t.monitor k = Monitor.initial .off ∧ t.settings.read (.outletBranch k) = (k.val / 4 : Nat) ∧
      t.settings.read (.iGain k) = 16384 ∧ t.settings.read (.iOffset k) = 0 ∧ t.settings.read (.closeDelay k) = 40 ∧
      t.settings.read (.openDelay k) = 40 ∧ t.settings.read (.pulseLength k) = 80 ∧ t.settings.read (.tripLevel k) = 0 ∧
      t.settings.read (.tripCycles k) = 6 ∧ t.settings.read (.shedMode k) = 1 ∧ t.settings.read (.monWindow k) = 0 ∧
      t.settings.read (.monAction k) = 0 ∧ t.settings.read (.retryLimit k) = 3 ∧ t.settings.read (.stallBand k) = 0 ∧
      t.settings.read (.bootGrace k) = 36 ∧ t.settings.read (.cycleOff k) = 10) ∧
    (∀ b, t.protection b = Protection.initial ∧ t.sequencer b = Sequencer.initial ∧ t.breaker b = { level := none, run := 0 } ∧
      t.settings.read (.branchFeed b) = (b.val / 2 : Nat) ∧ t.settings.read (.branchLimit b) = 16000 ∧
      t.settings.read (.overCycles b) = 30 ∧ t.settings.read (.stagger b) = 30 ∧
      t.settings.read (.restartEnable b) = 0 ∧ t.settings.read (.restartDelay b) = 30 ∧
      t.settings.read (.restartLimit b) = 3) ∧
    (∀ x, (t.port x).trans = .none ∧ (t.port x).presence = .absent ∧ (t.port x).events = [] ∧
      (t.port x).overflow = false ∧ (t.port x).alert = false ∧ (t.port x).latch = false ∧
      (t.port x).pendingMark = false ∧ (t.port x).badFrames = 0 ∧ (t.port x).silence = 0 ∧ (t.port x).stall = 0 ∧
      (t.port x).response = { status := .idle, echo := 0, generation := 0, payload := [] } ∧
      t.bankPort x = { bank := none, counter := 0 } ∧ t.sweepEngine x = { context := none, last := none } ∧
      t.settings.read (.badLimit x) = 4 ∧ t.settings.read (.linkTimeout x) = 10) ∧
    t.settings.read .noLoad = 20 ∧ t.settings.read .creep = 500

/-- PIN_RESET leaves the pin-reset column of every chapter's table, and so does PIN_RESET_RELEASE, which reads the straps.
A release that finds RESET_N high changes nothing. That the pin-reset values stand from the falling edge on, and that a
release with RESET_N high does nothing, is the model's choice (assumption 5). -/
def Obligations.PinResetKeepsAndClears : Prop :=
  (∀ s : State, ∃ t, exec .pinReset s = .next t ∧ PinValues s t ∧ t.resetHeld = true ∧
    t.targetAddress = s.targetAddress) ∧
  (∀ (straps : BitVec 2) (s : State), s.resetHeld = true → ∃ t, exec (.pinResetRelease straps) s = .next t ∧
    PinValues s t ∧ t.resetHeld = false ∧ t.targetAddress = 0x58 + straps.setWidth 7) ∧
  ∀ (straps : BitVec 2) (s : State), s.resetHeld = false → exec (.pinResetRelease straps) s = .next s

/-- While RESET_N is low a sample arrival moves the counters alone, and no request, bus operation or happening of a block
has any effect. That a happening then does nothing is the model's choice (assumption 3). -/
def Obligations.HeldPartTakesNothing : Prop :=
  ∀ (c : Instr) (s : State), s.resetHeld = true →
    match c with
    | .sampleArrival _ _ => ∃ t, exec c s = .next t ∧
        { t with sampleCounter := s.sampleCounter, seconds := s.seconds, subSecond := s.subSecond } = s
    | .secondTick => ∃ t, exec c s = .next t ∧ { t with seconds := s.seconds, subSecond := s.subSecond } = s
    | .powerOnReset _ => True
    | .pinReset => True
    | .pinResetRelease _ => True
    | _ => exec c s = .next s

/-! ### Arithmetic -/

/-- The terms of R1: the rounded quotient with its ties, the floor, the integer square root, saturation, wrapping and
holding. -/
def Obligations.ArithmeticTermsMeanWhatTheySay : Prop :=
  (∀ (a : Int) (b : Nat), 0 < b →
    2 * |a - roundedQuotient a b * b| ≤ b ∧
      (2 * |a - roundedQuotient a b * b| = b → |a| < |roundedQuotient a b * b|)) ∧
  (∀ (a : Int) (b : Nat), 0 < b → floorQuotient a b * b ≤ a ∧ a < (floorQuotient a b + 1) * b) ∧
  (∀ x : Nat, isqrt x * isqrt x ≤ x ∧ x < (isqrt x + 1) * (isqrt x + 1)) ∧
  (∀ lo hi v : Int, lo ≤ hi → saturate lo hi v = if hi < v then hi else if v < lo then lo else v) ∧
  (∀ (k : Nat) (x : BitVec k), (x.toNat = 2 ^ k - 1 → x + 1 = 0) ∧ (x.toNat < 2 ^ k - 1 → (x + 1).toNat = x.toNat + 1)) ∧
  ∀ limit n : Nat, (n < limit → holdUp limit n = n + 1) ∧ holdUp limit limit = limit

/-- A cycle's energy goes whole into the direction of its sign: the count and the remainder together rise by it, unless the
count holds at its limit, where the remainder alone carries on; the other direction is left as it was. -/
def Obligations.EnergyAddCarriesWhole : Prop :=
  ∀ (e : Energy) (sp : Int), sp.natAbs < Config.whRaw → e.importRem < Config.whRaw → e.exportRem < Config.whRaw →
    e.importWh ≤ Config.whMax → e.exportWh ≤ Config.whMax →
    (0 < sp → (e.add sp).exportWh = e.exportWh ∧ (e.add sp).exportRem = e.exportRem ∧
      (e.add sp).importRem = (e.importRem + sp.natAbs) % Config.whRaw ∧
      (e.importWh < Config.whMax → (e.add sp).importWh * Config.whRaw + (e.add sp).importRem =
        e.importWh * Config.whRaw + e.importRem + sp.natAbs) ∧
      (e.importWh = Config.whMax → (e.add sp).importWh = Config.whMax)) ∧
    (sp < 0 → (e.add sp).importWh = e.importWh ∧ (e.add sp).importRem = e.importRem ∧
      (e.add sp).exportRem = (e.exportRem + sp.natAbs) % Config.whRaw ∧
      (e.exportWh < Config.whMax → (e.add sp).exportWh * Config.whRaw + (e.add sp).exportRem =
        e.exportWh * Config.whRaw + e.exportRem + sp.natAbs) ∧
      (e.exportWh = Config.whMax → (e.add sp).exportWh = Config.whMax)) ∧
    (sp = 0 → e.add sp = e)

/-! ### Sample arrivals -/

/-- Every sample arrival, in any order of its happenings and whether RESET_N is low or not, moves the sample counter, the
sample-in-second and the seconds counter as R12 and R13 lay down; the timestamp that events and requests carry becomes that of
the arrival, unless RESET_N is low and the arrival is not handled (R4, R14). The order as an operand is the model's choice
(assumption 1). -/
def Obligations.ArrivalAdvancesCounters : Prop :=
  ∀ (set : SampleSet) (o : ArrivalOrder) (s : State), s.subSecond < 7680 →
    ∃ t, exec (.sampleArrival set o) s = .next t ∧ t.sampleCounter = s.sampleCounter + 1 ∧
      (s.subSecond + 1 = 7680 → t.subSecond = 0 ∧ t.seconds = s.seconds + 1) ∧
      (s.subSecond + 1 < 7680 → t.subSecond = s.subSecond + 1 ∧ t.seconds = s.seconds) ∧
      t.stamp = if s.resetHeld = true then s.stamp else { seconds := t.seconds, sub := t.subSecond }

/-- A sample arrival of the running part corrects every channel with the gain and offset standing, and moves every sense
age and breaker as R5, R6, R8, R10 and R11 lay down; the settings, the generation and the address stay. The order as an
operand is the model's choice (assumption 1). -/
def Obligations.ArrivalUpdatesInputs : Prop :=
  ∀ (set : SampleSet) (o : ArrivalOrder) (s : State), s.resetHeld = false →
    ∃ t, exec (.sampleArrival set o) s = .next t ∧ t.settings = s.settings ∧ t.generation = s.generation ∧
      t.targetAddress = s.targetAddress ∧ t.resetHeld = false ∧
      (∀ f, let q := (((look set.volts f).toInt - look s.settings.vOffset f) * look s.settings.vGain f + 8192) / 16384
        look t.handed.volts f = max (-32767) (min 32767 q) ∧
          (look t.handed.vClip f = true ↔ (look set.volts f).toInt = -32768 ∨ (look set.volts f).toInt = 32767 ∨
            q < -32767 ∨ 32767 < q)) ∧
      (∀ k, let q := (((look set.amps k).toInt - look s.settings.iOffset k) * look s.settings.iGain k + 8192) / 16384
        look t.handed.amps k = max (-32767) (min 32767 q) ∧
          (look t.handed.aClip k = true ↔ (look set.amps k).toInt = -32768 ∨ (look set.amps k).toInt = 32767 ∨
            q < -32767 ∨ 32767 < q)) ∧
      (∀ k, t.age k = if look set.sense k then 0 else if 192 ≤ s.age k then 192 else s.age k + 1) ∧
      ∀ b, let shown := if look set.breaker b then BreakerLevel.opened else BreakerLevel.closed
        ((s.breaker b).level = none → t.breaker b = { level := some shown, run := 0 }) ∧
        ((s.breaker b).level = some shown → t.breaker b = { level := some shown, run := 0 }) ∧
        ∀ l, (s.breaker b).level = some l → l ≠ shown →
          ((s.breaker b).run + 1 < 64 → t.breaker b = { level := some l, run := (s.breaker b).run + 1 }) ∧
          (64 ≤ (s.breaker b).run + 1 → t.breaker b = { level := some shown, run := 0 })

/-- A sample arrival of the running part gives each tracker one pass over the value it handed on, with the sample number
and timestamp of the arrival, and nothing else in the arrival moves a tracker. The order as an operand is the model's
choice (assumption 1). -/
def Obligations.ArrivalRunsTrackers : Prop :=
  ∀ (set : SampleSet) (o : ArrivalOrder) (s : State), s.resetHeld = false →
    ∃ t, exec (.sampleArrival set o) s = .next t ∧
      ∀ f, t.tracker f = { (s.tracker f).pass (look s.settings.windowExp f) (look s.settings.divider f)
        (s.sampleCounter + 1) t.stamp (look t.handed.volts f) (look t.handed.vClip f) with notice := Notice.quiet }

/-- A tracker's pass: an accepted crossing closes the cycle over the samples before it and opens the next with its own; the
192nd sample closes a synthetic cycle, the phase and Tp going on; any other arrival counts into the open cycle and closes
nothing. The detector arms at -128 or below and fires at 0 or above (R16 to R20). A crossing's timestamp is 256 times the
number of the arrival before it and the fraction of a sample, floored, modulo 2^40 (R18). At a close the feed result is formed (R21),
the feed state moves by R22's table, the cycle joins the window, closes it or is left out of it (R25, R26), and frequency
capture sets its anchor, counts or forms its result (R27, R28). What is handed on says the close, the state left where it
changed, whether TRACKING was entered or left (R23, R24), and what each meter's window does with the cycle (R31, R43). -/
def Obligations.TrackerPassClosesCycles : Prop :=
  ∀ (t : Tracker) (w c : Nat) (n : BitVec 32) (st : Timestamp) (v : Int) (clip : Bool),
    let p := t.pass w c n st v clip
    let crossed := t.armed = true ∧ 0 ≤ v ∧ 112 ≤ t.cyc.n
    let inRange := t.cyc.began = .crossing ∧ 118 ≤ t.cyc.n ∧ t.cyc.n ≤ 171
    let offRange := t.cyc.began = .crossing ∧ ¬(118 ≤ t.cyc.n ∧ t.cyc.n ≤ 171)
    let crossing :=
      BitVec.ofNat 40 (256 * (n - 1).toNat + ((256 * -t.prevV) / ((v - t.prevV).toNat : Int)).toNat)
    let windowed := fun (closedN closedSv : Nat) (closedClip synthetic : Bool) =>
      (t.win.skip = true → p.win = { t.win with skip := false } ∧ p.windowResult = t.windowResult) ∧
      (t.win.skip = false → t.win.count + 1 < 2 ^ w → p.windowResult = t.windowResult ∧
        p.win = { count := t.win.count + 1, sv := t.win.sv + closedSv, total := t.win.total + closedN,
                  clip := t.win.clip || closedClip, synthetic := t.win.synthetic || synthetic, skip := false }) ∧
      (t.win.skip = false → 2 ^ w ≤ t.win.count + 1 →
        p.win = { count := 0, sv := 0, total := 0, clip := false, synthetic := false, skip := false } ∧
        p.windowResult = some
          { vcV := isqrt ((t.win.sv + closedSv) * 625 / ((t.win.total + closedN) * 256)), total := t.win.total + closedN,
            length := 2 ^ w, clip := t.win.clip || closedClip, synthetic := t.win.synthetic || synthetic })
    let handsOn := fun (kind : CloseKind) (n : Nat) =>
      p.notice.close = some
        { kind := kind, n := n, window :=
            if t.win.skip = true then .leaveOut else if 2 ^ w ≤ t.win.count + 1 then .addAndClose else .add } ∧
      (p.state = t.state → p.notice.left = none) ∧ (p.state ≠ t.state → p.notice.left = some t.state) ∧
      (p.notice.enteredTracking = true ↔ p.state = .tracking ∧ t.state ≠ .tracking) ∧
      (p.notice.leftTracking = true ↔ t.state = .tracking ∧ p.state ≠ .tracking)
    p.prevV = v ∧
    (t.armed = true → p.armed = decide (v < 0)) ∧
    (t.armed = false → p.armed = decide (v ≤ -128)) ∧
    (crossed → handsOn .crossing t.cyc.n ∧
      p.cyc = { n := 1, sv := (v * v).toNat, clip := clip, began := .crossing } ∧ p.phase = 0 ∧ p.tp = t.cyc.n ∧
      p.lastCrossing = some crossing ∧
      p.cycleResult =
        some { vcV := isqrt (t.cyc.sv * 625 / (t.cyc.n * 256)), n := t.cyc.n, clip := t.cyc.clip, synthetic := false } ∧
      (t.state = .noLine ∨ t.state = .lost → p.state = .acquiring ∧ p.acquired = 0) ∧
      (t.state = .acquiring → inRange → t.acquired + 1 < 4 → p.state = .acquiring ∧ p.acquired = t.acquired + 1) ∧
      (t.state = .acquiring → inRange → 4 ≤ t.acquired + 1 → p.state = .tracking ∧ p.acquired = 0) ∧
      (t.state = .acquiring → offRange → p.state = .acquiring ∧ p.acquired = 0) ∧
      (t.state = .tracking → inRange → p.state = .tracking ∧ p.acquired = t.acquired) ∧
      (t.state = .tracking → offRange → p.state = .acquiring ∧ p.acquired = 0) ∧
      windowed t.cyc.n t.cyc.sv t.cyc.clip false ∧
      (t.anchor = none → p.anchor = some crossing ∧ p.inRange = 0 ∧ p.frequency = t.frequency) ∧
      (∀ a, t.anchor = some a → ¬inRange →
        p.anchor = some crossing ∧ p.inRange = 0 ∧ p.frequency = t.frequency) ∧
      (∀ a, t.anchor = some a → inRange → t.inRange + 1 < c →
        p.anchor = some a ∧ p.inRange = t.inRange + 1 ∧ p.frequency = t.frequency) ∧
      (∀ a, t.anchor = some a → inRange → c ≤ t.inRange + 1 → p.anchor = some crossing ∧ p.inRange = 0 ∧
        p.frequency = some
          { mHz := (roundedQuotient ((7680 * 256 * 1000 * c : Nat) : Int) (crossing - a).toNat).toNat,
            divider := c, stamp := st })) ∧
    (¬crossed → 192 ≤ t.cyc.n + 1 → handsOn .synthetic (t.cyc.n + 1) ∧
      p.cyc = { n := 0, sv := 0, clip := false, began := .synthetic } ∧
      p.phase = min 65535 (t.phase + 1) ∧ p.tp = t.tp ∧ p.lastCrossing = t.lastCrossing ∧
      p.anchor = none ∧ p.inRange = 0 ∧
      p.cycleResult =
        some { vcV := isqrt ((t.cyc.sv + (v * v).toNat) * 625 / ((t.cyc.n + 1) * 256)), n := t.cyc.n + 1,
               clip := t.cyc.clip || clip, synthetic := true } ∧
      (t.state = .noLine ∨ t.state = .lost →
        p.state = t.state ∧ p.acquired = t.acquired ∧ p.frequency = t.frequency) ∧
      (t.state = .acquiring → p.state = .lost ∧ p.acquired = 0 ∧ p.frequency = none) ∧
      (t.state = .tracking → p.state = .lost ∧ p.acquired = t.acquired ∧ p.frequency = none) ∧
      windowed (t.cyc.n + 1) (t.cyc.sv + (v * v).toNat) (t.cyc.clip || clip) true) ∧
    (¬crossed → t.cyc.n + 1 < 192 → p.notice = t.notice ∧
      p.cyc = { n := t.cyc.n + 1, sv := t.cyc.sv + (v * v).toNat, clip := t.cyc.clip || clip, began := t.cyc.began } ∧
      p.phase = min 65535 (t.phase + 1) ∧ p.tp = t.tp ∧ p.state = t.state ∧ p.acquired = t.acquired ∧
      p.cycleResult = t.cycleResult ∧ p.windowResult = t.windowResult ∧ p.win = t.win ∧
      p.lastCrossing = t.lastCrossing ∧ p.anchor = t.anchor ∧ p.inRange = t.inRange ∧ p.frequency = t.frequency)

/-- What a sample arrival does to the meters and the branch sums, no tracker holding a notice of an earlier arrival. An open
cycle gains the product and the square of its sample; at an accepted crossing the cycle result is formed over the samples
before it, the sums restart with its own, and a cycle that passes the creep test adds its SP to the energy; at the 192nd
sample the same happens with that sample counted in and the sums at 0. The cycle of a JOINED meter joins its window, closes
it or is left out with its feed's, and a WAITING meter joins where the feed's window is then empty (R43 to R46). Where its
feed's cycle closes, a branch's sum is that of its outlets' latest cycle currents and its over-limit run rises, holding at
255, while the sum is above a limit other than 0, and is else 0; elsewhere both stay. The order as an operand is the model's
choice (assumption 1). -/
def Obligations.CycleCloseFormsResultsAndSums : Prop :=
  ∀ (set : SampleSet) (o : ArrivalOrder) (s : State), s.resetHeld = false →
    (∀ f, (s.tracker f).notice = Notice.quiet) →
    ∃ t, exec (.sampleArrival set o) s = .next t ∧
      (∀ k : Outlet,
        let f := s.feedOf k
        let tr := s.tracker f
        let m := s.meter k
        let m' := t.meter k
        let v := look t.handed.volts f
        let i := look t.handed.amps k
        let crossed := tr.armed = true ∧ 0 ≤ v ∧ 112 ≤ tr.cyc.n
        let full := 2 ^ look s.settings.windowExp f ≤ tr.win.count + 1
        let figures := fun (pmW : Int) (imA smVA : Nat) (pf : Int) (noLoad : Bool) (sp : Int) (si sv n : Nat) =>
          pmW = roundedQuotient (sp * 1000) (n * 65536) ∧ imA = isqrt (si * 15625 / (n * 16384)) ∧
          smVA = (roundedQuotient ((isqrt (sv * 625 / (n * 256)) * imA : Nat) : Int) 100).toNat ∧
          (noLoad = true ↔ imA < s.settings.noLoad ∨ smVA = 0) ∧ (noLoad = true → pf = 0) ∧
          (noLoad = false → smVA < pmW.natAbs → pf = if pmW < 0 then -1000 else 1000) ∧
          (noLoad = false → pmW.natAbs ≤ smVA → pf = roundedQuotient (pmW * 1000) smVA)
        let closed := fun (sp : Int) (si sv n : Nat) (clip vClip synthetic : Bool) =>
          m'.skip = false ∧ (m'.waiting = true ↔ m.waiting = true ∧ tr.win.skip = false ∧ ¬full) ∧
          (m.skip = true → m'.cycleResult = m.cycleResult ∧ t.energyOf k = s.energyOf k) ∧
          (m.skip = false → ∃ r, m'.cycleResult = some r ∧
            figures r.pmW r.imA r.smVA r.pf r.noLoad sp si sv n ∧
            r.n = n ∧ r.clip = (clip || vClip) ∧ r.synthetic = synthetic ∧ r.stamp = t.stamp ∧
            t.energyOf k = if s.settings.creep ≤ r.pmW.natAbs then (s.energyOf k).add sp else s.energyOf k) ∧
          (m.skip = true ∨ m.waiting = true ∨ tr.win.skip = true →
            m'.wsp = m.wsp ∧ m'.wsi = m.wsi ∧ m'.wclip = m.wclip ∧ m'.windowResult = m.windowResult) ∧
          (m.skip = false → m.waiting = false → tr.win.skip = false → ¬full →
            m'.wsp = m.wsp + sp ∧ m'.wsi = m.wsi + si ∧ m'.wclip = (m.wclip || clip) ∧
            m'.windowResult = m.windowResult) ∧
          (m.skip = false → m.waiting = false → tr.win.skip = false → full →
            m'.wsp = 0 ∧ m'.wsi = 0 ∧ m'.wclip = false ∧ ∃ r, m'.windowResult = some r ∧
              figures r.pmW r.imA r.smVA r.pf r.noLoad (m.wsp + sp) (m.wsi + si) (tr.win.sv + sv) (tr.win.total + n) ∧
              r.total = tr.win.total + n ∧ r.length = 2 ^ look s.settings.windowExp f ∧
              r.clip = ((m.wclip || clip) || (tr.win.clip || vClip)) ∧ r.synthetic = (tr.win.synthetic || synthetic) ∧
              r.stamp = t.stamp)
        (¬crossed → tr.cyc.n + 1 < 192 → m'.sp = m.sp + v * i ∧ m'.si = m.si + (i * i).toNat ∧
          m'.clip = (m.clip || look t.handed.aClip k) ∧ m'.cycleResult = m.cycleResult ∧
          m'.windowResult = m.windowResult ∧ m'.wsp = m.wsp ∧ m'.wsi = m.wsi ∧ m'.wclip = m.wclip ∧
          m'.skip = m.skip ∧ m'.waiting = m.waiting ∧ t.energyOf k = s.energyOf k) ∧
        (crossed → m'.sp = v * i ∧ m'.si = (i * i).toNat ∧ m'.clip = look t.handed.aClip k ∧
          closed m.sp m.si tr.cyc.sv tr.cyc.n m.clip tr.cyc.clip false) ∧
        (¬crossed → 192 ≤ tr.cyc.n + 1 → m'.sp = 0 ∧ m'.si = 0 ∧ m'.clip = false ∧
          closed (m.sp + v * i) (m.si + (i * i).toNat) (tr.cyc.sv + (v * v).toNat) (tr.cyc.n + 1)
            (m.clip || look t.handed.aClip k) (tr.cyc.clip || look t.handed.vClip f) true)) ∧
      ∀ b : Branch,
        let tr := s.tracker (s.branchFeedOf b)
        let v := look t.handed.volts (s.branchFeedOf b)
        let crossed := tr.armed = true ∧ 0 ≤ v ∧ 112 ≤ tr.cyc.n
        let sum := ((s.outletsOf b).map fun k => ((t.meter k).cycleResult.map (·.imA)).getD 0).sum
        (crossed ∨ 192 ≤ tr.cyc.n + 1 → (t.protection b).sum = some sum ∧ (t.protection b).overRun =
          if look s.settings.branchLimit b = 0 ∨ sum ≤ look s.settings.branchLimit b then 0
          else if 255 ≤ (s.protection b).overRun then 255 else (s.protection b).overRun + 1) ∧
        (¬crossed → tr.cyc.n + 1 < 192 →
          (t.protection b).sum = (s.protection b).sum ∧ (t.protection b).overRun = (s.protection b).overRun)

/-- A sample arrival of the running part: the counters, then the timers in seconds where the second advances (R78, R133,
R151, R171), the stall counts (R170), the trackers' passes, and the drivers' pulse and verify counts (R113, R114), a step
hearing its feed's crossing and its leaving of TRACKING (R110, R113); then each block's turn once, in some order that keeps
the stages of a close (R21) and has a branch enter NORMAL right behind its pass, or behind a cause of the branch taken there
(R136), then the drivers' fire phases and the arbiter's round. A turn does what its row does: a change of feed state posts
FEED_STATE, but on leaving NO_LINE (R23); window results are taken into the evidence (R143) and test a SUSPECT monitor
(R146); a branch-sum stage moves OVERCURRENT (R125), the trip runs (R126) and the stagger count (R99), and tests the head
(R101); the BREAKER cause follows the level (R128); a WATCHING monitor's silence rises unless it is paused, and is tested
(R141, R145), and a pending verdict that has not tried at this arrival tries (R148); a pulse or verify window ends, or an
IDLE outlet of UNKNOWN contact is discovered at the entry into TRACKING (R121), with the remembered load and the end of a
waiting CLOSE (R50, R96), OUTLET_SWITCHED ahead of any other event, which is the model's reading (assumption 13); the
leaving of TRACKING ends a verify window UNVERIFIED (R115). The order as an operand is the model's choice (assumption 1). -/
def Obligations.ArrivalTakesEveryTurn : Prop :=
  (∀ (set : SampleSet) (o : ArrivalOrder) (s : State), s.resetHeld = false →
    (∀ f, let t := s.takeArrival set
      t.tracker f = (s.tracker f).pass (look s.settings.windowExp f) (look s.settings.divider f) (s.sampleCounter + 1) t.stamp
        (look t.handed.volts f) (look t.handed.vClip f)) ∧
    (let t := s.takeArrival set
      let second := 7680 ≤ s.subSecond + 1
      t.sampleCounter = s.sampleCounter + 1 ∧ t.stamp = { seconds := t.seconds, sub := t.subSecond } ∧
      (second → t.subSecond = 0 ∧ t.seconds = s.seconds + 1) ∧
      (¬second → t.subSecond = s.subSecond + 1 ∧ t.seconds = s.seconds) ∧
      t.handling = some { returned := [], tries := [], formed := [], tried := [] } ∧
      t.entries = s.entries.map (fun e =>
        { e with offHold := if second ∧ e.phase = .offHold then e.offHold - 1 else e.offHold }) ∧
      (∀ b, t.protection b = { s.protection b with restartTimer :=
        if second ∧ (s.protection b).state = .restartWait then (s.protection b).restartTimer - 1
        else (s.protection b).restartTimer }) ∧
      (∀ k, t.monitor k = { s.monitor k with grace :=
        if second ∧ (s.monitor k).state = .grace then (s.monitor k).grace - 1 else (s.monitor k).grace }) ∧
      (∀ x, t.port x = { s.port x with
        silence := if second ∧ (s.port x).presence ≠ .absent then
            (if 255 ≤ (s.port x).silence then (s.port x).silence else (s.port x).silence + 1)
          else (s.port x).silence
        stall := if set.sclLow.get x = true then
            (if 231 ≤ (s.port x).stall then (s.port x).stall else (s.port x).stall + 1)
          else 0
        stallDue := set.sclLow.get x && decide ((s.port x).stall = 230) && decide ((s.port x).trans ≠ .none) }) ∧
      { t with sampleCounter := s.sampleCounter, seconds := s.seconds, subSecond := s.subSecond, stamp := s.stamp,
               handling := s.handling, handed := s.handed, senseAge := s.senseAge, breakers := s.breakers,
               trackers := s.trackers, drivers := s.drivers, entries := s.entries, protections := s.protections,
               monitors := s.monitors, ports := s.ports } = s) ∧
    (∀ k, let d := s.driver k
      let d' := (s.takeArrival set).driver k
      let heard := ((s.takeArrival set).tracker ((d.step.map (·.feed)).getD (s.feedOf k))).notice
      let crossed := ∃ c, heard.close = some c ∧ c.kind = .crossing
      d'.contact = d.contact ∧ d'.fault = d.fault ∧ d'.coil = d.coil ∧ d'.waitingUrgent = d.waitingUrgent ∧
      (d.state = .idle ∨ d.state = .faulted → d'.state = d.state) ∧
      (d.step = none → d'.step = none) ∧
      (∀ st, d.step = some st → d'.step = some { st with
        metRising := st.metRising && !decide crossed
        metFalling := st.metFalling && !decide crossed
        sync := if heard.leftTracking = true ∧ (d.state = .waitPhase ∨ d.state = .waitSlot) then false else st.sync
        feedLeft := if heard.leftTracking = true ∧ d.state = .pulse then true else st.feedLeft }) ∧
      (d.state = .waitPhase → d'.state = if heard.leftTracking = true then .waitSlot else .waitPhase) ∧
      (d.state = .waitSlot → d'.state = .waitSlot) ∧
      (d.state ≠ .pulse → d'.pulseCount = d.pulseCount) ∧
      (d.state ≠ .verify → d'.skip = d.skip ∧ d'.observe = d.observe ∧ d'.activeSeen = d.activeSeen) ∧
      (d.state = .pulse → d'.state = .pulse ∧ d'.pulseCount = d.pulseCount - 1) ∧
      (d.state = .verify → d.skip ≠ 0 → d'.state = .verify ∧ d'.skip = d.skip - 1 ∧ d'.observe = d.observe ∧
        d'.activeSeen = d.activeSeen) ∧
      (d.state = .verify → d.skip = 0 → d'.state = .verify ∧ d'.skip = 0 ∧ d'.observe = d.observe - 1 ∧
        d'.activeSeen = (d.activeSeen || look set.sense k))) ∧
    ∃ (ts : List Turn) (t : State), ts.Nodup ∧ (∀ u, (∀ k, u ≠ .request k) → u ∈ ts) ∧
      (∀ k, ts.idxOf (.closes (s.feedOf k)) < ts.idxOf (.evidence k) ∧
        ts.idxOf (.closes (s.feedOf k)) < ts.idxOf (.trip k)) ∧
      (∀ b, ts.idxOf (.closes (s.branchFeedOf b)) < ts.idxOf (.overcurrent b) ∧
        ts.idxOf (.closes (s.branchFeedOf b)) < ts.idxOf (.admission b)) ∧
      (∀ b, ts.idxOf (.returns b) < ts.idxOf (.settles b) ∧
        ∀ u, ts.idxOf (.returns b) < ts.idxOf u → ts.idxOf u < ts.idxOf (.settles b) →
          u = .overcurrent b ∨ u = .breakerCause b) ∧
      execAll (allOutlets.map .firePhase ++ [.slotGrant]) (ts.foldl State.turn (s.takeArrival set)) = .next t ∧
      exec (.sampleArrival set o) s = .next t.closeArrival) ∧
  ∀ u : State, u.resetHeld = false →
    (∀ f, ((u.tracker f).notice.left = none ∨ (u.tracker f).notice.left = some .noLine → u.turn (.feedState f) = u) ∧
      ∀ l, (u.tracker f).notice.left = some l → l ≠ .noLine → u.turn (.feedState f) =
        u.post (.feedState f (u.tracker f).state l) EventOrigin.nobody) ∧
    (∀ f k, u.handling ≠ none → ((u.turn (.closes f)).formedNow k = true ↔ u.formedNow k = true ∨
      u.feedOf k = f ∧ (u.meter k).skip = false ∧ (u.meter k).waiting = false ∧
        ∃ n, (u.tracker f).notice.close = some n ∧ n.window = .addAndClose)) ∧
    (∀ k, let m := u.monitor k
      (u.formedNow k = false ∨ m.state = .off → u.turn (.evidence k) = u) ∧
      ∀ r m', u.formedNow k = true → m.state ≠ .off → (u.meter k).windowResult = some r →
        m' = { m with
          evidence := min 255 (m.evidence + 1)
          spread := some (match m.spread with
            | none => (r.pmW, r.pmW)
            | some (lo, hi) => if m.evidence = 0 then (r.pmW, r.pmW) else (min lo r.pmW, max hi r.pmW)) } →
        let stalls := look u.settings.stallBand k = 0 ∨ m'.evidence ≠ 0 ∧
          ∃ lo hi : Int, m'.spread = some (lo, hi) ∧ hi - lo ≤ look u.settings.stallBand k
        let tested := m.state = .suspect ∧ stalls ∧ u.contact k = .closed ∧
          u.entryOf k = none ∧ (u.driver k).fault = none
        (¬tested → u.turn (.evidence k) = u.setMonitor k m') ∧
        (tested → look u.settings.monWindow k * 3840 ≤ m.silence →
          exec (.verdict k) (u.setMonitor k { m' with state := .watching }) = .next (u.turn (.evidence k)))) ∧
    (∀ b, ((u.tracker (u.branchFeedOf b)).notice.close = none →
        u.turn (.overcurrent b) = u ∧ u.turn (.admission b) = u ∧ ∀ k, u.branchOf k = b → u.turn (.trip k) = u) ∧
      ((u.tracker (u.branchFeedOf b)).notice.close ≠ none →
        ((u.protection b).overcurrent = false →
          exec (.overcurrentActive b) u = .next (u.turn (.overcurrent b))) ∧
        ((u.protection b).overcurrent = true → (u.protection b).overRun ≠ 0 → u.turn (.overcurrent b) = u) ∧
        ((u.protection b).overcurrent = true → (u.protection b).overRun = 0 →
          exec (.automaticRestart b) (u.setProtection b { u.protection b with overcurrent := false }) =
            .next (u.turn (.overcurrent b))) ∧
        exec (.admission b) (u.setSequencer b
          { u.sequencer b with stagger := min 255 ((u.sequencer b).stagger + 1) }) = .next (u.turn (.admission b)) ∧
        ∀ k, u.branchOf k = b → 0 < look u.settings.tripCycles k →
          exec (.outletTrip k) (u.setTripRun k
            (if look u.settings.tripLevel k = 0 ∨ (u.driver k).fault ≠ none ∨
                (u.isTripped k = true ∧ u.contact k = .opened) ∨
                ((u.meter k).cycleResult.map (·.imA)).getD 0 ≤ look u.settings.tripLevel k then 0
              else min 255 (u.tripRun k + 1))) = .next (u.turn (.trip k))) ∧
      ((u.breaker b).level = none ∨ (u.breaker b).level = some .opened ∧ (u.protection b).breaker = true ∨
          (u.breaker b).level = some .closed ∧ (u.protection b).breaker = false → u.turn (.breakerCause b) = u) ∧
      ((u.breaker b).level = some .opened → (u.protection b).breaker = false →
        ((u.turn (.breakerCause b)).protection b).breaker = true ∧
        ((u.turn (.breakerCause b)).protection b).state = .shed) ∧
      ((u.breaker b).level = some .closed → (u.protection b).breaker = true →
        exec (.automaticRestart b) (u.setProtection b { u.protection b with breaker := false }) =
          .next (u.turn (.breakerCause b))) ∧
      ((u.protection b).state ≠ .restoring → ¬((u.protection b).state = .restartWait ∧ (u.protection b).restartTimer = 0) →
        execAll ((u.outletsOf b).map .offHoldEnd) u = .next (u.turn (.returns b))) ∧
      ((∀ e, e ∈ u.entries → u.branchOf e.outlet = b → e.phase = .offHold → e.offHold ≠ 0) →
        ((u.protection b).state = .restoring →
          exec (.restorationPass b) u = .next ((u.turn (.returns b)).turn (.settles b))) ∧
        ((u.protection b).state ≠ .restoring →
          exec (.restartExpiry b) u = .next ((u.turn (.returns b)).turn (.settles b)))) ∧
      ((u.protection b).state ≠ .restoring ∨ (∃ k, look (u.protection b).victims k = true) → u.turn (.settles b) = u)) ∧
    (∀ k, exec (.graceExpiry k) u = .next (u.turn (.grace k)) ∧
      ((u.monitor k).state = .watching → exec (.verdict k)
        (if u.contact k = .closed ∧ u.entryOf k = none ∧ (u.driver k).fault = none then
          u.setMonitor k { u.monitor k with
            silence := min (look u.settings.monWindow k * 3840) ((u.monitor k).silence + 1) }
        else u) = .next (u.turn (.monitor k))) ∧
      ((u.monitor k).state ≠ .watching →
        (k ∈ (u.handling.map (·.tried)).getD [] → u.turn (.monitor k) = u) ∧
        (k ∉ (u.handling.map (·.tried)).getD [] → exec (.monitorPlacement k) u = .next (u.turn (.monitor k))))) ∧
    (∀ k, ((u.driver k).state = .pulse → exec (.pulseEnd k) u = .next (u.turn (.driver k))) ∧
      ((u.driver k).state = .verify → exec (.verifyWindowEnd k) u = .next (u.turn (.driver k))) ∧
      ((u.driver k).state = .idle → (u.tracker (u.feedOf k)).notice.enteredTracking = true → u.contact k = .unknown →
        ∃ (c : Contact) (seen : State), c = (if u.age k < 192 then .closed else .opened) ∧
          seen = (u.moved k c).told (.outletSwitched k c .discovered) EventOrigin.nobody ∧
          (u.turn (.driver k)).contact k = c ∧ (u.turn (.driver k)).meters = seen.meters ∧
          (∀ x, ∃ es : List Event, (u.turn (.driver k)).port x = es.foldl Port.offer (seen.port x)) ∧
          (c = .closed → (∀ e, u.entryOf k = some e → ¬(e.kind = .closing ∧ e.phase = .waitAdmit)) →
            u.turn (.driver k) = seen) ∧
          (c = .closed → u.EntriesDistinct → ∀ e, u.entryOf k = some e → e.kind = .closing → e.phase = .waitAdmit →
            (u.turn (.driver k)).entryOf k = none ∧
            (u.turn (.driver k)).ports = (seen.ended e .done .noPulse).ports ∧
            (u.turn (.driver k)).monitors = (seen.ended e .done .noPulse).monitors) ∧
          (c = .opened → ∀ first, first = ((u.sequencer (u.branchOf k)).line.head?.bind u.entryById).map (·.outlet) →
            (first = some k → exec (.admission (u.branchOf k)) seen = .next (u.turn (.driver k))) ∧
            (first ≠ some k → u.turn (.driver k) = seen))) ∧
      ((u.driver k).state ≠ .pulse → (u.driver k).state ≠ .verify →
        ¬((u.driver k).state = .idle ∧ (u.tracker (u.feedOf k)).notice.enteredTracking = true ∧ u.contact k = .unknown) →
        u.turn (.driver k) = u)) ∧
    (∀ k st, (u.driver k).step = some st →
      ((u.tracker st.feed).notice.leftTracking = false → u.turn (.leaving k) = u) ∧
      ((u.tracker st.feed).notice.leftTracking = true → (u.driver k).state = .waitPhase → u.turn (.leaving k) =
        u.setDriver k { u.driver k with state := .waitSlot, step := some { st with sync := false } }) ∧
      ((u.tracker st.feed).notice.leftTracking = true → (u.driver k).state = .waitSlot → u.turn (.leaving k) =
        u.setDriver k { u.driver k with step := some { st with sync := false } }) ∧
      ((u.tracker st.feed).notice.leftTracking = true → (u.driver k).state = .pulse → u.turn (.leaving k) =
        u.setDriver k { u.driver k with step := some { st with feedLeft := true } }) ∧
      ((u.driver k).state = .idle ∨ (u.driver k).state = .faulted → u.turn (.leaving k) = u) ∧
      ((u.tracker st.feed).notice.leftTracking = true → (u.driver k).state = .verify →
        (u.turn (.leaving k)).contact k = (if st.direction = .close then .closed else .opened) ∧
        (u.EntriesDistinct → u.LinesLive → u.StepEnds k st .unverified (u.turn (.leaving k))))) ∧
    ∀ x, (u.subSecond = 0 → exec (.linkTimeout x) u = .next (u.turn (.timeout x))) ∧
      (u.subSecond ≠ 0 → u.turn (.timeout x) = u) ∧
      ((u.port x).stallDue = false → u.turn (.stall x) = u) ∧
      ((u.port x).stallDue = true → (u.port x).stall = 231 → (u.port x).trans ≠ .none →
        exec (.busStall x) u = .next (u.turn (.stall x)))

/-! ### Rules of the whole part -/

/-- No command but a power-on reset makes a Wh count smaller. -/
def Obligations.EnergyNeverFalls : Prop :=
  ∀ (c : Instr) (s t : State) (k : Outlet), exec c s = .next t → (∀ straps, c ≠ .powerOnReset straps) →
    (s.energyOf k).importWh ≤ Config.whMax → (s.energyOf k).exportWh ≤ Config.whMax →
    (s.energyOf k).importWh ≤ (t.energyOf k).importWh ∧ (s.energyOf k).exportWh ≤ (t.energyOf k).exportWh

/-- Apart from a power-on reset, no setting changes without the configuration generation changing with it. -/
def Obligations.SettingsChangeWithGeneration : Prop :=
  ∀ (c : Instr) (s t : State), exec c s = .next t → (∀ straps, c ≠ .powerOnReset straps) →
    t.generation = s.generation → t.settings = s.settings

/-- Every step keeps each alert line following its queue and each queue at 16 events or fewer. -/
def Obligations.EveryStepKeepsAlertsFollowing : Prop :=
  ∀ s t : State, s.AlertsFollow → step s = .next t → t.AlertsFollow

/-- Every step keeps the Action Queue at 16 entries or fewer, with distinct ids and at most one entry for each outlet. -/
def Obligations.EveryStepKeepsQueueBounds : Prop :=
  ∀ s t : State, s.QueueFits → s.EntriesDistinct → step s = .next t → t.QueueFits ∧ t.EntriesDistinct

/-- Every step keeps the slots at four or fewer and every driven coil in a slot, so that at most four coils are pulsed. -/
def Obligations.EveryStepKeepsCoilSlots : Prop :=
  (∀ s t : State, s.SlotsFit → s.CoilsSlotted → step s = .next t → t.SlotsFit ∧ t.CoilsSlotted) ∧
    ∀ s : State, s.SlotsFit → s.CoilsSlotted → s.coilsDriven ≤ 4

/-- Every step keeps the holds with PRESENT links, the sweeps with pending and PRESENT links, and an ABSENT link without a
bank. That the silence timer of an ABSENT link stands at 0 is the model's reading (assumption 10). -/
def Obligations.EveryStepKeepsPresenceRules : Prop :=
  ∀ s t : State, s.HoldsPresent → s.SweepsPending → s.AbsentIsBare → step s = .next t →
    t.HoldsPresent ∧ t.SweepsPending ∧ t.AbsentIsBare

/-- Every step keeps every setting in its range or list, and these are R179's. -/
def Obligations.EveryStepKeepsSettingsInRange : Prop :=
  (∀ s t : State, s.SettingsInRange → step s = .next t → t.SettingsInRange) ∧
    ∀ (f : Feed) (b : Branch) (k : Outlet) (x : Link),
      Setting.noLoad.domain = .range 0 1000 ∧ Setting.creep.domain = .range 0 5000 ∧
      (Setting.vGain f).domain = .range 0 32767 ∧ (Setting.vOffset f).domain = .range (-2048) 2047 ∧
      (Setting.iGain k).domain = .range 0 32767 ∧ (Setting.iOffset k).domain = .range (-2048) 2047 ∧
      (Setting.windowExp f).domain = .range 3 7 ∧ (Setting.divider f).domain = .listed [1, 4, 16] ∧
      (Setting.branchFeed b).domain = .listed [0, 1, 2] ∧ (Setting.branchLimit b).domain = .range 0 32000 ∧
      (Setting.overCycles b).domain = .range 1 255 ∧ (Setting.stagger b).domain = .range 0 255 ∧
      (Setting.restartEnable b).domain = .listed [0, 1] ∧ (Setting.restartDelay b).domain = .range 1 255 ∧
      (Setting.restartLimit b).domain = .range 0 15 ∧ (Setting.outletBranch k).domain = .listed [0, 1, 2, 3, 4, 5] ∧
      (Setting.closeDelay k).domain = .range 0 191 ∧ (Setting.openDelay k).domain = .range 0 191 ∧
      (Setting.pulseLength k).domain = .range 8 255 ∧ (Setting.tripLevel k).domain = .range 0 31999 ∧
      (Setting.tripCycles k).domain = .range 1 255 ∧ (Setting.shedMode k).domain = .listed [0, 1, 2] ∧
      (Setting.monWindow k).domain = .range 0 255 ∧ (Setting.monAction k).domain = .listed [0, 1] ∧
      (Setting.retryLimit k).domain = .range 1 7 ∧ (Setting.stallBand k).domain = .range 0 100000 ∧
      (Setting.bootGrace k).domain = .range 1 255 ∧ (Setting.cycleOff k).domain = .range 1 255 ∧
      (Setting.badLimit x).domain = .range 1 15 ∧ (Setting.linkTimeout x).domain = .range 0 255

/-- Every step keeps every counter that a rule bounds within its bound: the sample-in-second, ages, runs, phases, acquisition,
stagger, restart and evidence counts, silences and the links' counts. -/
def Obligations.EveryStepKeepsCountersInBounds : Prop :=
  ∀ s t : State, s.CountersFit → step s = .next t → t.CountersFit

/-- Every step keeps the sums of the open cycles and windows and the energy registers in their ranges; with the settings in
theirs, the cycle sums lie within 206,145,847,488 and the window sums within 26,386,668,478,464 (R34). -/
def Obligations.EveryStepKeepsMeterSumsInRange : Prop :=
  (∀ s t : State, s.MeterSumsFit → step s = .next t → t.MeterSumsFit) ∧
    ∀ s : State, s.MeterSumsFit → s.SettingsInRange → ∀ k,
      (s.meter k).sp.natAbs ≤ 206145847488 ∧ (s.meter k).si ≤ 206145847488 ∧
        (s.meter k).wsp.natAbs ≤ 26386668478464 ∧ (s.meter k).wsi ≤ 26386668478464

/-! ### Frames and transactions -/

/-- A request frame is read back as the command and payload it was made of, and a frame with one byte changed, other than its
length byte, is not valid. -/
def Obligations.FrameDecodesAndChecks : Prop :=
  ∀ (code : Byte) (p : List Byte), p.length ≤ 32 → parseFrame (frameOf code p) = some (code, p) ∧
    ∀ (i : Nat) (b : Byte), i < p.length + 3 → i ≠ 1 → (frameOf code p)[i]? ≠ some b →
      parseFrame ((frameOf code p).set i b) = none

/-- A request sent byte by byte and ended by a START comes to the same as the request's row followed by that START,
whatever the link's latch, pending mark and presence. A request row as a whole transaction is the model's choice
(assumption 12). -/
def Obligations.ByteTransactionEqualsRequest : Prop :=
  ∀ (c : Instr) (x : Link) (code : Byte) (p : List Byte), c.request = some (x, code, p) → p.length ≤ 32 →
    ∀ (s : State) (a : BitVec 7) (r : Bool),
      execAll (.transactionStart x s.targetAddress false ::
        ((frameOf code p).map (.frameByte x) ++ [.transactionStart x a r])) s =
      execAll [c, .transactionStart x a r] s

/-- A valid frame whose command names no request is answered BAD_COMMAND, and a request with a payload of a length that
its command does not take BAD_LENGTH; neither changes anything else. The rows as whole transactions are the model's choice
(assumption 12). -/
def Obligations.BadCommandAndLengthAreAnswered : Prop :=
  (∀ (x : Link) (code : Byte) (p : List Byte) (s : State), s.Ready x → code ∉ requestCodes → p.length ≤ 32 →
    exec (.badCommand x code p) s = .next (s.answeredOnly x .badCommand code [])) ∧
  ∀ (c : Instr) (x : Link) (code : Byte) (p : List Byte) (s : State), c.request = some (x, code, p) → s.Ready x →
    p.length ≤ 32 → p.length ∉ payloadLengths code → exec c s = .next (s.answeredOnly x .badLength code [])

/-- BAD_FRAME from a ready link without a sweep is answered BAD_FRAME with the received command as echo and counted; at
the limit the link becomes DEGRADED, its holds lapse, and both links keep everything else of their ports but the events
posted. A length byte above 32 sets the latch as well. The row as a whole transaction, and the answer before the count,
are the model's choice (assumptions 11 and 12). -/
def Obligations.BadFrameIsAnsweredAndCounted : Prop :=
  ∀ (x : Link) (first : Byte) (rest : List Byte) (s : State), s.Ready x → (s.sweepEngine x).context = none →
    parseFrame (first :: rest) = none →
    ∃ t, exec (.badFrame x (first :: rest)) s = .next t ∧
      (t.port x).response = { status := .badFrame, echo := first, generation := s.generation, payload := [] } ∧
      (t.port x).badFrames = (if 255 ≤ (s.port x).badFrames then 255 else (s.port x).badFrames + 1) ∧
      (t.port x).silence = (s.port x).silence ∧ (t.port x).trans = .none ∧
      (t.port x).latch = (rest.head?.map fun l => decide (32 < l.toNat)).getD false ∧
      { t with holds := s.holds, ports := s.ports } = s ∧
      (((t.port x).badFrames < s.settings.badLimit.get x) →
        (t.port x).presence = .present ∧ t.holds = s.holds ∧ t.port x.other = s.port x.other) ∧
      ((s.settings.badLimit.get x ≤ (t.port x).badFrames) → (t.port x).presence = .degraded ∧ ∀ k,
        t.hold k = if s.hold k = some x then none else s.hold k)

/-- READ_TRANSACTION returns the buffer's bytes, then 0xFF, leaves the buffer and clears the latch; TRANSACTION_START with
no transaction in progress begins a write or a read at the part's own address and leaves the port as it is at another. The
row as a whole transaction is the model's choice (assumption 12). -/
def Obligations.ReadAndStartTransactions : Prop :=
  (∀ (x : Link) (count : Nat) (s : State), s.resetHeld = false → (s.port x).trans = .none →
    ∃ t, exec (.readTransaction x count) s = .next t ∧ (t.port x).readOut.length = count ∧
      (∀ i, i < count → (t.port x).readOut[i]? = some ((s.port x).response.bytes.getD i 0xFF)) ∧
      t = s.setPort x { s.port x with
        frame := [], overlong := false, latch := false, acked := true, readOut := (t.port x).readOut }) ∧
  ∀ (x : Link) (a : BitVec 7) (r : Bool) (s : State), s.resetHeld = false → (s.port x).trans = .none →
    exec (.transactionStart x a r) s = .next (s.setPort x
      (if a = s.targetAddress then
        { s.port x with trans := if r then .read else .write, frame := [], overlong := false, acked := true }
      else { s.port x with acked := false }))

/-- FRAME_BYTE in WRITE: the command byte refused by the latch or the pending mark, a length byte above 32 refused with
BAD_FRAME, bytes up to the CRC's place kept, and a byte after it refused with the frame over-long. In REFUSING every byte
is refused. That a byte outside a write has no effect is the model's choice (assumption 12). -/
def Obligations.FrameByteIsKeptOrRefused : Prop :=
  ∀ (x : Link) (byte : Byte) (s : State), s.resetHeld = false →
    ((s.port x).trans = .write → (s.port x).frame = [] →
      exec (.frameByte x byte) s = .next (s.setPort x
        (if (s.port x).latch = true ∨ ((s.port x).pendingMark = true ∧ byte ≠ 0x1C) then
          { s.port x with trans := .refusing, frame := [], overlong := false, latch := true, acked := false }
        else { s.port x with frame := [byte], acked := true }))) ∧
    (∀ code, (s.port x).trans = .write → (s.port x).frame = [code] → byte.toNat ≤ 32 →
      exec (.frameByte x byte) s = .next (s.setPort x { s.port x with frame := [code, byte], acked := true })) ∧
    (∀ code, (s.port x).trans = .write → (s.port x).frame = [code] → 32 < byte.toNat →
      (s.sweepEngine x).context = none →
      ∃ t, exec (.frameByte x byte) s = .next t ∧ (t.port x).trans = .refusing ∧ (t.port x).frame = [] ∧
        (t.port x).latch = true ∧ (t.port x).acked = false ∧
        (t.port x).response = { status := .badFrame, echo := code, generation := s.generation, payload := [] } ∧
        ((s.port x).badFrames < 255 → (t.port x).badFrames = (s.port x).badFrames + 1) ∧
        { t with holds := s.holds, ports := s.ports } = s) ∧
    (∀ code len rest, (s.port x).trans = .write → (s.port x).frame = code :: len :: rest →
      exec (.frameByte x byte) s = .next (s.setPort x
        (if rest.length ≤ len.toNat then
          { s.port x with frame := code :: len :: (rest ++ [byte]), acked := true }
        else { s.port x with overlong := true, acked := false }))) ∧
    ((s.port x).trans = .refusing →
      exec (.frameByte x byte) s = .next (s.setPort x { s.port x with acked := false })) ∧
    ((s.port x).trans = .none ∨ (s.port x).trans = .read → exec (.frameByte x byte) s = .next s)

/-- BUS_STALL with the count at 231 and a transaction in progress abandons it without a response and counts one bad frame;
LINK_TIMEOUT with the timer at the timeout makes the link ABSENT, with the departure's effects. Elsewhere neither does
anything. That nothing happens elsewhere is the model's choice (assumption 3), and the timer of an ABSENT link standing at
0 its reading (assumption 10). -/
def Obligations.StallAndTimeoutActOnTheLink : Prop :=
  (∀ (x : Link) (s : State), s.resetHeld = false → (s.port x).stall = 231 → (s.port x).trans ≠ .none →
    (s.sweepEngine x).context = none →
    ∃ t, exec (.busStall x) s = .next t ∧ (t.port x).trans = .none ∧ (t.port x).frame = [] ∧
      (t.port x).response = (s.port x).response ∧ (t.port x).latch = (s.port x).latch ∧ (t.port x).stall = 231 ∧
      ((s.port x).badFrames < 255 → (t.port x).badFrames = (s.port x).badFrames + 1) ∧
      { t with holds := s.holds, ports := s.ports } = s) ∧
  (∀ (x : Link) (s : State), (s.port x).stall < 231 ∨ (s.port x).trans = .none →
    exec (.busStall x) s = .next s) ∧
  (∀ (x : Link) (s : State), s.resetHeld = false → (s.port x).presence ≠ .absent →
    0 < s.settings.linkTimeout.get x → s.settings.linkTimeout.get x ≤ (s.port x).silence →
    ∃ t, exec (.linkTimeout x) s = .next t ∧ (t.port x).presence = .absent ∧ (t.port x).silence = 0 ∧
      (t.bankPort x).bank = none ∧ (t.bankPort x).counter = (s.bankPort x).counter ∧
      t.bankPort x.other = s.bankPort x.other ∧ (t.port x.other).presence = (s.port x.other).presence ∧
      ((s.port x).presence = .present → (t.sweepEngine x).context = none ∧
        ∀ k, t.hold k = if s.hold k = some x then none else s.hold k) ∧
      ((s.port x).presence = .degraded → t.holds = s.holds ∧ t.sweepEngine x = s.sweepEngine x) ∧
      { t with holds := s.holds, sweeps := s.sweeps, banks := s.banks, ports := s.ports } = s) ∧
  ∀ (x : Link) (s : State), (s.port x).presence = .absent ∨ s.settings.linkTimeout.get x = 0 ∨
    (s.port x).silence < s.settings.linkTimeout.get x → exec (.linkTimeout x) s = .next s

/-- A request whose command byte the latch or the pending mark refuses sets the latch and does nothing else. The row as a
whole transaction is the model's choice (assumption 12). -/
def Obligations.RefusedCommandOnlySetsLatch : Prop :=
  ∀ (c : Instr) (x : Link) (code : Byte) (p : List Byte) (s : State), c.request = some (x, code, p) →
    s.resetHeld = false → (s.port x).trans = .none →
    (s.port x).latch = true ∨ ((s.port x).pendingMark = true ∧ code ≠ 0x1C) →
    exec c s = .next (s.setPort x
      { s.port x with frame := [], overlong := false, latch := true, acked := false })

/-- A request from a link that is not PRESENT is judged exactly as from the same link PRESENT with its counts at 0, PEER_LINK
having been offered to the other link. -/
def Obligations.FirstValidFrameMakesPresent : Prop :=
  ∀ (c : Instr) (x : Link) (code : Byte) (p : List Byte) (s : State), c.request = some (x, code, p) → p.length ≤ 32 →
    s.resetHeld = false → (s.port x).trans = .none → (s.port x).latch = false → (s.port x).pendingMark = false →
    (s.port x).presence ≠ .present →
    ∃ u : State, u = (s.setPort x { s.port x with presence := .present, badFrames := 0, silence := 0 }).setPort x.other
        ((s.port x.other).offer { body := .peerLink x .present (s.port x).presence, source := EventOrigin.nobody,
                                  stamp := s.stamp }) ∧
      u.Ready x ∧ exec c s = exec c u

/-! ### Reading requests -/

/-- STATUS, OUTLET_READ, FEED_READ and BRANCH_READ answer OK with the fields of R187 as they stand, in its order and widths,
an absent field reading 0, and change nothing else; a page, part, outlet, feed or branch out of range is refused BAD_VALUE. -/
def Obligations.ReadsReportAndChangeNothing : Prop :=
  ∀ (x : Link) (s : State), s.Ready x →
    let bit := fun (weight : Nat) (b : Bool) => if b = true then weight else 0
    let mask := fun (p : Outlet → Bool) => maskBytes (tab24 p)
    let stamp := fun (t : Timestamp) => bytes4 t.seconds.toNat ++ bytes2 t.sub
    let flags := fun (clip noLoad synthetic : Bool) => byteOf (bit 1 clip + bit 2 noLoad + bit 4 synthetic)
    let spread := fun (p : Option (Int × Int)) => match p with
      | none => List.replicate 8 (0 : Byte)
      | some (lo, hi) => signed4 lo ++ signed4 hi
    (∃ r, r.length = 39 ∧
      r = bytes4 s.sampleCounter.toNat ++ stamp { seconds := s.seconds, sub := s.subSecond } ++
        [byteOf (s.port .a).presence.code, byteOf (s.port .b).presence.code, byteOf (s.port x).events.length,
         byteOf (bit 1 (s.port x).overflow),
         byteOf (s.tracker 0).state.code, byteOf (s.tracker 1).state.code, byteOf (s.tracker 2).state.code,
         byteOf (s.protection 0).state.code, byteOf (s.protection 1).state.code, byteOf (s.protection 2).state.code,
         byteOf (s.protection 3).state.code, byteOf (s.protection 4).state.code, byteOf (s.protection 5).state.code,
         byteOf s.entries.length] ++
        mask (fun k => s.hold k == some .a) ++ mask (fun k => s.hold k == some .b) ++
        mask (fun k => s.contact k == .closed) ++ mask (fun k => s.contact k == .unknown) ++
        mask (fun k => (s.driver k).fault != none) ∧
      exec (.status x [0]) s = .next (s.answeredOnly x .ok 0x01 r)) ∧
    exec (.status x [1]) s = .next (s.answeredOnly x .ok 0x01
      (byteOf s.entries.length :: s.entries.flatMap fun e =>
        [e.id, byteOf (e.outlet.val * 4 + e.kind.code),
         byteOf (e.phase.code * 16 + originCode (some e.origin) * 2 + bit 1 e.sweep)])) ∧
    (∀ page : Byte, 1 < page.toNat → exec (.status x [page]) s = .next (s.answeredOnly x .badValue 0x01 [])) ∧
    (∀ (n : Byte) (k : Outlet), n.toNat = k.val →
      let e := s.entryOf k
      let m := s.monitor k
      (∃ r, r.length = 35 ∧
        r = [byteOf (s.branchOf k).val, byteOf (s.feedOf k).val, byteOf (s.contact k).code,
            byteOf (s.driver k).state.code, byteOf (faultCode (s.driver k).fault), byteOf (holdCode (s.hold k)),
            byteOf (bit 1 (s.isTripped k) + bit 2 (decide (s.age k < 192)) + bit 4 e.isSome +
              bit 8 ((e.map (·.sweep)).getD false) + bit 16 (e.bind (·.tag)).isSome +
              bit 32 (decide (¬(s.contact k = .closed ∧ e = none ∧ (s.driver k).fault = none))) +
              bit 64 m.placementPending + bit 128 m.activeMark)] ++
          (match e with
            | none => List.replicate 7 (0 : Byte)
            | some e => [e.id, byteOf e.kind.code, byteOf (originCode (some e.origin)), e.tag.getD 0, byteOf e.offTime,
                byteOf e.phase.code, byteOf (if e.phase = .offHold then e.offHold else 0)]) ++
          [byteOf m.state.code] ++ bytes4 m.silence ++ bytes4 (look s.settings.monWindow k * 3840) ++
          [byteOf m.retries, byteOf m.evidence] ++ spread m.spread ++
          bytes2 (if m.state = .grace then m.grace else 0) ∧
        exec (.outletRead x [n, 0]) s = .next (s.answeredOnly x .ok 0x02 r)) ∧
      (∃ r, r.length = 45 ∧
        r = [byteOf (bit 1 (s.meter k).cycleResult.isSome + bit 2 (s.meter k).windowResult.isSome)] ++
          (match (s.meter k).cycleResult with
            | none => List.replicate 20 (0 : Byte)
            | some c => signed4 c.pmW ++ bytes2 c.imA ++ bytes4 c.smVA ++ signed2 c.pf ++
                [byteOf c.n, flags c.clip c.noLoad c.synthetic] ++ stamp c.stamp) ++
          (match (s.meter k).windowResult with
            | none => List.replicate 22 (0 : Byte)
            | some c => signed4 c.pmW ++ bytes2 c.imA ++ bytes4 c.smVA ++ signed2 c.pf ++ bytes2 c.total ++
                [byteOf c.length, flags c.clip c.noLoad c.synthetic] ++ stamp c.stamp) ++
          bytes2 (s.meter k).remembered ∧
        exec (.outletRead x [n, 1]) s = .next (s.answeredOnly x .ok 0x02 r)) ∧
      ∀ part : Byte, 1 < part.toNat → exec (.outletRead x [n, part]) s = .next (s.answeredOnly x .badValue 0x02 [])) ∧
    (∀ n part : Byte, 23 < n.toNat → exec (.outletRead x [n, part]) s = .next (s.answeredOnly x .badValue 0x02 [])) ∧
    (∀ (n : Byte) (f : Feed), n.toNat = f.val →
      let t := s.tracker f
      ∃ r, r.length = 35 ∧
        r = [byteOf t.state.code] ++ bytes2 t.phase ++
          [byteOf t.tp, byteOf (bit 1 t.lastCrossing.isSome + bit 2 t.cycleResult.isSome + bit 4 t.windowResult.isSome +
            bit 8 t.frequency.isSome)] ++
          (match t.lastCrossing with
            | none => List.replicate 5 (0 : Byte)
            | some c => bytes5 c.toNat) ++
          (match t.cycleResult with
            | none => List.replicate 4 (0 : Byte)
            | some c => bytes2 c.vcV ++ [byteOf c.n, flags c.clip false c.synthetic]) ++
          (match t.windowResult with
            | none => List.replicate 6 (0 : Byte)
            | some c => bytes2 c.vcV ++ bytes2 c.total ++ [byteOf c.length, flags c.clip false c.synthetic]) ++
          [byteOf (look s.settings.windowExp f), byteOf t.win.count, byteOf (look s.settings.divider f),
           byteOf t.inRange] ++
          (match t.frequency with
            | none => List.replicate 11 (0 : Byte)
            | some c => bytes4 c.mHz ++ [byteOf c.divider] ++ stamp c.stamp) ∧
        exec (.feedRead x [n]) s = .next (s.answeredOnly x .ok 0x03 r)) ∧
    (∀ n : Byte, 2 < n.toNat → exec (.feedRead x [n]) s = .next (s.answeredOnly x .badValue 0x03 [])) ∧
    (∀ (n : Byte) (b : Branch), n.toNat = b.val →
      let p := s.protection b
      let q := s.sequencer b
      ∃ r, r.length = 21 + q.line.length + (s.outletsOf b).length ∧
        r = [byteOf p.state.code,
            byteOf (bit 1 p.overcurrent + bit 2 p.breaker + bit 4 p.manual +
              bit 16 (decide ((s.breaker b).level = some .opened))),
            byteOf (s.branchFeedOf b).val,
            byteOf (bit 1 p.manualMark + bit 2 p.exhaustedMark + bit 4 p.sum.isSome + bit 8 q.inProgress.isSome +
              bit 16 q.pulseMark)] ++
          bytes3 (p.sum.getD 0) ++ [byteOf p.overRun, byteOf p.restartCount, byteOf p.restartTimer] ++
          maskBytes p.victims ++ mask (fun k => s.branchOf k == b) ++
          [q.inProgress.getD 0, byteOf q.stagger, byteOf (look s.settings.staggerSet b), byteOf q.reason.code,
           byteOf q.line.length] ++ q.line ++
          (s.outletsOf b).map (fun k => byteOf ((look s.settings.shedMode k).code * 64 +
            if 63 ≤ s.tripRun k then 63 else s.tripRun k)) ∧
        exec (.branchRead x [n]) s = .next (s.answeredOnly x .ok 0x04 r)) ∧
    ∀ n : Byte, 5 < n.toNat → exec (.branchRead x [n]) s = .next (s.answeredOnly x .badValue 0x04 [])

/-- EVENTS_READ carries the oldest events, at most four and at most 61 bytes of them, and at least one of a queue that is not
empty; it stops only at four, at the queue's end or at an event that does not fit; the rest stays, the overflow flag is
reported and cleared, and the alert line follows. -/
def Obligations.EventsReadDrainsOldestFirst : Prop :=
  ∀ (x : Link) (s : State), s.Ready x →
    ∃ taken left : List Event, (s.port x).events = taken ++ left ∧ taken.length ≤ 4 ∧
      ((taken.map Event.bytes).flatten).length ≤ 61 ∧ ((s.port x).events ≠ [] → taken ≠ []) ∧
      (taken.length = 4 ∨ left = [] ∨ ∃ e, left.head? = some e ∧
        61 < ((taken.map Event.bytes).flatten).length + e.bytes.length) ∧
      exec (.eventsRead x []) s = .next (s.setPort x
        { (s.port x).after .ok 0x05 s.generation
            ([byteOf taken.length, byteOf left.length, byteOf (if (s.port x).overflow then 1 else 0)] ++
              (taken.map Event.bytes).flatten) with
          events := left, overflow := false, alert := !left.isEmpty })

/-- ENERGY_READ checks the page, then the bank, and answers 64 bytes: the number and timestamp of the snapshot and the copied
registers of outlets 4p to 4p + 3, remainders as mWh. -/
def Obligations.EnergyReadReturnsPage : Prop :=
  ∀ (x : Link) (s : State), s.Ready x →
    (∀ n : Byte, 5 < n.toNat → exec (.energyRead x [n]) s = .next (s.answeredOnly x .badValue 0x06 [])) ∧
    (∀ n : Byte, n.toNat ≤ 5 → (s.bankPort x).bank = none →
      exec (.energyRead x [n]) s = .next (s.answeredOnly x .noSnapshot 0x06 [])) ∧
    ∀ (n : Byte) (b : Bank) (k0 k1 k2 k3 : Outlet), (s.bankPort x).bank = some b → k0.val = 4 * n.toNat →
      k1.val = 4 * n.toNat + 1 → k2.val = 4 * n.toNat + 2 → k3.val = 4 * n.toNat + 3 →
      let row := fun k : Outlet => bytes5 (look b.copies k).importWh ++
        bytes2 ((look b.copies k).importRem * 1000 / 1811939328000) ++ bytes5 (look b.copies k).exportWh ++
        bytes2 ((look b.copies k).exportRem * 1000 / 1811939328000)
      let page := bytes2 b.sequence.toNat ++ b.stamp.bytes ++ row k0 ++ row k1 ++ row k2 ++ row k3
      page.length = 64 ∧ exec (.energyRead x [n]) s = .next (s.answeredOnly x .ok 0x06 page)

/-! ### Settings -/

/-- SETTING_READ answers the id, the index and the value stored, and refuses an unknown id or an index beyond the scope. -/
def Obligations.SettingReadReturnsStoredValue : Prop :=
  ∀ (x : Link) (id index : Byte) (s : State), s.Ready x →
    (∀ t : Setting, settingFrom id index = some t →
      exec (.settingRead x [id, index]) s =
        .next (s.answeredOnly x .ok 0x07 ([id, index] ++ signed4 (s.settings.read t)))) ∧
    (settingFrom id index = none → exec (.settingRead x [id, index]) s = .next (s.answeredOnly x .badValue 0x07 []))

/-- SETTING_WRITE of a value that the setting takes, or the nearer limit of its range (of a range lo to hi, the larger of lo and
the smaller of hi and the value), is stored, raises the generation and is answered OK or CLAMPED with the value as stored,
every other setting as it was; a value not listed, an unknown id or an
index beyond the scope is refused BAD_VALUE, and a map change while queue work depends on the map MAP_BUSY. CONFIG_CHANGED
goes to both links. A change of a window exponent discards the feed's and its meters' windows (R26, R45), of a divider the
anchor (R28), of an outlet's feed the meter's cycle and window (R46), of the map the runs (R127, R138) and a moved outlet's
place among the victims (R132), of a monitor's window its state (R153); restart enable may begin a restart (R133), and a
written limit or stagger tests the head (R105). A write that changes nothing does none of this but the test. That
CONFIG_CHANGED comes ahead of a move's own events is the model's reading (assumption 13). -/
def Obligations.SettingWriteStoresOrRefuses : Prop :=
  ∀ (x : Link) (id index v3 v2 v1 v0 : Byte) (s : State), s.Ready x →
    (settingFrom id index = none →
      exec (.settingWrite x [id, index, v3, v2, v1, v0]) s = .next (s.answeredOnly x .badValue 0x1A [])) ∧
    ∀ t : Setting, settingFrom id index = some t →
      let busy := (∃ k, t = .outletBranch k ∧ s.entryOf k ≠ none) ∨ ∃ b, t = .branchFeed b ∧
        ((s.protection b).state ≠ .normal ∨ ∃ k, s.branchOf k = b ∧ s.entryOf k ≠ none)
      (∀ vs, t.domain = .listed vs → number4 v3 v2 v1 v0 ∉ vs →
        exec (.settingWrite x [id, index, v3, v2, v1, v0]) s = .next (s.answeredOnly x .badValue 0x1A [])) ∧
      (∀ vs, t.domain = .listed vs → number4 v3 v2 v1 v0 ∈ vs → s.settings.read t ≠ number4 v3 v2 v1 v0 →
        busy →
        exec (.settingWrite x [id, index, v3, v2, v1, v0]) s = .next (s.answeredOnly x .mapBusy 0x1A [])) ∧
      ∀ w st, t.domain.fit (number4 v3 v2 v1 v0) = some (w, st) → (s.settings.read t = w ∨ ¬busy) →
        (∀ lo hi, t.domain = .range lo hi → w = max lo (min hi (number4 v3 v2 v1 v0))) ∧
        t.domain.admits w ∧ (t.domain.admits (number4 v3 v2 v1 v0) → w = number4 v3 v2 v1 v0 ∧ st = .ok) ∧
        (¬t.domain.admits (number4 v3 v2 v1 v0) → st = .clamped) ∧
        ∃ u, exec (.settingWrite x [id, index, v3, v2, v1, v0]) s = .next u ∧
          let changed := s.settings.read t ≠ w
          let e : Event := { body := .configChanged id index x w, source := EventOrigin.nobody, stamp := s.stamp }
          u.settings.read t = w ∧
          (∀ t', t' ≠ t → u.settings.read t' = s.settings.read t') ∧ u.generation = s.generation + 1 ∧
          (u.port x).response =
            { status := st, echo := 0x1A, generation := s.generation + 1, payload := [id, index] ++ signed4 w } ∧
          ((∀ k, t ≠ .outletBranch k) →
            u.port x = ((s.port x).after st 0x1A (s.generation + 1) ([id, index] ++ signed4 w)).offer e ∧
            u.port x.other = (s.port x.other).offer e) ∧
          (∃ es : List Event, u.port x.other = es.foldl Port.offer ((s.port x.other).offer e)) ∧
          (∀ f, u.tracker f =
            if changed ∧ t = .windowExp f then { s.tracker f with win :=
              { count := 0, sv := 0, total := 0, clip := false, synthetic := false, skip := true } }
            else if changed ∧ t = .divider f then { s.tracker f with anchor := none, inRange := 0 }
            else s.tracker f) ∧
          (∀ k, u.meter k =
            if changed ∧ t = .windowExp (s.feedOf k) then { s.meter k with wsp := 0, wsi := 0, wclip := false }
            else if u.feedOf k ≠ s.feedOf k then { s.meter k with
              sp := 0, si := 0, clip := false, skip := true, wsp := 0, wsi := 0, wclip := false, waiting := true }
            else s.meter k) ∧
          (∀ k, u.tripRun k =
            if changed ∧ (t = .branchFeed (s.branchOf k) ∨ t = .outletBranch k) then 0 else s.tripRun k) ∧
          (∀ k, u.monitor k =
            if changed ∧ t = .monWindow k then
              { state := if w = 0 then .off else .idle, silence := 0, retries := 0, evidence := 0, spread := none,
                placementPending := false, activeMark := false, grace := 0 }
            else s.monitor k) ∧
          ((∀ k, t ≠ .outletBranch k) → ∀ b, u.protection b =
            if changed ∧ t = .branchFeed b then { s.protection b with overRun := 0 }
            else if changed ∧ t = .restartEnable b ∧ w = 1 ∧ (s.protection b).state = .shed ∧
              (s.protection b).overcurrent = false ∧ (s.protection b).breaker = false ∧
              (s.protection b).manual = false ∧ (s.protection b).manualMark = false ∧
              (s.protection b).exhaustedMark = false then
              { s.protection b with state := .restartWait, restartTimer := look s.settings.restartDelay b }
            else s.protection b) ∧
          (∀ k, t = .outletBranch k → (changed → (s.protection (s.branchOf k)).state ≠ .normal →
              look (u.protection (s.branchOf k)).victims k = false) ∧
            (¬changed → u.protections = s.protections) ∧ ∀ b, b ≠ s.branchOf k → u.protection b = s.protection b) ∧
          (∀ b, t = .branchLimit b ∨ t = .stagger b → ∃ v, exec (.admission b) (s.setSettings u.settings) = .next v ∧
            u.sequencers = v.sequencers ∧ u.entries = v.entries ∧ u.drivers = v.drivers) ∧
          ((∀ b k, t ≠ .branchLimit b ∧ t ≠ .stagger b ∧ t ≠ .outletBranch k) →
            u.sequencers = s.sequencers ∧ u.entries = s.entries ∧ u.drivers = s.drivers) ∧
          u.energy = s.energy ∧ u.holds = s.holds ∧ u.sweeps = s.sweeps ∧ u.banks = s.banks ∧ u.slots = s.slots ∧
          u.tripped = s.tripped ∧ u.breakers = s.breakers ∧ u.senseAge = s.senseAge ∧ u.handed = s.handed ∧
          u.targetAddress = s.targetAddress ∧ u.pending = s.pending

/-! ### Switching requests -/

/-- SWITCH on a free outlet: an OPEN, CLOSE or CYCLE that passes the checks of R72 places one entry with the next free id,
answered OK or CLAMPED with that id. It stands in QUEUED behind a busy driver, and otherwise has taken its first step: an
open step handed over, an off hold begun, or the waiting line joined. An OPEN takes the outlet out of the victims of a branch
that is not NORMAL (R132). No other outlet's hold or tripped flag changes, nor its entry where the branch is NORMAL: an OPEN
that takes the last victim ends a restoration and may let a close in (R136). -/
def Obligations.SwitchPlacesOneEntry : Prop :=
  ∀ (x : Link) (o n h l : Byte) (tag : Option Byte) (k : Outlet) (kind : Kind) (s : State), s.Ready x →
    outletFrom o = some k → kindFrom n = some kind → s.heldByOther x k = false → (s.driver k).fault = none →
    (kind = .opening ∨ (s.protection (s.branchOf k)).state = .normal) → s.entryOf k = none →
    ¬((s.driver k).state = .idle ∧ (kind = .opening ∧ s.contact k = .opened ∨ kind = .closing ∧ s.contact k = .closed)) →
    s.entries.length < 16 → s.EntriesDistinct → s.LinesLive →
    ∃ u e, exec (.switch x ([o, n, h, l] ++ tag.toList)) s = .next u ∧ u.entryOf k = some e ∧
      (∀ e', e' ∈ s.entries → e'.id ≠ e.id) ∧ e.kind = kind ∧ e.origin = originOf x ∧ e.sweep = false ∧ e.tag = tag ∧
      (kind = .cycle → number2 h l = 0 → e.offTime = look s.settings.cycleOff k) ∧
      (kind = .cycle → number2 h l ≠ 0 → e.offTime = min (number2 h l) 255) ∧ u.nextId = e.id + 1 ∧
      (s.answeredOnly x (if kind = .cycle ∧ 255 < number2 h l then .clamped else .ok) 0x10 [e.id]).ActsOnly u ∧
      ((s.driver k).state ≠ .idle → e.phase = .queued ∧ e.begun = false ∧ u.driver k = s.driver k) ∧
      ((s.driver k).state = .idle → (kind = .opening ∨ kind = .cycle ∧ s.contact k ≠ .opened) →
        e.phase = .opening ∧ e.begun = true ∧
        (u.driver k).state = if (s.tracker (s.feedOf k)).state = .tracking then .waitPhase else .waitSlot) ∧
      ((s.driver k).state = .idle → kind = .cycle → s.contact k = .opened →
        e.phase = .offHold ∧ e.begun = true ∧ e.offHold = e.offTime) ∧
      ((s.driver k).state = .idle → kind = .closing → e.phase = .waitAdmit ∨ e.phase = .closing) ∧
      ((s.protection (s.branchOf k)).state = .normal → u.entries.filter (fun e' => e'.outlet != k) = s.entries) ∧
      (kind = .opening → s.VictimLeaves k u) ∧ (kind ≠ .opening → u.protections = s.protections) ∧
      ∀ j, u.isTripped j = if j = k ∧ kind ≠ .opening then false else s.isTripped j

/-- The refusals of SWITCH in the order of R72: BAD_VALUE, HELD, FAULTED, SHED, ALREADY and QUEUE_FULL, each changing nothing
but the answer, and for ALREADY the tripped flag that a CLOSE clears and the place among the victims of a branch that is not
NORMAL that an OPEN gives up (R83, R132). -/
def Obligations.SwitchRefusesInOrder : Prop :=
  ∀ (x : Link) (o n h l : Byte) (tag : Option Byte) (s : State), s.Ready x →
    (outletFrom o = none ∨ kindFrom n = none →
      exec (.switch x ([o, n, h, l] ++ tag.toList)) s = .next (s.answeredOnly x .badValue 0x10 [])) ∧
    ∀ (k : Outlet) (kind : Kind), outletFrom o = some k → kindFrom n = some kind →
      (s.hold k = some x.other →
        exec (.switch x ([o, n, h, l] ++ tag.toList)) s = .next (s.answeredOnly x .held 0x10 [])) ∧
      (s.hold k ≠ some x.other → (s.driver k).fault ≠ none →
        exec (.switch x ([o, n, h, l] ++ tag.toList)) s = .next (s.answeredOnly x .faulted 0x10 [])) ∧
      (s.hold k ≠ some x.other → (s.driver k).fault = none → kind ≠ .opening →
        (s.protection (s.branchOf k)).state ≠ .normal →
        exec (.switch x ([o, n, h, l] ++ tag.toList)) s = .next (s.answeredOnly x .shed 0x10 [])) ∧
      (s.hold k ≠ some x.other → (s.driver k).fault = none →
        kind = .opening ∨ (s.protection (s.branchOf k)).state = .normal → s.entryOf k = none →
        ((s.driver k).state = .idle → kind = .opening → s.contact k = .opened →
          ∃ t, exec (.switch x ([o, n, h, l] ++ tag.toList)) s = .next t ∧ s.VictimLeaves k t ∧
            (s.answeredOnly x .already 0x10 []).ActsOnly t ∧ t.tripped = s.tripped ∧ t.nextId = s.nextId ∧
            ((s.protection (s.branchOf k)).state = .normal ∨ look (s.protection (s.branchOf k)).victims k = false →
              t = s.answeredOnly x .already 0x10 [])) ∧
        ((s.driver k).state = .idle → kind = .closing → s.contact k = .closed →
          exec (.switch x ([o, n, h, l] ++ tag.toList)) s =
            .next ((s.setTripped k false).answeredOnly x .already 0x10 [])) ∧
        (¬((s.driver k).state = .idle ∧
            (kind = .opening ∧ s.contact k = .opened ∨ kind = .closing ∧ s.contact k = .closed)) →
          16 ≤ s.entries.length →
          exec (.switch x ([o, n, h, l] ++ tag.toList)) s = .next (s.answeredOnly x .queueFull 0x10 [])))

/-- SWITCH on an outlet that has an entry (R73): an entry of the same kind without the pre-emption mark is joined; one not
begun of another kind is superseded by a new one, which ends at once where an idle contact is its target; a CYCLE in its off
hold or waiting is cut by an OPEN; any other entry is busy and stays. An OPEN that is not refused takes the outlet out of the
victims of a branch that is not NORMAL (R132), and a monitor's own CYCLE that ends so returns it to WATCHING (R150). -/
def Obligations.SwitchMeetsExistingEntry : Prop :=
  ∀ (x : Link) (o n h l : Byte) (tag : Option Byte) (k : Outlet) (kind : Kind) (e : Entry) (s : State), s.Ready x →
    outletFrom o = some k → kindFrom n = some kind → s.heldByOther x k = false → (s.driver k).fault = none →
    (kind = .opening ∨ (s.protection (s.branchOf k)).state = .normal) → s.entryOf k = some e → s.EntriesDistinct →
    s.entries.length ≤ 16 →
    (e.kind = kind → e.preempt = false → ∃ u, exec (.switch x ([o, n, h, l] ++ tag.toList)) s = .next u ∧
      (s.answeredOnly x .joined 0x10 [e.id]).ActsOnly u ∧ (kind = .opening → s.VictimLeaves k u) ∧
      (kind ≠ .opening → u = (s.setTripped k false).answeredOnly x .joined 0x10 [e.id])) ∧
    (e.kind ≠ kind → e.begun = false → ∃ u id, exec (.switch x ([o, n, h, l] ++ tag.toList)) s = .next u ∧
      (s.answeredOnly x (if kind = .cycle ∧ 255 < number2 h l then .clamped else .ok) 0x10 [id]).ActsOnly u ∧
      (∀ e', e' ∈ u.entries → e'.outlet = k → e'.id = id ∧ e'.kind = kind ∧ e'.origin = originOf x ∧ e'.tag = tag) ∧
      (kind = .opening → s.VictimLeaves k u) ∧ (kind ≠ .opening → u.protections = s.protections) ∧
      (u.entryOf k ≠ none → u.monitor k =
        (s.monitor k).afterEnd e.kind e.origin .superseded (look s.settings.bootGrace k)) ∧
      (u.entryOf k = none → (s.driver k).state = .idle ∧
        (kind = .opening ∧ s.contact k = .opened ∨ kind = .closing ∧ s.contact k = .closed))) ∧
    (e.kind = .cycle → e.begun = true → e.phase = .offHold ∨ e.phase = .waitAdmit → kind = .opening →
      ∃ u, exec (.switch x ([o, n, h, l] ++ tag.toList)) s = .next u ∧ u.entryOf k = none ∧ s.VictimLeaves k u ∧
        u.monitor k = (s.monitor k).afterEnd e.kind e.origin .cut (look s.settings.bootGrace k) ∧
        (s.answeredOnly x .already 0x10 []).ActsOnly u) ∧
    (¬(e.kind = kind ∧ e.preempt = false) → ¬(e.begun = false ∧ e.kind ≠ kind) →
      ¬(e.kind = .cycle ∧ (e.phase = .offHold ∨ e.phase = .waitAdmit) ∧ kind = .opening) →
      exec (.switch x ([o, n, h, l] ++ tag.toList)) s = .next (s.answeredOnly x .busyOutlet 0x10 [e.id]))

/-- CANCEL: an entry not begun, or a CYCLE in its off hold or waiting, leaves the queue CANCELLED or CUT, with ACTION_ENDED and
the monitor's part (R80, R81, R150), and is answered OK with its id; any other entry is busy; no entry is ALREADY; the other link's hold refuses it. -/
def Obligations.CancelEndsOrRefuses : Prop :=
  ∀ (x : Link) (n : Byte) (s : State), s.Ready x →
    (23 < n.toNat → exec (.cancel x [n]) s = .next (s.answeredOnly x .badValue 0x11 [])) ∧
    ∀ k : Outlet, n.toNat = k.val →
      (s.hold k = some x.other → exec (.cancel x [n]) s = .next (s.answeredOnly x .held 0x11 [])) ∧
      (s.hold k ≠ some x.other → s.entryOf k = none →
        exec (.cancel x [n]) s = .next (s.answeredOnly x .already 0x11 [])) ∧
      ∀ e, s.hold k ≠ some x.other → s.entryOf k = some e →
        ((e.begun = false ∨ e.kind = .cycle ∧ (e.phase = .offHold ∨ e.phase = .waitAdmit)) → s.EntriesDistinct →
          ∃ u, exec (.cancel x [n]) s = .next u ∧ u.entryOf k = none ∧
            u.entries.map (·.outlet) = (s.entries.map (·.outlet)).erase k ∧
            (s.answeredOnly x .ok 0x11 [e.id]).ActsOnly u ∧
            (∃ after, after = (s.answeredOnly x .ok 0x11 [e.id]).ended e
                (if e.begun = false then .cancelled else .cut) .none ∧
              u.ports = after.ports ∧ u.monitors = after.monitors) ∧ u.tripped = s.tripped ∧ u.tripRuns = s.tripRuns ∧
            u.protections = s.protections ∧ u.meters = s.meters ∧ u.slots = s.slots) ∧
        (e.begun = true → ¬(e.kind = .cycle ∧ (e.phase = .offHold ∨ e.phase = .waitAdmit)) →
          exec (.cancel x [n]) s = .next (s.answeredOnly x .busyOutlet 0x11 [e.id]))

/-- HOLD: each unheld outlet of the mask becomes held by the link, every other hold stays, and the answer carries the masks of
outlets newly held and of outlets the other link holds; no entry is placed and no event posted. -/
def Obligations.HoldReservesUnheldOutlets : Prop :=
  ∀ (x : Link) (a b c : Byte) (s : State), s.Ready x →
    ∃ (t : State) (newly refused : Vector Bool 24), exec (.hold x [a, b, c]) s = .next t ∧
      (∀ k, look newly k = ((a ++ b ++ c : BitVec 24).getLsbD k.val && (s.hold k).isNone)) ∧
      (∀ k, look refused k = ((a ++ b ++ c : BitVec 24).getLsbD k.val && decide (s.hold k = some x.other))) ∧
      (∀ k, t.hold k = if look newly k then some x else s.hold k) ∧
      t = { s.answeredOnly x .ok 0x12 (maskBytes newly ++ maskBytes refused) with holds := t.holds }

/-- RELEASE: each outlet of the mask held by the link becomes unheld, every other hold stays, and the answer carries the mask
of outlets released; no event is posted. -/
def Obligations.ReleaseFreesOwnHolds : Prop :=
  ∀ (x : Link) (a b c : Byte) (s : State), s.Ready x →
    ∃ (t : State) (freed : Vector Bool 24), exec (.release x [a, b, c]) s = .next t ∧
      (∀ k, look freed k = ((a ++ b ++ c : BitVec 24).getLsbD k.val && decide (s.hold k = some x))) ∧
      (∀ k, t.hold k = if look freed k then none else s.hold k) ∧
      t = { s.answeredOnly x .ok 0x13 (maskBytes freed) with holds := t.holds }

/-- HEARTBEAT, whatever the holds: every monitor of the mask that is not OFF is WATCHING with everything cleared, every other
monitor is as it was, and the answer carries the mask of the first. MONITOR_RESET of a monitor that is not OFF: IDLE with
everything cleared; OFF is ALREADY, the other link's hold HELD, an outlet above 23 BAD_VALUE. -/
def Obligations.HeartbeatAndResetClearMonitors : Prop :=
  (∀ (x : Link) (a b c : Byte) (s : State), s.Ready x →
    ∃ (t : State) (reached : Vector Bool 24), exec (.heartbeat x [a, b, c]) s = .next t ∧
      (∀ k, look reached k = ((a ++ b ++ c : BitVec 24).getLsbD k.val && decide ((s.monitor k).state ≠ .off))) ∧
      (∀ k, t.monitor k = if look reached k then
        { state := .watching, silence := 0, retries := 0, evidence := 0, spread := none, placementPending := false,
          activeMark := false, grace := 0 } else s.monitor k) ∧
      t = { s.answeredOnly x .ok 0x14 (maskBytes reached) with monitors := t.monitors }) ∧
  ∀ (x : Link) (n : Byte) (s : State), s.Ready x →
    (23 < n.toNat → exec (.monitorReset x [n]) s = .next (s.answeredOnly x .badValue 0x19 [])) ∧
    ∀ k : Outlet, n.toNat = k.val →
      (s.hold k = some x.other → exec (.monitorReset x [n]) s = .next (s.answeredOnly x .held 0x19 [])) ∧
      (s.hold k ≠ some x.other → (s.monitor k).state = .off →
        exec (.monitorReset x [n]) s = .next (s.answeredOnly x .already 0x19 [])) ∧
      (s.hold k ≠ some x.other → (s.monitor k).state ≠ .off →
        exec (.monitorReset x [n]) s = .next ((s.setMonitor k
          { state := .idle, silence := 0, retries := 0, evidence := 0, spread := none, placementPending := false,
            activeMark := false, grace := 0 }).answeredOnly x .ok 0x19 []))

/-- SNAPSHOT copies the energy registers of every outlet into the link's own bank with the next sequence number and the
timestamp, and answers with both; any payload is refused BAD_LENGTH. The timestamp before any arrival has been handled is the
model's choice (assumption 5). -/
def Obligations.SnapshotCopiesEveryRegister : Prop :=
  ∀ (x : Link) (s : State), s.Ready x →
    exec (.snapshot x []) s = .next
      ((s.setBank x { bank := some { sequence := (s.bankPort x).counter + 1, stamp := s.stamp, copies := s.energy },
                      counter := (s.bankPort x).counter + 1 }).answeredOnly x .ok 0x15
        (bytes2 ((s.bankPort x).counter + 1).toNat ++ s.stamp.bytes)) ∧
    ∀ p : List Byte, p ≠ [] → p.length ≤ 32 → exec (.snapshot x p) s = .next (s.answeredOnly x .badLength 0x15 [])

/-! ### Protection requests -/

/-- SHED: a MANUAL cause not yet active becomes active with the manual mark, the branch is SHED, and the answer is OK; a
branch already SHED gains the cause and mark alone. An outlet of the branch that is not tripped or set to KEEP, and is not
OPEN or has a CLOSE or CYCLE, becomes a victim, and an idle driver of it takes an urgent open of its mode. An active MANUAL
is ALREADY, a branch above 5 BAD_VALUE. No hold bars it. -/
def Obligations.ShedMakesManualActive : Prop :=
  ∀ (x : Link) (n : Byte) (s : State), s.Ready x →
    (5 < n.toNat → exec (.shed x [n]) s = .next (s.answeredOnly x .badValue 0x16 [])) ∧
    ∀ b : Branch, n.toNat = b.val →
      ((s.protection b).manual = true → exec (.shed x [n]) s = .next (s.answeredOnly x .already 0x16 [])) ∧
      ((s.protection b).manual = false → (s.protection b).state = .shed →
        exec (.shed x [n]) s = .next
          ((s.setProtection b { s.protection b with manual := true, manualMark := true }).answeredOnly x .ok 0x16 [])) ∧
      ((s.protection b).manual = false → (s.protection b).state ≠ .shed →
        ∃ t, exec (.shed x [n]) s = .next t ∧ (t.protection b).state = .shed ∧ (t.protection b).manual = true ∧
          (t.protection b).manualMark = true ∧ (t.protection b).restartTimer = 0 ∧
          (s.EntriesDistinct → ∀ k, s.branchOf k = b → look s.settings.shedMode k ≠ .keep → s.isTripped k = false →
            s.contact k ≠ .opened ∨ (∃ e, s.entryOf k = some e ∧ e.kind ≠ .opening) →
            look (t.protection b).victims k = true) ∧
          (∀ k, (s.protection b).state ≠ .restoring →
            s.branchOf k ≠ b ∨ look s.settings.shedMode k = .keep ∨ s.isTripped k = true ∨
              s.contact k = .opened ∧ s.entryOf k = none →
            look (t.protection b).victims k = look (s.protection b).victims k) ∧
          (∀ k, s.branchOf k = b → s.isTripped k = false → (s.driver k).state = .idle → s.contact k ≠ .opened →
            (look s.settings.shedMode k = .openNow → (t.driver k).state = .waitSlot ∧
              ∃ st, (t.driver k).step = some st ∧ st.direction = .opening ∧ st.source = .urgent .openNow) ∧
            (look s.settings.shedMode k = .openSync →
              (t.driver k).state = (if (s.tracker (s.feedOf k)).state = .tracking then .waitPhase else .waitSlot) ∧
              ∃ st, (t.driver k).step = some st ∧ st.direction = .opening ∧ st.source = .urgent .openSync)) ∧
          (∀ b', b' ≠ b → t.protection b' = s.protection b') ∧ t.tripped = s.tripped ∧ t.tripRuns = s.tripRuns ∧
          t.slots = s.slots ∧ (s.answeredOnly x .ok 0x16 []).ActsOnly t)

/-- SHED_CLEAR: MANUAL, the restart count and the marks are cleared; without the restore flag the branch is NORMAL with no
victims, with it the branch is RESTORING or, every victim dealt with, NORMAL. A NORMAL branch is NOT_SHED, an active
OVERCURRENT or BREAKER is CAUSE_ACTIVE, a field out of range BAD_VALUE. -/
def Obligations.ShedClearBringsBranchBack : Prop :=
  ∀ (x : Link) (n flag : Byte) (s : State), s.Ready x →
    (5 < n.toNat ∨ 1 < flag.toNat → exec (.shedClear x [n, flag]) s = .next (s.answeredOnly x .badValue 0x17 [])) ∧
    ∀ b : Branch, n.toNat = b.val → flag.toNat ≤ 1 →
      ((s.protection b).state = .normal →
        exec (.shedClear x [n, flag]) s = .next (s.answeredOnly x .notShed 0x17 [])) ∧
      ((s.protection b).state ≠ .normal → (s.protection b).overcurrent = true ∨ (s.protection b).breaker = true →
        exec (.shedClear x [n, flag]) s = .next (s.answeredOnly x .causeActive 0x17 [])) ∧
      ((s.protection b).state ≠ .normal → (s.protection b).overcurrent = false → (s.protection b).breaker = false →
        ∃ t, exec (.shedClear x [n, flag]) s = .next t ∧ (t.protection b).manual = false ∧
          (t.protection b).restartCount = 0 ∧ (t.protection b).manualMark = false ∧
          (t.protection b).exhaustedMark = false ∧ (t.protection b).restartTimer = 0 ∧
          (flag = 0 → (t.protection b).state = .normal ∧ ∀ k, look (t.protection b).victims k = false) ∧
          (flag = 1 → (t.protection b).state = .restoring ∨
            (t.protection b).state = .normal ∧ ∀ k, look (t.protection b).victims k = false) ∧
          (∀ b', b' ≠ b → t.protection b' = s.protection b') ∧ t.tripRuns = s.tripRuns ∧ t.slots = s.slots ∧
          (s.answeredOnly x .ok 0x17 []).ActsOnly t)

/-- FAULT_CLEAR of a faulted outlet: no fault, the driver IDLE, and the contact as the sense line shows it on a tracking feed,
with OUTLET_SWITCHED, UNKNOWN on any other, answered OK with it (R119). A change to OPEN sets the remembered load (R50), and
an entry in QUEUED takes its first step (R75). No fault is ALREADY, the other link's hold HELD, an outlet above 23 BAD_VALUE. -/
def Obligations.FaultClearReReadsContact : Prop :=
  ∀ (x : Link) (n : Byte) (s : State), s.Ready x →
    (23 < n.toNat → exec (.faultClear x [n]) s = .next (s.answeredOnly x .badValue 0x18 [])) ∧
    ∀ k : Outlet, n.toNat = k.val →
      (s.hold k = some x.other → exec (.faultClear x [n]) s = .next (s.answeredOnly x .held 0x18 [])) ∧
      (s.hold k ≠ some x.other → (s.driver k).fault = none →
        exec (.faultClear x [n]) s = .next (s.answeredOnly x .already 0x18 [])) ∧
      (s.hold k ≠ some x.other → (s.driver k).fault ≠ none →
        ∃ t c, exec (.faultClear x [n]) s = .next t ∧
          c = (if (s.tracker (s.feedOf k)).state = .tracking then (if s.age k < 192 then .closed else .opened)
            else Contact.unknown) ∧
          (t.driver k).fault = none ∧ t.contact k = c ∧
          (s.answeredOnly x .ok 0x18 [byteOf c.code]).ActsOnly t ∧
          (∀ j, j ≠ k → (t.driver j).fault = (s.driver j).fault ∧ t.contact j = s.contact j) ∧
          (∃ idle reread : State, idle = (s.answeredOnly x .ok 0x18 [byteOf c.code]).setDriver k
              { (s.driverFree k).driver k with fault := none } ∧
            reread = (if c = .unknown then idle.moved k c
              else (idle.moved k c).told (.outletSwitched k c .reread) EventOrigin.nobody) ∧
            t.meters = reread.meters ∧ (s.EntriesDistinct → s.LinesLive →
              (∀ e, s.entryOf k = some e → e.phase = .queued) → exec (.firstStep k) reread = .next t)) ∧
          t.tripped = s.tripped ∧ t.tripRuns = s.tripRuns ∧ t.protections = s.protections ∧ t.slots = s.slots)

/-! ### Sweeps -/

/-- SWEEP with fields of the listed values and no sweep in progress leaves the link pending with the context R157 forms from
them: count and off time brought into range, the clamped mark set if one changed, the cursor on the start outlet. A context
in progress is SWEEP_ACTIVE; SWEEP_ABORT ends a sweep with its result, kept and answered, or answers NO_SWEEP with the last
result. At its turn of a sample arrival a sweep that is not suspended, or that finds room, examines its cursor outlet by
R158, and so does SWEEP_RESUME of a suspended sweep that finds room: no match passes on; a match applies its action (R159),
which for OPEN, CLOSE and CYCLE is a SWITCH whose entry has the sweep mark, the link's origin and no tag, is counted by its answer
and passes on, one outlet up or down by the direction, or is suspended on a full queue (R160); at the first match or the last outlet the sweep ends with its result (R161). A suspended
sweep without room waits. That SWEEP_RESUME does nothing elsewhere is the model's choice (assumption 3). -/
def Obligations.SweepsStartExamineAndEnd : Prop :=
  (∀ (x : Link) (start count d m r v3 v2 v1 v0 a h l st : Byte) (s : State), s.Ready x →
    (23 < start.toNat ∨ 1 < d.toNat ∨ 6 < m.toNat ∨ 3 < r.toNat ∨ 6 < a.toNat ∨ 1 < st.toNat →
      exec (.sweep x [start, count, d, m, r, v3, v2, v1, v0, a, h, l, st]) s =
        .next (s.answeredOnly x .badValue 0x1B [])) ∧
    (start.toNat ≤ 23 → d.toNat ≤ 1 → m.toNat ≤ 6 → r.toNat ≤ 3 → a.toNat ≤ 6 → st.toNat ≤ 1 →
      ((s.sweepEngine x).context ≠ none →
        exec (.sweep x [start, count, d, m, r, v3, v2, v1, v0, a, h, l, st]) s =
          .next (s.answeredOnly x .sweepActive 0x1B [])) ∧
      ((s.sweepEngine x).context = none →
        ∃ (t : State) (c : SweepContext),
          exec (.sweep x [start, count, d, m, r, v3, v2, v1, v0, a, h, l, st]) s = .next t ∧
          t = ((s.setSweep x { s.sweepEngine x with context := some c }).setPort x
            { s.port x with pendingMark := true }).answeredOnly x .pending 0x1B [] ∧
          c.start.val = start.toNat ∧ c.cursor = c.start ∧ c.value = number4 v3 v2 v1 v0 ∧ c.matched = 0 ∧
          c.accepted = 0 ∧ c.refused = 0 ∧ c.last = none ∧ c.suspended = false ∧
          (d = 0 → c.direction = .up ∧ c.remaining = min (max count.toNat 1) (24 - start.toNat)) ∧
          (d = 1 → c.direction = .down ∧ c.remaining = min (max count.toNat 1) (start.toNat + 1)) ∧
          [Metric.contact, .cycleImA, .windowImA, .windowPmW, .monitorState, .branch, .heldBy][m.toNat]? =
            some c.metric ∧
          [Relation.eq, .ne, .lt, .ge][r.toNat]? = some c.relation ∧
          [SweepAction.none, .opening, .closing, .cycle, .hold, .release, .heartbeat][a.toNat]? = some c.action ∧
          [StopMode.all, .first][st.toNat]? = some c.stop ∧
          c.offTime = (if a = 3 then min (number2 h l) 255 else 0) ∧
          (c.clamped = true ↔ c.remaining ≠ count.toNat ∨ a = 3 ∧ 255 < number2 h l)))) ∧
  (∀ (x : Link) (s : State), s.resetHeld = false → (s.port x).trans = .none → (s.port x).latch = false →
    (s.port x).presence = .present →
    (∀ c, (s.sweepEngine x).context = some c →
      exec (.sweepAbort x []) s = .next (((s.setSweep x { context := none, last := some (c.result .aborted) }).setPort x
        { s.port x with pendingMark := false }).answeredOnly x .ok 0x1C
          [byteOf c.matched, byteOf c.accepted, byteOf c.refused, outletByte c.last, 2,
            byteOf ((if 0 < c.matched then 1 else 0) + if c.clamped then 2 else 0)])) ∧
    ((s.sweepEngine x).context = none → (s.sweepEngine x).last = none →
      exec (.sweepAbort x []) s = .next (s.answeredOnly x .noSweep 0x1C [])) ∧
    ∀ r, (s.sweepEngine x).context = none → (s.sweepEngine x).last = some r →
      exec (.sweepAbort x []) s = .next (s.answeredOnly x .noSweep 0x1C r.bytes)) ∧
  (∀ (x : Link) (s : State), s.resetHeld = false →
    ((s.sweepEngine x).context = none ∨ s.entries.length ≥ 16 ∨
      ∃ c, (s.sweepEngine x).context = some c ∧ c.suspended = false) → exec (.sweepResume x) s = .next s) ∧
  (∀ (x : Link) (s : State), ((s.sweepEngine x).context = none ∨
      16 ≤ s.entries.length ∧ ∃ c, (s.sweepEngine x).context = some c ∧ c.suspended = true) →
    s.turn (.sweep x) = s) ∧
  ∀ (x : Link) (s : State) (c : SweepContext), s.resetHeld = false → (s.sweepEngine x).context = some c →
    (c.suspended = false ∨ s.entries.length < 16) →
    ∃ t, s.turn (.sweep x) = t ∧ (c.suspended = true → exec (.sweepResume x) s = .next t) ∧
      let k := c.cursor
      let value : Option Int := match c.metric with
        | .contact => some (s.contact k).code
        | .cycleImA => (s.meter k).cycleResult.map fun r => (r.imA : Int)
        | .windowImA => (s.meter k).windowResult.map fun r => (r.imA : Int)
        | .windowPmW => (s.meter k).windowResult.map (·.pmW)
        | .monitorState => some (s.monitor k).state.code
        | .branch => some (s.branchOf k).val
        | .heldBy => some (holdCode (s.hold k))
      let hit := ∃ v, value = some v ∧
        match c.relation with
          | .eq => v = c.value
          | .ne => v ≠ c.value
          | .lt => v < c.value
          | .ge => c.value ≤ v
      let passed : SweepContext :=
        { c with
          cursor := match c.direction with
            | .up => k + 1
            | .down => k - 1
          remaining := c.remaining - 1
          last := some k
          suspended := false }
      let ended := fun (u : State) (c' : SweepContext) (reason : StopReason) =>
        let r : SweepResult := { matched := c'.matched, accepted := c'.accepted, refused := c'.refused, last := some k,
                                 reason := reason, matchFlag := decide (0 < c'.matched), clamped := c.clamped }
        (u.setSweep x { context := none, last := some r }).setPort x { u.port x with
          pendingMark := false
          response :=
            { status := if c.clamped then .clamped else .ok, echo := 0x1B, generation := u.generation,
              payload := [byteOf r.matched, byteOf r.accepted, byteOf r.refused, byteOf k.val, byteOf reason.code,
                byteOf ((if 0 < r.matched then 1 else 0) + if c.clamped then 2 else 0)] } }
      let counted := fun (u : State) (accepted refused : Nat) =>
        let c' := { passed with matched := c.matched + 1, accepted := c.accepted + accepted,
                                refused := c.refused + refused }
        (c.stop = .first → t = ended u c' .firstMatch) ∧
        (c.stop = .all → c.remaining ≤ 1 → t = ended u c' .countDone) ∧
        (c.stop = .all → 1 < c.remaining → t = u.setSweep x { u.sweepEngine x with context := some c' })
      (¬hit → 1 < c.remaining → t = s.setSweep x { s.sweepEngine x with context := some passed }) ∧
      (¬hit → c.remaining ≤ 1 → t = ended s passed .countDone) ∧
      (hit → c.action = .none → counted s 0 0) ∧
      (hit → ∀ kind off, (c.action = .opening ∧ kind = .opening ∧ off = 0 ∨ c.action = .closing ∧ kind = .closing ∧ off = 0 ∨
          c.action = .cycle ∧ kind = .cycle ∧ off = c.offTime) →
        ∃ (u : State) (answer : Answer), s.switchAction x k kind off none true = (u, answer) ∧
          (answer.status = .queueFull →
            t = u.setSweep x { u.sweepEngine x with context := some { c with suspended := true } }) ∧
          (answer.status ∈ [Status.ok, .clamped, .joined, .already] → counted u 1 0) ∧
          (answer.status ∈ [Status.ok, .clamped] → s.EntriesDistinct →
            (∀ e, e ∈ t.entries → e.outlet = k → e.kind = kind ∧ e.sweep = true ∧ e.tag = none ∧ e.origin = originOf x ∧
              (kind = .cycle → c.offTime = 0 → e.offTime = look s.settings.cycleOff k) ∧
              (kind = .cycle → c.offTime ≠ 0 → e.offTime = min c.offTime 255)) ∧
            (s.entryOf k = none → ∃ e, e ∈ t.entries ∧ e.outlet = k)) ∧
          (answer.status ∈ [Status.held, .faulted, .shed, .busyOutlet] → counted u 0 1) ∧
          answer.status ∈ [Status.ok, .clamped, .joined, .already, .held, .faulted, .shed, .busyOutlet, .queueFull]) ∧
      (hit → c.action = .hold ∨ c.action = .release → s.hold k = some x.other → counted s 0 1) ∧
      (hit → c.action = .hold → s.hold k ≠ some x.other → counted (s.setHold k (some x)) 1 0) ∧
      (hit → c.action = .release → s.hold k ≠ some x.other → counted (s.setHold k none) 1 0) ∧
      (hit → c.action = .heartbeat → (s.monitor k).state = .off → counted s 0 1) ∧
      (hit → c.action = .heartbeat → (s.monitor k).state ≠ .off → counted (s.setMonitor k
        { state := .watching, silence := 0, retries := 0, evidence := 0, spread := none, placementPending := false,
          activeMark := false, grace := 0 }) 1 0)

/-! ### Between commands -/

/-- Every step leaves nothing of an arrival in hand, keeps each waiting line and close in progress with live entries of their
branch in their phase, and lets a verdict wait only at an outlet that is CLOSED and without a fault, whatever opened, lost or
failed it (R149). The record of an arrival in hand is the model's own (assumption 1). -/
def Obligations.EveryStepKeepsHandsLinesAndVerdicts : Prop :=
  (∀ s t : State, s.NothingInHand → step s = .next t → t.NothingInHand) ∧
    (∀ s t : State, s.EntriesDistinct → s.LinesLive → step s = .next t → t.LinesLive) ∧
    ∀ s t : State, s.VerdictsWait → step s = .next t → t.VerdictsWait

/-! ### LINK_RESET -/

/-- LINK_RESET empties the link's queue, frees its holds, forgets its last sweep result and its bank, and clears its latch;
HOLD_LAPSED, if an outlet was held, stands alone in its queue and is offered to the other link, which keeps all else. -/
def Obligations.LinkResetClearsOwnLink : Prop :=
  ∀ (x : Link) (s : State), s.Ready x →
    ∃ (t : State) (held : Vector Bool 24) (e : Event), exec (.linkReset x []) s = .next t ∧
      (∀ k, look held k = decide (s.hold k = some x)) ∧
      e = { body := .holdLapsed x held .linkReset, source := EventOrigin.nobody, stamp := s.stamp } ∧
      (∀ k, t.hold k = if s.hold k = some x then none else s.hold k) ∧
      (t.port x).events = (if ∃ k, s.hold k = some x then [e] else []) ∧ (t.port x).overflow = false ∧
      ((t.port x).alert = true ↔ ∃ k, s.hold k = some x) ∧ (t.port x).latch = false ∧
      (t.port x).presence = .present ∧
      (t.port x).response = { status := .ok, echo := 0x1F, generation := s.generation, payload := maskBytes held } ∧
      t.port x.other = (if ∃ k, s.hold k = some x then (s.port x.other).offer e else s.port x.other) ∧
      t.bankPort x = { bank := none, counter := (s.bankPort x).counter } ∧ t.bankPort x.other = s.bankPort x.other ∧
      (t.sweepEngine x).last = none ∧ t.sweepEngine x.other = s.sweepEngine x.other ∧
      { t with holds := s.holds, ports := s.ports, banks := s.banks, sweeps := s.sweeps } = s

/-! ### Happenings inside the part -/

/-- SECOND_TICK at the second's end: the sample-in-second 0, the seconds counter one on, and every timer in seconds one
on: off holds, restart waits and graces fall, and the silence timers of links that are not ABSENT rise, holding at 255.
Elsewhere nothing happens. That the row acts at the second's end alone is the model's choice (assumption 3). -/
def Obligations.SecondTickMovesEveryTimer : Prop :=
  (∀ s : State, s.resetHeld = false → s.subSecond = 7679 →
    ∃ t, exec .secondTick s = .next t ∧ t.subSecond = 0 ∧ t.seconds = s.seconds + 1 ∧
      t.entries = s.entries.map (fun e => { e with offHold := if e.phase = .offHold then e.offHold - 1 else e.offHold }) ∧
      (∀ b, t.protection b = { s.protection b with restartTimer :=
        if (s.protection b).state = .restartWait then (s.protection b).restartTimer - 1
        else (s.protection b).restartTimer }) ∧
      (∀ k, t.monitor k = { s.monitor k with grace :=
        if (s.monitor k).state = .grace then (s.monitor k).grace - 1 else (s.monitor k).grace }) ∧
      (∀ x, t.port x = { s.port x with silence := if (s.port x).presence = .absent then (s.port x).silence
        else if 255 ≤ (s.port x).silence then 255 else (s.port x).silence + 1 }) ∧
      { t with subSecond := s.subSecond, seconds := s.seconds, entries := s.entries, protections := s.protections,
               monitors := s.monitors, ports := s.ports } = s) ∧
  ∀ s : State, s.subSecond < 7679 → exec .secondTick s = .next s

/-- SYNTHETIC_CYCLE, FREQUENCY_RESULT and WINDOW_CLOSE, each where its count stands at its limit: the synthetic close
opens an empty cycle and leaves phase and Tp; the frequency result is the rounded quotient of R27 over the span since the
anchor; the window closes with its result over 2^w cycles. The other feeds' trackers and the settings stay. That each row
acts at its limit alone is the model's choice (assumption 3). -/
def Obligations.TrackersCloseAndMeasure : Prop :=
  (∀ (f : Feed) (s : State), s.resetHeld = false → 192 ≤ (s.tracker f).cyc.n →
    ∃ t, exec (.syntheticCycle f) s = .next t ∧
      (t.tracker f).cyc = { n := 0, sv := 0, clip := false, began := .synthetic } ∧
      (t.tracker f).phase = (s.tracker f).phase ∧ (t.tracker f).tp = (s.tracker f).tp ∧
      (t.tracker f).armed = (s.tracker f).armed ∧ (t.tracker f).anchor = none ∧ (t.tracker f).inRange = 0 ∧
      (t.tracker f).cycleResult = some
        { vcV := isqrt ((s.tracker f).cyc.sv * 625 / ((s.tracker f).cyc.n * 256)), n := (s.tracker f).cyc.n,
          clip := (s.tracker f).cyc.clip, synthetic := true } ∧
      (t.tracker f).state = (if (s.tracker f).state = .noLine then .noLine else .lost) ∧
      (∀ g, g ≠ f → t.tracker g = { s.tracker g with notice := Notice.quiet }) ∧ t.settings = s.settings ∧
      t.holds = s.holds ∧ t.sweeps = s.sweeps ∧ t.banks = s.banks ∧ t.breakers = s.breakers ∧
      t.senseAge = s.senseAge ∧ t.handed = s.handed ∧ t.stamp = s.stamp ∧ t.generation = s.generation) ∧
  (∀ (f : Feed) (s : State), s.resetHeld = false → (s.tracker f).cyc.n < 192 → exec (.syntheticCycle f) s = .next s) ∧
  (∀ (f : Feed) (s : State) (a c : BitVec 40), s.resetHeld = false → (s.tracker f).anchor = some a →
    (s.tracker f).lastCrossing = some c → look s.settings.divider f ≤ (s.tracker f).inRange →
    exec (.frequencyResult f) s = .next (s.setTracker f { s.tracker f with
      frequency := some
        { mHz := (roundedQuotient ((7680 * 256 * 1000 * look s.settings.divider f : Nat) : Int) (c - a).toNat).toNat,
          divider := look s.settings.divider f, stamp := s.stamp },
      anchor := some c, inRange := 0 })) ∧
  (∀ (f : Feed) (s : State), (s.tracker f).anchor = none ∨ (s.tracker f).lastCrossing = none ∨
    (s.tracker f).inRange < look s.settings.divider f → exec (.frequencyResult f) s = .next s) ∧
  (∀ (f : Feed) (s : State), (s.tracker f).win.count < 2 ^ look s.settings.windowExp f →
    exec (.windowClose f) s = .next s) ∧
  ∀ (f : Feed) (s : State), s.resetHeld = false → 2 ^ look s.settings.windowExp f ≤ (s.tracker f).win.count →
    ∃ t, exec (.windowClose f) s = .next t ∧
      (t.tracker f).windowResult = some
        { vcV := isqrt ((s.tracker f).win.sv * 625 / ((s.tracker f).win.total * 256)), total := (s.tracker f).win.total,
          length := 2 ^ look s.settings.windowExp f, clip := (s.tracker f).win.clip,
          synthetic := (s.tracker f).win.synthetic } ∧
      (t.tracker f).win = { count := 0, sv := 0, total := 0, clip := false, synthetic := false, skip := false } ∧
      (∀ g, g ≠ f → t.tracker g = s.tracker g) ∧
      (∀ k, s.feedOf k = f → (s.meter k).waiting = false → ∃ r, (t.meter k).windowResult = some r ∧
        r.pmW = roundedQuotient ((s.meter k).wsp * 1000) ((s.tracker f).win.total * 65536) ∧
        r.imA = isqrt ((s.meter k).wsi * 15625 / ((s.tracker f).win.total * 16384)) ∧ r.stamp = s.stamp) ∧
      (∀ k, s.feedOf k ≠ f → (t.meter k).windowResult = (s.meter k).windowResult) ∧
      (s.setTracker f (t.tracker f)).ActsOnly t

/-- BREAKER_LEVEL_CHANGE at the 64th differing arrival changes the level and the BREAKER cause with it, and
OVERCURRENT_ACTIVE at the over-limit cycles makes OVERCURRENT active: a cause that becomes active leaves the branch SHED.
That each row acts where its rule's condition stands and nowhere else is the model's choice (assumption 3). -/
def Obligations.CausesShedTheBranch : Prop :=
  (∀ (b : Branch) (l : BreakerLevel) (s : State), s.resetHeld = false → (s.breaker b).level = some l →
    (look s.handed.breaker b = true ↔ l = .closed) → 63 ≤ (s.breaker b).run →
    ∃ t, exec (.breakerLevelChange b) s = .next t ∧
      t.breaker b = { level := some (if l = .closed then .opened else .closed), run := 0 } ∧
      (l = .closed → (t.protection b).breaker = true ∧
        ((s.protection b).breaker = false → (t.protection b).state = .shed)) ∧
      (l = .opened → (t.protection b).breaker = false) ∧ (∀ b', b' ≠ b → t.protection b' = s.protection b') ∧
      t.tripped = s.tripped ∧ (s.setBreaker b (t.breaker b)).ActsOnly t) ∧
  (∀ (b : Branch) (s : State), (s.breaker b).level = none ∨
    (s.breaker b).level = some (if look s.handed.breaker b = true then BreakerLevel.opened else .closed) ∨
    (s.breaker b).run < 63 → exec (.breakerLevelChange b) s = .next s) ∧
  (∀ (b : Branch) (s : State), s.resetHeld = false → (s.protection b).overcurrent = false →
    look s.settings.overCycles b ≤ (s.protection b).overRun →
    ∃ t, exec (.overcurrentActive b) s = .next t ∧ (t.protection b).overcurrent = true ∧
      (t.protection b).state = .shed ∧ (∀ b', b' ≠ b → t.protection b' = s.protection b') ∧
      t.tripped = s.tripped ∧ s.ActsOnly t) ∧
  ∀ (b : Branch) (s : State), (s.protection b).overcurrent = true ∨
    (s.protection b).overRun < look s.settings.overCycles b → exec (.overcurrentActive b) s = .next s

/-- OUTLET_TRIP at the trip cycles sets the tripped flag and zeroes the run; the other outlets' flags and runs stay. Its
OPEN_NOW pre-empts the outlet's entry, which completes PREEMPTED, or takes the mark where its close pulse is under way
(R86). The driver does as R120's table says: an IDLE one whose contact is not OPEN takes the open as a new step, waiting for
a slot, and so does one whose ordinary step has not reached its pulse; an ordinary open in PULSE or VERIFY is adopted; an
ordinary close in PULSE runs on with the urgent open waiting, one in VERIFY is abandoned with the contact UNKNOWN for the
new step; an urgent open in hand is joined. A monitor whose CYCLE ends so is WATCHING again (R150), and a verdict that waits at
an outlet whose contact becomes UNKNOWN is withdrawn (R149). That the row acts at the trip cycles alone is the model's choice (assumption 3),
and that ACTION_ENDED is posted ahead of OUTLET_TRIP its reading (assumption 13), as is that a joined OPEN_SYNC keeps its
mode (assumption 15). -/
def Obligations.OutletTripOpensNow : Prop :=
  (∀ (k : Outlet) (s : State), look s.settings.tripLevel k = 0 ∨ (s.driver k).fault ≠ none ∨
    s.isTripped k = true ∧ s.contact k = .opened ∨ s.tripRun k < look s.settings.tripCycles k →
    exec (.outletTrip k) s = .next s) ∧
  ∀ (k : Outlet) (s : State), s.resetHeld = false → look s.settings.tripLevel k ≠ 0 → (s.driver k).fault = none →
    ¬(s.isTripped k = true ∧ s.contact k = .opened) → look s.settings.tripCycles k ≤ s.tripRun k →
    ∃ t, exec (.outletTrip k) s = .next t ∧ t.isTripped k = true ∧ t.tripRun k = 0 ∧
      (∀ j, j ≠ k → t.isTripped j = s.isTripped j ∧ t.tripRun j = s.tripRun j) ∧
      ((s.driver k).state = .idle → s.contact k ≠ .opened → (t.driver k).state = .waitSlot ∧
        ∃ st, (t.driver k).step = some st ∧ st.direction = .opening ∧ st.source = .urgent .openNow) ∧
      t.protections = s.protections ∧ s.ActsOnly t ∧
      (s.EntriesDistinct →
        let d := s.driver k
        let taken := fun c : Contact => t.driver k = { d with
          state := .waitSlot, contact := c, pulseCount := 0, skip := 0, observe := 0, activeSeen := false,
          waitingUrgent := none, step := some
            { direction := .opening, source := .urgent .openNow, feed := s.feedOf k,
              sync := (s.tracker (s.feedOf k)).state == .tracking, delay := look s.settings.openDelay k,
              pulse := look s.settings.pulseLength k, retry := 0, metRising := false, metFalling := false,
              feedLeft := false } }
        let trip : Event :=
          { body := .outletTrip k (((s.meter k).cycleResult.map (·.imA)).getD 0) (look s.settings.tripLevel k),
            source := EventOrigin.nobody, stamp := s.stamp }
        (s.entryOf k = none → t.entries = s.entries ∧ ∀ x, t.port x = (s.port x).offer trip) ∧
        (∀ e, s.entryOf k = some e →
          (e.phase = .closing ∧ d.state = .pulse →
            t.entryOf k = some { e with preempt := true } ∧ ∀ x, t.port x = (s.port x).offer trip) ∧
          (¬(e.phase = .closing ∧ d.state = .pulse) → t.entryOf k = none ∧
            ∀ x, t.port x = ((s.port x).offer
              { body := .actionEnded k e.id e.kind .preempted .none,
                source := { origin := some e.origin, sweep := e.sweep, tag := e.tag }, stamp := s.stamp }).offer trip)) ∧
        (d.state = .idle → s.contact k ≠ .opened → taken (s.contact k)) ∧
        (d.state = .idle → s.contact k = .opened → t.driver k = d) ∧
        (∀ st, d.step = some st → st.source = .entry →
          (d.state = .waitPhase ∨ d.state = .waitSlot → taken (s.contact k)) ∧
          (d.state = .pulse ∨ d.state = .verify → st.direction = .opening →
            t.driver k = { d with step := some { st with source := .urgent .openNow } }) ∧
          (d.state = .pulse → st.direction = .close → t.driver k = { d with waitingUrgent := some .openNow }) ∧
          (d.state = .verify → st.direction = .close → taken .unknown)) ∧
        (t.monitor k = Monitor.afterMove
          (match s.entryOf k with
            | none => s.monitor k
            | some e =>
              if e.phase = .closing ∧ d.state = .pulse then s.monitor k
              else (s.monitor k).afterEnd e.kind e.origin .preempted (look s.settings.bootGrace k))
          (s.contact k) (t.contact k)) ∧
        (∀ j, j ≠ k → t.monitor j = s.monitor j) ∧ t.meters = s.meters ∧
        ∀ st m, d.step = some st → st.source = .urgent m → d.state ≠ .idle → d.state ≠ .faulted →
          t.driver k = if m = .openSync ∧ d.state = .waitPhase then { d with state := .waitSlot } else d)

/-- AUTOMATIC_RESTART begins a wait with the delay standing where every condition of R133 holds; RESTART_EXPIRY, where
restarts are left, raises the count, posts BRANCH_RESTORE_BEGIN in RESTORING, tests the head and makes the pass, and
otherwise sheds for good, every outlet of the branch dealt with by its mode (R131). RESTORATION_PASS takes the victims in
ascending order (R135): a held or faulted one is skipped with RESTORE_SKIPPED, one with an entry leaves the set, a full queue
stops the pass, and any other takes a CLOSE entry of origin RESTORE, which makes its first step; with the set empty the
branch enters NORMAL with BRANCH_NORMAL (R136). That each row acts where its rule's condition stands is the model's choice
(assumption 3), and that RESTART_EXHAUSTED follows the events of the opens its reading (assumption 13). -/
def Obligations.RestartAndRestorationFollowRules : Prop :=
  (∀ (b : Branch) (s : State), s.resetHeld = false → (s.protection b).state = .shed →
    look s.settings.restartEnable b = true → (s.protection b).overcurrent = false → (s.protection b).breaker = false →
    (s.protection b).manual = false → (s.protection b).manualMark = false → (s.protection b).exhaustedMark = false →
    exec (.automaticRestart b) s = .next (s.setProtection b
      { s.protection b with state := .restartWait, restartTimer := look s.settings.restartDelay b })) ∧
  (∀ (b : Branch) (s : State), (s.protection b).state ≠ .shed ∨ look s.settings.restartEnable b = false ∨
    (s.protection b).overcurrent = true ∨ (s.protection b).breaker = true ∨ (s.protection b).manual = true ∨
    (s.protection b).manualMark = true ∨ (s.protection b).exhaustedMark = true →
    exec (.automaticRestart b) s = .next s) ∧
  (∀ (b : Branch) (s : State), (s.protection b).state ≠ .restartWait ∨ (s.protection b).restartTimer ≠ 0 →
    exec (.restartExpiry b) s = .next s) ∧
  (∀ (b : Branch) (s : State), (s.protection b).state ≠ .restoring → exec (.restorationPass b) s = .next s) ∧
  (∀ (b : Branch) (s : State), s.resetHeld = false → (s.protection b).state = .restartWait →
    (s.protection b).restartTimer = 0 →
    ((look s.settings.restartLimit b = 0 ∨ (s.protection b).restartCount < look s.settings.restartLimit b) →
      ∃ n u t, n = (if 255 ≤ (s.protection b).restartCount then 255 else (s.protection b).restartCount + 1) ∧
        exec (.admission b) ((s.setProtection b
          { s.protection b with state := .restoring, restartTimer := 0, restartCount := n }).post
            (.branchRestoreBegin b (s.protection b).victims n .auto) EventOrigin.nobody) = .next u ∧
        exec (.restorationPass b) u = .next t ∧ exec (.restartExpiry b) s = .next t ∧
        ((t.protection b).state = .restoring ∨ (t.protection b).state = .normal) ∧ (t.protection b).restartCount = n ∧
        (∀ b', b' ≠ b → t.protection b' = s.protection b') ∧ s.ActsOnly t) ∧
    (look s.settings.restartLimit b ≠ 0 → look s.settings.restartLimit b ≤ (s.protection b).restartCount →
      ∃ t, exec (.restartExpiry b) s = .next t ∧
        t.protection b = { s.protection b with state := .shed, restartTimer := 0, exhaustedMark := true,
                                               victims := (t.protection b).victims } ∧
        (s.EntriesDistinct → ∀ k, s.branchOf k = b → look s.settings.shedMode k ≠ .keep → s.isTripped k = false →
          s.contact k ≠ .opened ∨ (∃ e, s.entryOf k = some e ∧ e.kind ≠ .opening) →
          look (t.protection b).victims k = true) ∧
        (∀ k, s.branchOf k ≠ b ∨ look s.settings.shedMode k = .keep ∨ s.isTripped k = true ∨
            s.contact k = .opened ∧ s.entryOf k = none →
          look (t.protection b).victims k = look (s.protection b).victims k) ∧
        (∀ k, s.branchOf k = b → look s.settings.shedMode k = .openNow → s.isTripped k = false →
          (s.driver k).state = .idle → s.contact k ≠ .opened → (t.driver k).state = .waitSlot ∧
            ∃ st, (t.driver k).step = some st ∧ st.direction = .opening ∧ st.source = .urgent .openNow) ∧
        (∀ b', b' ≠ b → t.protection b' = s.protection b') ∧ t.tripped = s.tripped ∧ t.tripRuns = s.tripRuns ∧
        t.slots = s.slots ∧ s.SameOutside t ∧
        let exhausted : Event :=
          { body := .restartExhausted b (s.protection b).restartCount, source := EventOrigin.nobody, stamp := s.stamp }
        ∀ x, ∃ es : List Event, t.port x = (es ++ [exhausted]).foldl Port.offer (s.port x))) ∧
  (∀ (b : Branch) (s : State), s.resetHeld = false → (s.protection b).state = .restoring →
    ((∀ k, look (s.protection b).victims k = false) →
      ∃ t, exec (.restorationPass b) s = .next t ∧
        exec (.admission b) ((s.setProtection b
          { s.protection b with state := .normal, manualMark := false, exhaustedMark := false }).post
            (.branchNormal b .restored) EventOrigin.nobody) = .next t) ∧
    ∀ k, look (s.protection b).victims k = true → (∀ j, j < k → look (s.protection b).victims j = false) →
      let dropped := s.setProtection b { s.protection b with victims := put (s.protection b).victims k false }
      (∀ x, s.hold k = some x → exec (.restorationPass b) s =
        exec (.restorationPass b) (dropped.post (.restoreSkipped k b (some x)) EventOrigin.nobody)) ∧
      (s.hold k = none → (s.driver k).fault ≠ none → exec (.restorationPass b) s =
        exec (.restorationPass b) (dropped.post (.restoreSkipped k b none) EventOrigin.nobody)) ∧
      (s.hold k = none → (s.driver k).fault = none → s.entryOf k ≠ none →
        exec (.restorationPass b) s = exec (.restorationPass b) dropped) ∧
      (s.hold k = none → (s.driver k).fault = none → s.entryOf k = none → 16 ≤ s.entries.length →
        exec (.restorationPass b) s = .next s) ∧
      (s.hold k = none → (s.driver k).fault = none → s.entryOf k = none → s.entries.length < 16 →
        ∃ (e : Entry) (u : State), (∀ e', e' ∈ s.entries → e'.id ≠ e.id) ∧
          e = { id := e.id, outlet := k, kind := .closing, origin := .restore, sweep := false, tag := none, offTime := 0,
                phase := .queued, offHold := 0, preempt := false, begun := false } ∧
          exec (.firstStep k) ((((dropped.noteReturn e.id).setEntries (s.entries ++ [e])).setNextId (e.id + 1)).setTripped
            k false) = .next u ∧
          exec (.restorationPass b) s = exec (.restorationPass b) u)) ∧
  ∀ (b : Branch) (s : State), s.resetHeld = false → (s.protection b).state = .restoring →
    s.entries.length + (allOutlets.filter fun k => look (s.protection b).victims k).length ≤ 16 →
    ∃ t, exec (.restorationPass b) s = .next t ∧ (t.protection b).state = .normal ∧
      (∀ k, look (t.protection b).victims k = false) ∧ (t.protection b).manualMark = false ∧
      (t.protection b).exhaustedMark = false ∧ (∀ b', b' ≠ b → t.protection b' = s.protection b') ∧ s.ActsOnly t

/-- ADMISSION admits the head where the four conditions hold, handing its close step over, and otherwise sets the blocking
reason alone, that of the first condition that fails: STATE, IN_PROGRESS, STAGGER, HEADROOM (R97); FIRST_STEP acts by R75's
table on an entry in QUEUED where the driver is IDLE, one whose contact is its target ending DONE NO_PULSE; OFF_HOLD_END takes a CYCLE at 0 to the waiting line. That each row
acts where its rule's condition stands and nowhere else is the model's choice (assumption 3). -/
def Obligations.EntriesMoveThroughPhases : Prop :=
  (∀ (b : Branch) (id : Byte) (rest : List Byte) (e : Entry) (s : State), s.resetHeld = false →
    (s.sequencer b).line = id :: rest → s.entryById id = some e →
    ((s.protection b).state = .normal ∨ (s.protection b).state = .restoring → (s.sequencer b).inProgress = none →
      look s.settings.staggerSet b ≤ (s.sequencer b).stagger →
      (look s.settings.branchLimit b = 0 ∨
        (s.protection b).sum.getD 0 + (s.meter e.outlet).remembered ≤ look s.settings.branchLimit b) →
      ∃ t e', exec (.admission b) s = .next t ∧ (t.sequencer b).line = rest ∧ (t.sequencer b).inProgress = some id ∧
        (t.sequencer b).pulseMark = false ∧ t.entryById id = some e' ∧ e'.phase = .closing ∧ e'.begun = true ∧
        (∃ st, (t.driver e.outlet).step = some st ∧ st.direction = .close ∧ st.source = .entry ∧
          st.delay = look s.settings.closeDelay e.outlet ∧ st.pulse = look s.settings.pulseLength e.outlet) ∧
        (∀ j, j ≠ e.outlet → t.driver j = s.driver j) ∧ t.ports = s.ports ∧ s.SameOutside t) ∧
    (let shut := ¬((s.protection b).state = .normal ∨ (s.protection b).state = .restoring)
      let early := (s.sequencer b).stagger < look s.settings.staggerSet b
      let overloaded := look s.settings.branchLimit b ≠ 0 ∧
        look s.settings.branchLimit b < (s.protection b).sum.getD 0 + (s.meter e.outlet).remembered
      let blocked := fun reason =>
        exec (.admission b) s = .next (s.setSequencer b { s.sequencer b with reason := reason })
      (shut → blocked .state) ∧ (¬shut → (s.sequencer b).inProgress ≠ none → blocked .inProgress) ∧
        (¬shut → (s.sequencer b).inProgress = none → early → blocked .stagger) ∧
        (¬shut → (s.sequencer b).inProgress = none → ¬early → overloaded → blocked .headroom))) ∧
  (∀ (b : Branch) (s : State), s.resetHeld = false → (s.sequencer b).line = [] →
    exec (.admission b) s = .next (s.setSequencer b { s.sequencer b with reason := .none })) ∧
  (∀ (k : Outlet) (s : State), (s.driver k).state ≠ .idle ∨ (∀ e, s.entryOf k = some e → e.phase ≠ .queued) →
    exec (.firstStep k) s = .next s) ∧
  (∀ (k : Outlet) (s : State), (∀ e, s.entryOf k = some e → e.phase ≠ .offHold) → exec (.offHoldEnd k) s = .next s) ∧
  (∀ (k : Outlet) (e : Entry) (s : State), s.resetHeld = false → s.entryOf k = some e → e.phase = .queued →
    (s.driver k).state = .idle → s.EntriesDistinct →
    ((e.kind = .opening ∧ s.contact k = .opened ∨ e.kind = .closing ∧ s.contact k = .closed) →
      ∃ t, exec (.firstStep k) s = .next t ∧ t.entryOf k = none ∧ t.contact k = s.contact k ∧ s.ActsOnly t ∧
        (s.LinesLive → t = s.ended e .done .noPulse)) ∧
    ((e.kind = .opening ∨ e.kind = .cycle) → s.contact k ≠ .opened →
      ∃ t e', exec (.firstStep k) s = .next t ∧ t.entryOf k = some e' ∧ e'.phase = .opening ∧ e'.begun = true ∧
        (t.driver k).state = (if (s.tracker (s.feedOf k)).state = .tracking then .waitPhase else .waitSlot) ∧
        (∃ st, (t.driver k).step = some st ∧ st.direction = .opening ∧ st.delay = look s.settings.openDelay k) ∧
        (∀ j, j ≠ k → t.driver j = s.driver j) ∧ t.ports = s.ports ∧ s.SameOutside t) ∧
    (e.kind = .cycle → s.contact k = .opened →
      ∃ t e', exec (.firstStep k) s = .next t ∧ t.entryOf k = some e' ∧ e'.phase = .offHold ∧ e'.begun = true ∧
        e'.offHold = e.offTime ∧ { t with entries := s.entries } = s) ∧
    (e.kind = .closing → s.contact k ≠ .closed →
      ∃ t e', exec (.firstStep k) s = .next t ∧ t.entryOf k = some e' ∧ t.ports = s.ports ∧ s.SameOutside t ∧
        (e'.phase = .waitAdmit ∧ e.id ∈ (t.sequencer (s.branchOf k)).line ∨ e'.phase = .closing))) ∧
  ∀ (k : Outlet) (e : Entry) (s : State), s.resetHeld = false → s.entryOf k = some e → e.phase = .offHold →
    s.EntriesDistinct →
    (0 < e.offHold → exec (.offHoldEnd k) s = .next s) ∧
    (e.offHold = 0 → ∃ t e', exec (.offHoldEnd k) s = .next t ∧ t.entryOf k = some e' ∧ t.ports = s.ports ∧
      s.SameOutside t ∧
      (e'.phase = .waitAdmit ∧ e.id ∈ (t.sequencer (s.branchOf k)).line ∨ e'.phase = .closing))

/-- FIRE_PHASE at a fire phase whose mark is clear sets the mark and asks for a slot, and does nothing at one whose mark is
set; SLOT_GRANT gives the free slots to the drivers in WAIT_SLOT, urgent ones first and lower outlets first (R111), which
pulse, and slips the synchronized ordinary ones among the rest (R112); PULSE_END releases the coil and the slot and goes to
verification, ends the step UNVERIFIED (the driver IDLE, OUTLET_SWITCHED posted, the entry DONE or in OFF_HOLD, the close in
progress ended: R115, R116, R77, R79, R98), or, where the entry carries the pre-emption mark, sets the contact UNKNOWN, ends
the entry PREEMPTED and takes the urgent open up (R113). That each row acts where its rule's condition stands and nowhere else
is the model's choice (assumption 3). -/
def Obligations.StepsMeetSlotsAndPulse : Prop :=
  (∀ (k : Outlet) (st : Step) (s : State), s.resetHeld = false → (s.driver k).state = .waitPhase →
    (s.driver k).step = some st →
    ((s.tracker st.feed).phase = ((s.tracker st.feed).tp - st.delay % (s.tracker st.feed).tp) % (s.tracker st.feed).tp →
      st.metRising = false → exec (.firePhase k) s = .next (s.setDriver k
        { s.driver k with state := .waitSlot, step := some { st with metRising := true } })) ∧
    ((s.tracker st.feed).phase =
        (((s.tracker st.feed).tp / 2 : Nat) - st.delay : Int) % ((s.tracker st.feed).tp : Int) →
      (s.tracker st.feed).phase ≠ risingFire (s.tracker st.feed).tp st.delay ∨ st.metRising = true →
      st.metFalling = false → 0 < (s.tracker st.feed).tp → exec (.firePhase k) s = .next (s.setDriver k
        { s.driver k with state := .waitSlot, step := some { st with metFalling := true } })) ∧
    ((s.tracker st.feed).phase ≠ risingFire (s.tracker st.feed).tp st.delay →
      (s.tracker st.feed).phase ≠ fallingFire (s.tracker st.feed).tp st.delay → exec (.firePhase k) s = .next s) ∧
    (0 < (s.tracker st.feed).tp →
      ((s.tracker st.feed).phase = ((s.tracker st.feed).tp - st.delay % (s.tracker st.feed).tp) % (s.tracker st.feed).tp →
        st.metRising = true) →
      ((s.tracker st.feed).phase =
          (((s.tracker st.feed).tp / 2 : Nat) - st.delay : Int) % ((s.tracker st.feed).tp : Int) → st.metFalling = true) →
      exec (.firePhase k) s = .next s)) ∧
  (∀ (k : Outlet) (s : State), (s.driver k).state ≠ .waitPhase → exec (.firePhase k) s = .next s) ∧
  (∀ s : State, s.resetHeld = false →
    let urgent := fun k => ((s.driver k).step.map fun st => decide (st.source ≠ .entry)).getD false
    let asks := fun k => decide ((s.driver k).state = .waitSlot) && (s.driver k).step.isSome
    let ahead := fun j k => asks j && (urgent j && !urgent k || urgent j == urgent k && decide (j < k))
    let granted := fun k => asks k = true ∧ (allOutlets.filter fun j => ahead j k).length < 4 - s.slots.length
    ∃ t, exec .slotGrant s = .next t ∧
      { t with drivers := s.drivers, slots := s.slots, sequencers := s.sequencers } = s ∧
      (∀ k, k ∈ t.slots ↔ k ∈ s.slots ∨ granted k) ∧
      (∀ b, t.sequencer b = { s.sequencer b with pulseMark := (t.sequencer b).pulseMark } ∧
        ((t.sequencer b).pulseMark = true ↔ (s.sequencer b).pulseMark = true ∨
          ∃ k st, granted k ∧ (s.driver k).step = some st ∧ st.direction = .close ∧ s.branchOf k = b)) ∧
      (∀ k, asks k = false → t.driver k = s.driver k) ∧
      (∀ k st, granted k → (s.driver k).step = some st →
        k ∈ t.slots ∧ (t.driver k).state = .pulse ∧ (t.driver k).pulseCount = st.pulse ∧
        (t.driver k).coil = (if st.direction = .close then .set else .reset)) ∧
      (∀ k st, asks k = true → ¬granted k → (s.driver k).step = some st →
        t.driver k = if st.sync = true ∧ st.source = .entry then { s.driver k with state := .waitPhase }
          else s.driver k)) ∧
  (∀ (k : Outlet) (s : State), (s.driver k).state ≠ .pulse → exec (.pulseEnd k) s = .next s) ∧
  (∀ (k : Outlet) (st : Step) (e : Entry) (mode : UrgentMode) (s : State), s.resetHeld = false →
    (s.driver k).state = .pulse → (s.driver k).step = some st → st.source = .entry → (s.driver k).pulseCount = 0 →
    s.entryOf k = some e → e.preempt = true → (s.driver k).waitingUrgent = some mode → s.EntriesDistinct →
    ∃ t, exec (.pulseEnd k) s = .next t ∧ t.contact k = .unknown ∧ t.entryOf k = none ∧ (t.driver k).coil = .released ∧
      t.slots = s.slots.erase k ∧
      (t.driver k).state = (if mode = .openSync ∧ (s.tracker (s.feedOf k)).state = .tracking then .waitPhase else .waitSlot) ∧
      (t.driver k).step = some
        { direction := .opening, source := .urgent mode, feed := s.feedOf k,
          sync := (s.tracker (s.feedOf k)).state == .tracking, delay := look s.settings.openDelay k,
          pulse := look s.settings.pulseLength k, retry := 0, metRising := false, metFalling := false, feedLeft := false } ∧
      s.SameOutside t ∧
      (∀ x, t.port x = (s.port x).offer
        { body := .actionEnded k e.id e.kind .preempted .none,
          source := { origin := some e.origin, sweep := e.sweep, tag := e.tag }, stamp := s.stamp }) ∧
      (s.LinesLive → e.phase = .closing → ∃ w, (State.ended (((s.setDriver k { s.driver k with coil := .released }).setSlots
          (s.slots.erase k)).driverFree k |>.moved k .unknown) e .preempted .none).CloseEnds (s.branchOf k) e.id w ∧
        t = w.setDriver k { w.driver k with state := (t.driver k).state, step := (t.driver k).step })) ∧
  ∀ (k : Outlet) (st : Step) (s : State), s.resetHeld = false → (s.driver k).state = .pulse →
    (s.driver k).step = some st →
    (0 < (s.driver k).pulseCount → exec (.pulseEnd k) s = .next s) ∧
    ((s.driver k).pulseCount = 0 → (∀ e, s.entryOf k = some e → e.preempt = false) →
      (st.sync = true → st.feedLeft = false → exec (.pulseEnd k) s = .next ((s.setDriver k { s.driver k with
          state := .verify, coil := .released, skip := 16, observe := 192, activeSeen := false,
          pulseCount := 0 }).setSlots (s.slots.erase k))) ∧
      (st.sync = false ∨ st.feedLeft = true → ∃ t, exec (.pulseEnd k) s = .next t ∧
        t.contact k = (if st.direction = .close then .closed else .opened) ∧ (t.driver k).coil = .released ∧
        t.slots = s.slots.erase k ∧ s.ActsOnly t ∧
        (s.EntriesDistinct → s.LinesLive →
          ((s.setDriver k { s.driver k with coil := .released }).setSlots (s.slots.erase k)).StepEnds k st .unverified t)))

/-- VERIFY_WINDOW_END does nothing while a count of the window is above 0, or out of VERIFY (R114). With both counts at 0: a
step that passes sets the contact it commanded, leaves the driver IDLE and ends its entry's step: a CYCLE in OPENING enters
OFF_HOLD, any other entry is DONE, and the close in progress ends (R116, R77, R79, R98); a first failure waits for a second
pulse, unless a shed branch has its close withdrawn; a second failure, the outlet's entry standing in no waiting line, is a
relay fault with the contact it shows, a pending verdict withdrawn, RELAY_FAULT, and the entry FAILED (R118, R149, R82). That the row acts with both counts at 0 is the model's choice (assumption 3), the end of a second failure in
a shed branch its reading (assumption 7). -/
def Obligations.VerifyWindowDecidesTheStep : Prop :=
  (∀ (k : Outlet) (s : State), (s.driver k).state ≠ .verify ∨ (s.driver k).skip ≠ 0 ∨ (s.driver k).observe ≠ 0 →
    exec (.verifyWindowEnd k) s = .next s) ∧
  ∀ (k : Outlet) (st : Step) (s : State), s.resetHeld = false → (s.driver k).state = .verify →
    (s.driver k).step = some st → (s.driver k).skip = 0 → (s.driver k).observe = 0 → s.EntriesDistinct →
    ((st.direction = .close ∧ (s.driver k).activeSeen = true ∨ st.direction = .opening ∧ (s.driver k).activeSeen = false) →
      ∃ t, exec (.verifyWindowEnd k) s = .next t ∧
        t.contact k = (if st.direction = .close then .closed else .opened) ∧ s.ActsOnly t ∧
        (s.LinesLive → s.StepEnds k st .verified t)) ∧
    ((st.direction = .close ∧ (s.driver k).activeSeen = false ∨ st.direction = .opening ∧ (s.driver k).activeSeen = true) →
      (st.retry = 0 → (st.direction = .opening ∨ st.source ≠ .entry ∨
          (s.protection (s.branchOf k)).state = .normal ∨ (s.protection (s.branchOf k)).state = .restoring) →
        exec (.verifyWindowEnd k) s = .next (s.setDriver k { s.driver k with
          state := .waitPhase, skip := 0, observe := 0, activeSeen := false,
          step := some { st with retry := 1, metRising := false, metFalling := false } })) ∧
      (st.retry = 0 → st.direction = .close → st.source = .entry →
        (s.protection (s.branchOf k)).state = .shed ∨ (s.protection (s.branchOf k)).state = .restartWait →
        ∀ e, s.entryOf k = some e → ∃ t e', exec (.verifyWindowEnd k) s = .next t ∧ t.entryOf k = some e' ∧
          e'.phase = .waitAdmit ∧ e'.begun = e.begun ∧
          (t.sequencer (s.branchOf k)).line.head? = some e.id ∧ (t.sequencer (s.branchOf k)).inProgress = none ∧
          (t.sequencer (s.branchOf k)).stagger = (if (s.sequencer (s.branchOf k)).pulseMark = true then 0
            else (s.sequencer (s.branchOf k)).stagger) ∧ (t.driver k).step = none ∧
          (t.driver k).state = .idle ∧ t.contact k = s.contact k ∧ t.ports = s.ports ∧ s.SameOutside t) ∧
      (st.retry ≠ 0 → (∀ e, s.entryOf k = some e → e.id ∉ (s.sequencer (s.branchOf k)).line) →
        ∃ t, exec (.verifyWindowEnd k) s = .next t ∧ (t.driver k).state = .faulted ∧
        (t.driver k).fault = some (if st.direction = .close then .stuckOpen else .stuckClosed) ∧
        t.contact k = (if st.direction = .close then .opened else .closed) ∧ t.entryOf k = none ∧ s.ActsOnly t ∧
        let f := if st.direction = .close then RelayFault.stuckOpen else .stuckClosed
        let shown := (s.setDriver k { (s.driverFree k).driver k with state := .faulted, fault := some f }).moved k
          (if st.direction = .close then .opened else .closed)
        let faulted := (shown.setMonitor k (shown.monitor k).withdrawn).told (.relayFault k f false)
        (st.source = .entry → ∀ e, s.entryOf k = some e →
          ((faulted { origin := some e.origin, sweep := e.sweep, tag := e.tag }).ended e .failed
            (if st.direction = .close then .stuckOpen else .stuckClosed)).CloseEnds (s.branchOf k) e.id t) ∧
        (st.source ≠ .entry → ∀ e, s.entryOf k = some e →
          ((faulted EventOrigin.nobody).ended e .failed
            (if st.direction = .close then .stuckOpen else .stuckClosed)).CloseEnds (s.branchOf k) e.id t) ∧
        (s.entryOf k = none → t = faulted EventOrigin.nobody)))

/-- VERDICT where the silence stands at the window length and the outlet is not paused makes the stall test (R144: the band
is 0, or there is evidence whose spread is within the band) and acts by R145 and R147, a pending verdict making its one try of
the arrival at once (R148); elsewhere it does nothing. MONITOR_PLACEMENT of a pending verdict places a CYCLE of origin MONITOR and raises the retry count; a hold makes it a
report, a fault or a branch that is not NORMAL leaves it pending, as does an entry or a full queue (R148); GRACE_EXPIRY at 0
returns the monitor to WATCHING with the retry count kept. That each row acts where its rule's condition stands and nowhere
else is the model's choice (assumption 3). -/
def Obligations.MonitorsJudgeAndPlace : Prop :=
  (∀ (k : Outlet) (s : State), (s.monitor k).state ≠ .watching ∨ (s.monitor k).silence < look s.settings.monWindow k * 3840 ∨
    s.contact k ≠ .closed ∨ s.entryOf k ≠ none ∨ (s.driver k).fault ≠ none → exec (.verdict k) s = .next s) ∧
  (∀ (k : Outlet) (s : State), (s.monitor k).state ≠ .expired ∨ (s.monitor k).placementPending = false ∨
    s.entryOf k ≠ none ∨ 16 ≤ s.entries.length ∨
    s.hold k = none ∧ ((s.driver k).fault ≠ none ∨ (s.protection (s.branchOf k)).state ≠ .normal) →
    exec (.monitorPlacement k) s = .next s) ∧
  (∀ (k : Outlet) (s : State), s.resetHeld = false → (s.monitor k).state = .expired →
    (s.monitor k).placementPending = true → s.entryOf k = none → s.entries.length < 16 → s.hold k ≠ none →
    ∃ t, exec (.monitorPlacement k) s = .next t ∧
      t.monitor k = { s.monitor k with state := .reported, placementPending := false } ∧
      { t with monitors := s.monitors, ports := s.ports } = s ∧ s.ActsOnly t) ∧
  (∀ (k : Outlet) (s : State), (s.monitor k).state ≠ .grace → exec (.graceExpiry k) s = .next s) ∧
  (∀ (k : Outlet) (s : State), s.resetHeld = false → (s.monitor k).state = .watching →
    look s.settings.monWindow k * 3840 ≤ (s.monitor k).silence → s.contact k = .closed → s.entryOf k = none →
    (s.driver k).fault = none →
    let band := look s.settings.stallBand k
    let stalls := band = 0 ∨
      (s.monitor k).evidence ≠ 0 ∧ ∃ lo hi : Int, (s.monitor k).spread = some (lo, hi) ∧ hi - lo ≤ band
    (¬stalls → ∃ t, exec (.verdict k) s = .next t ∧
      t.monitor k = { s.monitor k with state := .suspect, activeMark := true } ∧
      (∀ x, t.port x = if (s.monitor k).activeMark = true then s.port x else (s.port x).offer
        { body := .hangActive k (s.monitor k).silence (s.monitor k).evidence (s.monitor k).spread,
          source := EventOrigin.nobody, stamp := s.stamp }) ∧
      { t with monitors := s.monitors, ports := s.ports } = s ∧ s.ActsOnly t) ∧
    (stalls → (look s.settings.monAction k = .report ∨ s.hold k ≠ none) →
      ∃ t, exec (.verdict k) s = .next t ∧
        t.monitor k = { s.monitor k with state := .reported, placementPending := false } ∧
        { t with monitors := s.monitors, ports := s.ports } = s ∧ s.ActsOnly t) ∧
    (stalls → look s.settings.monAction k = .cycle → s.hold k = none →
      look s.settings.retryLimit k ≤ (s.monitor k).retries → ∃ t, exec (.verdict k) s = .next t ∧
        t.monitor k = { s.monitor k with state := .gaveUp } ∧
        { t with monitors := s.monitors, ports := s.ports } = s ∧ s.ActsOnly t) ∧
    (stalls → look s.settings.monAction k = .cycle → s.hold k = none →
      (s.monitor k).retries < look s.settings.retryLimit k → ∃ t, exec (.verdict k) s = .next t ∧
        (t.monitor k).state = .expired ∧ (∀ j, j ≠ k → t.monitor j = s.monitor j) ∧ t.protections = s.protections ∧
        exec (.monitorPlacement k)
          { s.setMonitor k { s.monitor k with state := .expired, placementPending := true } with
            handling := s.handling.map fun h => { h with tried := k :: h.tried } } = .next t ∧
        s.ActsOnly t)) ∧
  (∀ (k : Outlet) (s : State), s.resetHeld = false → (s.monitor k).state = .expired →
    (s.monitor k).placementPending = true → s.entryOf k = none → s.entries.length < 16 → s.hold k = none →
    (s.driver k).fault = none → (s.protection (s.branchOf k)).state = .normal → s.EntriesDistinct →
    ∃ t e, exec (.monitorPlacement k) s = .next t ∧ t.entryOf k = some e ∧ e.kind = .cycle ∧ e.origin = .monitor ∧
      e.sweep = false ∧ e.tag = none ∧ e.offTime = look s.settings.cycleOff k ∧ t.isTripped k = false ∧
      t.monitor k = { s.monitor k with placementPending := false, retries := (s.monitor k).retries + 1 } ∧
      (∀ j, j ≠ k → t.monitor j = s.monitor j ∧ t.isTripped j = s.isTripped j ∧ t.driver j = s.driver j) ∧
      t.protections = s.protections ∧ s.ActsOnly t) ∧
  ∀ (k : Outlet) (s : State), s.resetHeld = false → (s.monitor k).state = .grace →
    ((s.monitor k).grace = 0 → exec (.graceExpiry k) s = .next (s.setMonitor k { s.monitor k with
      state := .watching, silence := 0, evidence := 0, spread := none, activeMark := false })) ∧
    (0 < (s.monitor k).grace → exec (.graceExpiry k) s = .next s)
end

