-- ==== Sys2Proof/Laws/State.lean ====
section
/-! SUPPORT. The small lemmas of the state's updates: each field after each update, each record read back, and the tables. -/

namespace Sys2Proof

theorem look_put_self {α : Type} {n : Nat} (v : Vector α n) (k : Fin n) (x : α) : look (put v k x) k = x := by
  simp [look, put]

theorem look_put_other {α : Type} {n : Nat} (v : Vector α n) {j k : Fin n} (x : α) (h : k ≠ j) :
    look (put v j x) k = look v k := by
  have : j.val ≠ k.val := fun e => h (Fin.ext e.symm)
  simp [look, put, this]

theorem look_put {α : Type} {n : Nat} (v : Vector α n) (j k : Fin n) (x : α) :
    look (put v j x) k = if k = j then x else look v k := by
  by_cases h : k = j
  · subst h; simp [look_put_self]
  · simp [h, look_put_other v x h]

@[simp] theorem look_fill {α : Type} {n : Nat} (x : α) (k : Fin n) : look (fill n x) k = x := by simp [look, fill]

theorem put_look_self {α : Type} {n : Nat} (v : Vector α n) (k : Fin n) : put v k (look v k) = v := by
  simp [look, put]

theorem ext_look {α : Type} {n : Nat} {v w : Vector α n} (h : ∀ k, look v k = look w k) : v = w := by
  apply Vector.ext
  intro i hi
  exact h ⟨i, hi⟩

@[simp] theorem look_tab24 {α : Type} (f : Outlet → α) (k : Outlet) : look (tab24 f) k = f k := by
  fin_cases k <;> rfl

@[simp] theorem look_tab6 {α : Type} (f : Branch → α) (k : Branch) : look (tab6 f) k = f k := by
  fin_cases k <;> rfl

@[simp] theorem look_tab3 {α : Type} (f : Feed → α) (k : Feed) : look (tab3 f) k = f k := by
  fin_cases k <;> rfl

@[simp] theorem PerLink.get_set_self {α : Type} (v : PerLink α) (x : Link) (y : α) : (v.set x y).get x = y := by
  cases x <;> rfl

@[simp] theorem PerLink.get_set_other {α : Type} (v : PerLink α) (x : Link) (y : α) :
    (v.set x.other y).get x = v.get x := by
  cases x <;> rfl

@[simp] theorem PerLink.get_other_set {α : Type} (v : PerLink α) (x : Link) (y : α) :
    (v.set x y).get x.other = v.get x.other := by
  cases x <;> rfl

theorem PerLink.get_set {α : Type} (v : PerLink α) (x z : Link) (y : α) :
    (v.set x y).get z = if z = x then y else v.get z := by
  cases x <;> cases z <;> rfl

theorem PerLink.set_get_self {α : Type} (v : PerLink α) (x : Link) : v.set x (v.get x) = v := by
  cases x <;> rfl

@[simp] theorem PerLink.set_set {α : Type} (v : PerLink α) (x : Link) (y z : α) : (v.set x y).set x z = v.set x z := by
  cases x <;> rfl

@[simp] theorem Link.other_other (x : Link) : x.other.other = x := by cases x <;> rfl

theorem Link.other_ne (x : Link) : x.other ≠ x := by cases x <;> simp [Link.other]

theorem Link.eq_or_other (x y : Link) : y = x ∨ y = x.other := by cases x <;> cases y <;> simp [Link.other]

@[simp] theorem mem_allOutlets (k : Outlet) : k ∈ allOutlets := by fin_cases k <;> decide

@[simp] theorem mem_allBranches (b : Branch) : b ∈ allBranches := by fin_cases b <;> decide

@[simp] theorem mem_allFeeds (f : Feed) : f ∈ allFeeds := by fin_cases f <;> decide

theorem nodup_allOutlets : allOutlets.Nodup := by decide

namespace Machine

/-! ### setTracker -/

@[simp] theorem State.setTracker_resetHeld (s : State) (k : Feed) (v : Tracker) : (s.setTracker k v).resetHeld = s.resetHeld := rfl
@[simp] theorem State.setTracker_sampleCounter (s : State) (k : Feed) (v : Tracker) : (s.setTracker k v).sampleCounter = s.sampleCounter := rfl
@[simp] theorem State.setTracker_seconds (s : State) (k : Feed) (v : Tracker) : (s.setTracker k v).seconds = s.seconds := rfl
@[simp] theorem State.setTracker_subSecond (s : State) (k : Feed) (v : Tracker) : (s.setTracker k v).subSecond = s.subSecond := rfl
@[simp] theorem State.setTracker_stamp (s : State) (k : Feed) (v : Tracker) : (s.setTracker k v).stamp = s.stamp := rfl
@[simp] theorem State.setTracker_handed (s : State) (k : Feed) (v : Tracker) : (s.setTracker k v).handed = s.handed := rfl
@[simp] theorem State.setTracker_senseAge (s : State) (k : Feed) (v : Tracker) : (s.setTracker k v).senseAge = s.senseAge := rfl
@[simp] theorem State.setTracker_breakers (s : State) (k : Feed) (v : Tracker) : (s.setTracker k v).breakers = s.breakers := rfl
@[simp] theorem State.setTracker_meters (s : State) (k : Feed) (v : Tracker) : (s.setTracker k v).meters = s.meters := rfl
@[simp] theorem State.setTracker_energy (s : State) (k : Feed) (v : Tracker) : (s.setTracker k v).energy = s.energy := rfl
@[simp] theorem State.setTracker_entries (s : State) (k : Feed) (v : Tracker) : (s.setTracker k v).entries = s.entries := rfl
@[simp] theorem State.setTracker_nextId (s : State) (k : Feed) (v : Tracker) : (s.setTracker k v).nextId = s.nextId := rfl
@[simp] theorem State.setTracker_holds (s : State) (k : Feed) (v : Tracker) : (s.setTracker k v).holds = s.holds := rfl
@[simp] theorem State.setTracker_tripped (s : State) (k : Feed) (v : Tracker) : (s.setTracker k v).tripped = s.tripped := rfl
@[simp] theorem State.setTracker_handling (s : State) (k : Feed) (v : Tracker) : (s.setTracker k v).handling = s.handling := rfl
@[simp] theorem State.setTracker_sequencers (s : State) (k : Feed) (v : Tracker) : (s.setTracker k v).sequencers = s.sequencers := rfl
@[simp] theorem State.setTracker_drivers (s : State) (k : Feed) (v : Tracker) : (s.setTracker k v).drivers = s.drivers := rfl
@[simp] theorem State.setTracker_slots (s : State) (k : Feed) (v : Tracker) : (s.setTracker k v).slots = s.slots := rfl
@[simp] theorem State.setTracker_protections (s : State) (k : Feed) (v : Tracker) : (s.setTracker k v).protections = s.protections := rfl
@[simp] theorem State.setTracker_tripRuns (s : State) (k : Feed) (v : Tracker) : (s.setTracker k v).tripRuns = s.tripRuns := rfl
@[simp] theorem State.setTracker_monitors (s : State) (k : Feed) (v : Tracker) : (s.setTracker k v).monitors = s.monitors := rfl
@[simp] theorem State.setTracker_sweeps (s : State) (k : Feed) (v : Tracker) : (s.setTracker k v).sweeps = s.sweeps := rfl
@[simp] theorem State.setTracker_banks (s : State) (k : Feed) (v : Tracker) : (s.setTracker k v).banks = s.banks := rfl
@[simp] theorem State.setTracker_ports (s : State) (k : Feed) (v : Tracker) : (s.setTracker k v).ports = s.ports := rfl
@[simp] theorem State.setTracker_targetAddress (s : State) (k : Feed) (v : Tracker) : (s.setTracker k v).targetAddress = s.targetAddress := rfl
@[simp] theorem State.setTracker_settings (s : State) (k : Feed) (v : Tracker) : (s.setTracker k v).settings = s.settings := rfl
@[simp] theorem State.setTracker_generation (s : State) (k : Feed) (v : Tracker) : (s.setTracker k v).generation = s.generation := rfl
@[simp] theorem State.setTracker_pending (s : State) (k : Feed) (v : Tracker) : (s.setTracker k v).pending = s.pending := rfl
theorem State.setTracker_tracker (s : State) (k : Feed) (v : Tracker) (j : Feed) :
    (s.setTracker k v).tracker j = if j = k then v else s.tracker j := look_put ..
@[simp] theorem State.setTracker_tracker_self (s : State) (k : Feed) (v : Tracker) : (s.setTracker k v).tracker k = v := look_put_self ..
@[simp] theorem State.setTracker_meter (s : State) (k : Feed) (v : Tracker) (j : Outlet) : (s.setTracker k v).meter j = s.meter j := rfl
@[simp] theorem State.setTracker_energyOf (s : State) (k : Feed) (v : Tracker) (j : Outlet) : (s.setTracker k v).energyOf j = s.energyOf j := rfl
@[simp] theorem State.setTracker_hold (s : State) (k : Feed) (v : Tracker) (j : Outlet) : (s.setTracker k v).hold j = s.hold j := rfl
@[simp] theorem State.setTracker_isTripped (s : State) (k : Feed) (v : Tracker) (j : Outlet) : (s.setTracker k v).isTripped j = s.isTripped j := rfl
@[simp] theorem State.setTracker_sequencer (s : State) (k : Feed) (v : Tracker) (j : Branch) : (s.setTracker k v).sequencer j = s.sequencer j := rfl
@[simp] theorem State.setTracker_driver (s : State) (k : Feed) (v : Tracker) (j : Outlet) : (s.setTracker k v).driver j = s.driver j := rfl
@[simp] theorem State.setTracker_protection (s : State) (k : Feed) (v : Tracker) (j : Branch) : (s.setTracker k v).protection j = s.protection j := rfl
@[simp] theorem State.setTracker_tripRun (s : State) (k : Feed) (v : Tracker) (j : Outlet) : (s.setTracker k v).tripRun j = s.tripRun j := rfl
@[simp] theorem State.setTracker_monitor (s : State) (k : Feed) (v : Tracker) (j : Outlet) : (s.setTracker k v).monitor j = s.monitor j := rfl
@[simp] theorem State.setTracker_age (s : State) (k : Feed) (v : Tracker) (j : Outlet) : (s.setTracker k v).age j = s.age j := rfl
@[simp] theorem State.setTracker_breaker (s : State) (k : Feed) (v : Tracker) (j : Branch) : (s.setTracker k v).breaker j = s.breaker j := rfl
@[simp] theorem State.setTracker_sweepEngine (s : State) (k : Feed) (v : Tracker) (y : Link) : (s.setTracker k v).sweepEngine y = s.sweepEngine y := rfl
@[simp] theorem State.setTracker_bankPort (s : State) (k : Feed) (v : Tracker) (y : Link) : (s.setTracker k v).bankPort y = s.bankPort y := rfl
@[simp] theorem State.setTracker_port (s : State) (k : Feed) (v : Tracker) (y : Link) : (s.setTracker k v).port y = s.port y := rfl

/-! ### setMeter -/

@[simp] theorem State.setMeter_resetHeld (s : State) (k : Outlet) (v : Meter) : (s.setMeter k v).resetHeld = s.resetHeld := rfl
@[simp] theorem State.setMeter_sampleCounter (s : State) (k : Outlet) (v : Meter) : (s.setMeter k v).sampleCounter = s.sampleCounter := rfl
@[simp] theorem State.setMeter_seconds (s : State) (k : Outlet) (v : Meter) : (s.setMeter k v).seconds = s.seconds := rfl
@[simp] theorem State.setMeter_subSecond (s : State) (k : Outlet) (v : Meter) : (s.setMeter k v).subSecond = s.subSecond := rfl
@[simp] theorem State.setMeter_stamp (s : State) (k : Outlet) (v : Meter) : (s.setMeter k v).stamp = s.stamp := rfl
@[simp] theorem State.setMeter_handed (s : State) (k : Outlet) (v : Meter) : (s.setMeter k v).handed = s.handed := rfl
@[simp] theorem State.setMeter_senseAge (s : State) (k : Outlet) (v : Meter) : (s.setMeter k v).senseAge = s.senseAge := rfl
@[simp] theorem State.setMeter_breakers (s : State) (k : Outlet) (v : Meter) : (s.setMeter k v).breakers = s.breakers := rfl
@[simp] theorem State.setMeter_trackers (s : State) (k : Outlet) (v : Meter) : (s.setMeter k v).trackers = s.trackers := rfl
@[simp] theorem State.setMeter_energy (s : State) (k : Outlet) (v : Meter) : (s.setMeter k v).energy = s.energy := rfl
@[simp] theorem State.setMeter_entries (s : State) (k : Outlet) (v : Meter) : (s.setMeter k v).entries = s.entries := rfl
@[simp] theorem State.setMeter_nextId (s : State) (k : Outlet) (v : Meter) : (s.setMeter k v).nextId = s.nextId := rfl
@[simp] theorem State.setMeter_holds (s : State) (k : Outlet) (v : Meter) : (s.setMeter k v).holds = s.holds := rfl
@[simp] theorem State.setMeter_tripped (s : State) (k : Outlet) (v : Meter) : (s.setMeter k v).tripped = s.tripped := rfl
@[simp] theorem State.setMeter_handling (s : State) (k : Outlet) (v : Meter) : (s.setMeter k v).handling = s.handling := rfl
@[simp] theorem State.setMeter_sequencers (s : State) (k : Outlet) (v : Meter) : (s.setMeter k v).sequencers = s.sequencers := rfl
@[simp] theorem State.setMeter_drivers (s : State) (k : Outlet) (v : Meter) : (s.setMeter k v).drivers = s.drivers := rfl
@[simp] theorem State.setMeter_slots (s : State) (k : Outlet) (v : Meter) : (s.setMeter k v).slots = s.slots := rfl
@[simp] theorem State.setMeter_protections (s : State) (k : Outlet) (v : Meter) : (s.setMeter k v).protections = s.protections := rfl
@[simp] theorem State.setMeter_tripRuns (s : State) (k : Outlet) (v : Meter) : (s.setMeter k v).tripRuns = s.tripRuns := rfl
@[simp] theorem State.setMeter_monitors (s : State) (k : Outlet) (v : Meter) : (s.setMeter k v).monitors = s.monitors := rfl
@[simp] theorem State.setMeter_sweeps (s : State) (k : Outlet) (v : Meter) : (s.setMeter k v).sweeps = s.sweeps := rfl
@[simp] theorem State.setMeter_banks (s : State) (k : Outlet) (v : Meter) : (s.setMeter k v).banks = s.banks := rfl
@[simp] theorem State.setMeter_ports (s : State) (k : Outlet) (v : Meter) : (s.setMeter k v).ports = s.ports := rfl
@[simp] theorem State.setMeter_targetAddress (s : State) (k : Outlet) (v : Meter) : (s.setMeter k v).targetAddress = s.targetAddress := rfl
@[simp] theorem State.setMeter_settings (s : State) (k : Outlet) (v : Meter) : (s.setMeter k v).settings = s.settings := rfl
@[simp] theorem State.setMeter_generation (s : State) (k : Outlet) (v : Meter) : (s.setMeter k v).generation = s.generation := rfl
@[simp] theorem State.setMeter_pending (s : State) (k : Outlet) (v : Meter) : (s.setMeter k v).pending = s.pending := rfl
@[simp] theorem State.setMeter_tracker (s : State) (k : Outlet) (v : Meter) (j : Feed) : (s.setMeter k v).tracker j = s.tracker j := rfl
theorem State.setMeter_meter (s : State) (k : Outlet) (v : Meter) (j : Outlet) :
    (s.setMeter k v).meter j = if j = k then v else s.meter j := look_put ..
@[simp] theorem State.setMeter_meter_self (s : State) (k : Outlet) (v : Meter) : (s.setMeter k v).meter k = v := look_put_self ..
@[simp] theorem State.setMeter_energyOf (s : State) (k : Outlet) (v : Meter) (j : Outlet) : (s.setMeter k v).energyOf j = s.energyOf j := rfl
@[simp] theorem State.setMeter_hold (s : State) (k : Outlet) (v : Meter) (j : Outlet) : (s.setMeter k v).hold j = s.hold j := rfl
@[simp] theorem State.setMeter_isTripped (s : State) (k : Outlet) (v : Meter) (j : Outlet) : (s.setMeter k v).isTripped j = s.isTripped j := rfl
@[simp] theorem State.setMeter_sequencer (s : State) (k : Outlet) (v : Meter) (j : Branch) : (s.setMeter k v).sequencer j = s.sequencer j := rfl
@[simp] theorem State.setMeter_driver (s : State) (k : Outlet) (v : Meter) (j : Outlet) : (s.setMeter k v).driver j = s.driver j := rfl
@[simp] theorem State.setMeter_protection (s : State) (k : Outlet) (v : Meter) (j : Branch) : (s.setMeter k v).protection j = s.protection j := rfl
@[simp] theorem State.setMeter_tripRun (s : State) (k : Outlet) (v : Meter) (j : Outlet) : (s.setMeter k v).tripRun j = s.tripRun j := rfl
@[simp] theorem State.setMeter_monitor (s : State) (k : Outlet) (v : Meter) (j : Outlet) : (s.setMeter k v).monitor j = s.monitor j := rfl
@[simp] theorem State.setMeter_age (s : State) (k : Outlet) (v : Meter) (j : Outlet) : (s.setMeter k v).age j = s.age j := rfl
@[simp] theorem State.setMeter_breaker (s : State) (k : Outlet) (v : Meter) (j : Branch) : (s.setMeter k v).breaker j = s.breaker j := rfl
@[simp] theorem State.setMeter_sweepEngine (s : State) (k : Outlet) (v : Meter) (y : Link) : (s.setMeter k v).sweepEngine y = s.sweepEngine y := rfl
@[simp] theorem State.setMeter_bankPort (s : State) (k : Outlet) (v : Meter) (y : Link) : (s.setMeter k v).bankPort y = s.bankPort y := rfl
@[simp] theorem State.setMeter_port (s : State) (k : Outlet) (v : Meter) (y : Link) : (s.setMeter k v).port y = s.port y := rfl

/-! ### setEnergy -/

@[simp] theorem State.setEnergy_resetHeld (s : State) (k : Outlet) (v : Energy) : (s.setEnergy k v).resetHeld = s.resetHeld := rfl
@[simp] theorem State.setEnergy_sampleCounter (s : State) (k : Outlet) (v : Energy) : (s.setEnergy k v).sampleCounter = s.sampleCounter := rfl
@[simp] theorem State.setEnergy_seconds (s : State) (k : Outlet) (v : Energy) : (s.setEnergy k v).seconds = s.seconds := rfl
@[simp] theorem State.setEnergy_subSecond (s : State) (k : Outlet) (v : Energy) : (s.setEnergy k v).subSecond = s.subSecond := rfl
@[simp] theorem State.setEnergy_stamp (s : State) (k : Outlet) (v : Energy) : (s.setEnergy k v).stamp = s.stamp := rfl
@[simp] theorem State.setEnergy_handed (s : State) (k : Outlet) (v : Energy) : (s.setEnergy k v).handed = s.handed := rfl
@[simp] theorem State.setEnergy_senseAge (s : State) (k : Outlet) (v : Energy) : (s.setEnergy k v).senseAge = s.senseAge := rfl
@[simp] theorem State.setEnergy_breakers (s : State) (k : Outlet) (v : Energy) : (s.setEnergy k v).breakers = s.breakers := rfl
@[simp] theorem State.setEnergy_trackers (s : State) (k : Outlet) (v : Energy) : (s.setEnergy k v).trackers = s.trackers := rfl
@[simp] theorem State.setEnergy_meters (s : State) (k : Outlet) (v : Energy) : (s.setEnergy k v).meters = s.meters := rfl
@[simp] theorem State.setEnergy_entries (s : State) (k : Outlet) (v : Energy) : (s.setEnergy k v).entries = s.entries := rfl
@[simp] theorem State.setEnergy_nextId (s : State) (k : Outlet) (v : Energy) : (s.setEnergy k v).nextId = s.nextId := rfl
@[simp] theorem State.setEnergy_holds (s : State) (k : Outlet) (v : Energy) : (s.setEnergy k v).holds = s.holds := rfl
@[simp] theorem State.setEnergy_tripped (s : State) (k : Outlet) (v : Energy) : (s.setEnergy k v).tripped = s.tripped := rfl
@[simp] theorem State.setEnergy_handling (s : State) (k : Outlet) (v : Energy) : (s.setEnergy k v).handling = s.handling := rfl
@[simp] theorem State.setEnergy_sequencers (s : State) (k : Outlet) (v : Energy) : (s.setEnergy k v).sequencers = s.sequencers := rfl
@[simp] theorem State.setEnergy_drivers (s : State) (k : Outlet) (v : Energy) : (s.setEnergy k v).drivers = s.drivers := rfl
@[simp] theorem State.setEnergy_slots (s : State) (k : Outlet) (v : Energy) : (s.setEnergy k v).slots = s.slots := rfl
@[simp] theorem State.setEnergy_protections (s : State) (k : Outlet) (v : Energy) : (s.setEnergy k v).protections = s.protections := rfl
@[simp] theorem State.setEnergy_tripRuns (s : State) (k : Outlet) (v : Energy) : (s.setEnergy k v).tripRuns = s.tripRuns := rfl
@[simp] theorem State.setEnergy_monitors (s : State) (k : Outlet) (v : Energy) : (s.setEnergy k v).monitors = s.monitors := rfl
@[simp] theorem State.setEnergy_sweeps (s : State) (k : Outlet) (v : Energy) : (s.setEnergy k v).sweeps = s.sweeps := rfl
@[simp] theorem State.setEnergy_banks (s : State) (k : Outlet) (v : Energy) : (s.setEnergy k v).banks = s.banks := rfl
@[simp] theorem State.setEnergy_ports (s : State) (k : Outlet) (v : Energy) : (s.setEnergy k v).ports = s.ports := rfl
@[simp] theorem State.setEnergy_targetAddress (s : State) (k : Outlet) (v : Energy) : (s.setEnergy k v).targetAddress = s.targetAddress := rfl
@[simp] theorem State.setEnergy_settings (s : State) (k : Outlet) (v : Energy) : (s.setEnergy k v).settings = s.settings := rfl
@[simp] theorem State.setEnergy_generation (s : State) (k : Outlet) (v : Energy) : (s.setEnergy k v).generation = s.generation := rfl
@[simp] theorem State.setEnergy_pending (s : State) (k : Outlet) (v : Energy) : (s.setEnergy k v).pending = s.pending := rfl
@[simp] theorem State.setEnergy_tracker (s : State) (k : Outlet) (v : Energy) (j : Feed) : (s.setEnergy k v).tracker j = s.tracker j := rfl
@[simp] theorem State.setEnergy_meter (s : State) (k : Outlet) (v : Energy) (j : Outlet) : (s.setEnergy k v).meter j = s.meter j := rfl
theorem State.setEnergy_energyOf (s : State) (k : Outlet) (v : Energy) (j : Outlet) :
    (s.setEnergy k v).energyOf j = if j = k then v else s.energyOf j := look_put ..
@[simp] theorem State.setEnergy_energyOf_self (s : State) (k : Outlet) (v : Energy) : (s.setEnergy k v).energyOf k = v := look_put_self ..
@[simp] theorem State.setEnergy_hold (s : State) (k : Outlet) (v : Energy) (j : Outlet) : (s.setEnergy k v).hold j = s.hold j := rfl
@[simp] theorem State.setEnergy_isTripped (s : State) (k : Outlet) (v : Energy) (j : Outlet) : (s.setEnergy k v).isTripped j = s.isTripped j := rfl
@[simp] theorem State.setEnergy_sequencer (s : State) (k : Outlet) (v : Energy) (j : Branch) : (s.setEnergy k v).sequencer j = s.sequencer j := rfl
@[simp] theorem State.setEnergy_driver (s : State) (k : Outlet) (v : Energy) (j : Outlet) : (s.setEnergy k v).driver j = s.driver j := rfl
@[simp] theorem State.setEnergy_protection (s : State) (k : Outlet) (v : Energy) (j : Branch) : (s.setEnergy k v).protection j = s.protection j := rfl
@[simp] theorem State.setEnergy_tripRun (s : State) (k : Outlet) (v : Energy) (j : Outlet) : (s.setEnergy k v).tripRun j = s.tripRun j := rfl
@[simp] theorem State.setEnergy_monitor (s : State) (k : Outlet) (v : Energy) (j : Outlet) : (s.setEnergy k v).monitor j = s.monitor j := rfl
@[simp] theorem State.setEnergy_age (s : State) (k : Outlet) (v : Energy) (j : Outlet) : (s.setEnergy k v).age j = s.age j := rfl
@[simp] theorem State.setEnergy_breaker (s : State) (k : Outlet) (v : Energy) (j : Branch) : (s.setEnergy k v).breaker j = s.breaker j := rfl
@[simp] theorem State.setEnergy_sweepEngine (s : State) (k : Outlet) (v : Energy) (y : Link) : (s.setEnergy k v).sweepEngine y = s.sweepEngine y := rfl
@[simp] theorem State.setEnergy_bankPort (s : State) (k : Outlet) (v : Energy) (y : Link) : (s.setEnergy k v).bankPort y = s.bankPort y := rfl
@[simp] theorem State.setEnergy_port (s : State) (k : Outlet) (v : Energy) (y : Link) : (s.setEnergy k v).port y = s.port y := rfl

/-! ### setHold -/

@[simp] theorem State.setHold_resetHeld (s : State) (k : Outlet) (v : Option Link) : (s.setHold k v).resetHeld = s.resetHeld := rfl
@[simp] theorem State.setHold_sampleCounter (s : State) (k : Outlet) (v : Option Link) : (s.setHold k v).sampleCounter = s.sampleCounter := rfl
@[simp] theorem State.setHold_seconds (s : State) (k : Outlet) (v : Option Link) : (s.setHold k v).seconds = s.seconds := rfl
@[simp] theorem State.setHold_subSecond (s : State) (k : Outlet) (v : Option Link) : (s.setHold k v).subSecond = s.subSecond := rfl
@[simp] theorem State.setHold_stamp (s : State) (k : Outlet) (v : Option Link) : (s.setHold k v).stamp = s.stamp := rfl
@[simp] theorem State.setHold_handed (s : State) (k : Outlet) (v : Option Link) : (s.setHold k v).handed = s.handed := rfl
@[simp] theorem State.setHold_senseAge (s : State) (k : Outlet) (v : Option Link) : (s.setHold k v).senseAge = s.senseAge := rfl
@[simp] theorem State.setHold_breakers (s : State) (k : Outlet) (v : Option Link) : (s.setHold k v).breakers = s.breakers := rfl
@[simp] theorem State.setHold_trackers (s : State) (k : Outlet) (v : Option Link) : (s.setHold k v).trackers = s.trackers := rfl
@[simp] theorem State.setHold_meters (s : State) (k : Outlet) (v : Option Link) : (s.setHold k v).meters = s.meters := rfl
@[simp] theorem State.setHold_energy (s : State) (k : Outlet) (v : Option Link) : (s.setHold k v).energy = s.energy := rfl
@[simp] theorem State.setHold_entries (s : State) (k : Outlet) (v : Option Link) : (s.setHold k v).entries = s.entries := rfl
@[simp] theorem State.setHold_nextId (s : State) (k : Outlet) (v : Option Link) : (s.setHold k v).nextId = s.nextId := rfl
@[simp] theorem State.setHold_tripped (s : State) (k : Outlet) (v : Option Link) : (s.setHold k v).tripped = s.tripped := rfl
@[simp] theorem State.setHold_handling (s : State) (k : Outlet) (v : Option Link) : (s.setHold k v).handling = s.handling := rfl
@[simp] theorem State.setHold_sequencers (s : State) (k : Outlet) (v : Option Link) : (s.setHold k v).sequencers = s.sequencers := rfl
@[simp] theorem State.setHold_drivers (s : State) (k : Outlet) (v : Option Link) : (s.setHold k v).drivers = s.drivers := rfl
@[simp] theorem State.setHold_slots (s : State) (k : Outlet) (v : Option Link) : (s.setHold k v).slots = s.slots := rfl
@[simp] theorem State.setHold_protections (s : State) (k : Outlet) (v : Option Link) : (s.setHold k v).protections = s.protections := rfl
@[simp] theorem State.setHold_tripRuns (s : State) (k : Outlet) (v : Option Link) : (s.setHold k v).tripRuns = s.tripRuns := rfl
@[simp] theorem State.setHold_monitors (s : State) (k : Outlet) (v : Option Link) : (s.setHold k v).monitors = s.monitors := rfl
@[simp] theorem State.setHold_sweeps (s : State) (k : Outlet) (v : Option Link) : (s.setHold k v).sweeps = s.sweeps := rfl
@[simp] theorem State.setHold_banks (s : State) (k : Outlet) (v : Option Link) : (s.setHold k v).banks = s.banks := rfl
@[simp] theorem State.setHold_ports (s : State) (k : Outlet) (v : Option Link) : (s.setHold k v).ports = s.ports := rfl
@[simp] theorem State.setHold_targetAddress (s : State) (k : Outlet) (v : Option Link) : (s.setHold k v).targetAddress = s.targetAddress := rfl
@[simp] theorem State.setHold_settings (s : State) (k : Outlet) (v : Option Link) : (s.setHold k v).settings = s.settings := rfl
@[simp] theorem State.setHold_generation (s : State) (k : Outlet) (v : Option Link) : (s.setHold k v).generation = s.generation := rfl
@[simp] theorem State.setHold_pending (s : State) (k : Outlet) (v : Option Link) : (s.setHold k v).pending = s.pending := rfl
@[simp] theorem State.setHold_tracker (s : State) (k : Outlet) (v : Option Link) (j : Feed) : (s.setHold k v).tracker j = s.tracker j := rfl
@[simp] theorem State.setHold_meter (s : State) (k : Outlet) (v : Option Link) (j : Outlet) : (s.setHold k v).meter j = s.meter j := rfl
@[simp] theorem State.setHold_energyOf (s : State) (k : Outlet) (v : Option Link) (j : Outlet) : (s.setHold k v).energyOf j = s.energyOf j := rfl
theorem State.setHold_hold (s : State) (k : Outlet) (v : Option Link) (j : Outlet) :
    (s.setHold k v).hold j = if j = k then v else s.hold j := look_put ..
@[simp] theorem State.setHold_hold_self (s : State) (k : Outlet) (v : Option Link) : (s.setHold k v).hold k = v := look_put_self ..
@[simp] theorem State.setHold_isTripped (s : State) (k : Outlet) (v : Option Link) (j : Outlet) : (s.setHold k v).isTripped j = s.isTripped j := rfl
@[simp] theorem State.setHold_sequencer (s : State) (k : Outlet) (v : Option Link) (j : Branch) : (s.setHold k v).sequencer j = s.sequencer j := rfl
@[simp] theorem State.setHold_driver (s : State) (k : Outlet) (v : Option Link) (j : Outlet) : (s.setHold k v).driver j = s.driver j := rfl
@[simp] theorem State.setHold_protection (s : State) (k : Outlet) (v : Option Link) (j : Branch) : (s.setHold k v).protection j = s.protection j := rfl
@[simp] theorem State.setHold_tripRun (s : State) (k : Outlet) (v : Option Link) (j : Outlet) : (s.setHold k v).tripRun j = s.tripRun j := rfl
@[simp] theorem State.setHold_monitor (s : State) (k : Outlet) (v : Option Link) (j : Outlet) : (s.setHold k v).monitor j = s.monitor j := rfl
@[simp] theorem State.setHold_age (s : State) (k : Outlet) (v : Option Link) (j : Outlet) : (s.setHold k v).age j = s.age j := rfl
@[simp] theorem State.setHold_breaker (s : State) (k : Outlet) (v : Option Link) (j : Branch) : (s.setHold k v).breaker j = s.breaker j := rfl
@[simp] theorem State.setHold_sweepEngine (s : State) (k : Outlet) (v : Option Link) (y : Link) : (s.setHold k v).sweepEngine y = s.sweepEngine y := rfl
@[simp] theorem State.setHold_bankPort (s : State) (k : Outlet) (v : Option Link) (y : Link) : (s.setHold k v).bankPort y = s.bankPort y := rfl
@[simp] theorem State.setHold_port (s : State) (k : Outlet) (v : Option Link) (y : Link) : (s.setHold k v).port y = s.port y := rfl

/-! ### setTripped -/

@[simp] theorem State.setTripped_resetHeld (s : State) (k : Outlet) (v : Bool) : (s.setTripped k v).resetHeld = s.resetHeld := rfl
@[simp] theorem State.setTripped_sampleCounter (s : State) (k : Outlet) (v : Bool) : (s.setTripped k v).sampleCounter = s.sampleCounter := rfl
@[simp] theorem State.setTripped_seconds (s : State) (k : Outlet) (v : Bool) : (s.setTripped k v).seconds = s.seconds := rfl
@[simp] theorem State.setTripped_subSecond (s : State) (k : Outlet) (v : Bool) : (s.setTripped k v).subSecond = s.subSecond := rfl
@[simp] theorem State.setTripped_stamp (s : State) (k : Outlet) (v : Bool) : (s.setTripped k v).stamp = s.stamp := rfl
@[simp] theorem State.setTripped_handed (s : State) (k : Outlet) (v : Bool) : (s.setTripped k v).handed = s.handed := rfl
@[simp] theorem State.setTripped_senseAge (s : State) (k : Outlet) (v : Bool) : (s.setTripped k v).senseAge = s.senseAge := rfl
@[simp] theorem State.setTripped_breakers (s : State) (k : Outlet) (v : Bool) : (s.setTripped k v).breakers = s.breakers := rfl
@[simp] theorem State.setTripped_trackers (s : State) (k : Outlet) (v : Bool) : (s.setTripped k v).trackers = s.trackers := rfl
@[simp] theorem State.setTripped_meters (s : State) (k : Outlet) (v : Bool) : (s.setTripped k v).meters = s.meters := rfl
@[simp] theorem State.setTripped_energy (s : State) (k : Outlet) (v : Bool) : (s.setTripped k v).energy = s.energy := rfl
@[simp] theorem State.setTripped_entries (s : State) (k : Outlet) (v : Bool) : (s.setTripped k v).entries = s.entries := rfl
@[simp] theorem State.setTripped_nextId (s : State) (k : Outlet) (v : Bool) : (s.setTripped k v).nextId = s.nextId := rfl
@[simp] theorem State.setTripped_holds (s : State) (k : Outlet) (v : Bool) : (s.setTripped k v).holds = s.holds := rfl
@[simp] theorem State.setTripped_handling (s : State) (k : Outlet) (v : Bool) : (s.setTripped k v).handling = s.handling := rfl
@[simp] theorem State.setTripped_sequencers (s : State) (k : Outlet) (v : Bool) : (s.setTripped k v).sequencers = s.sequencers := rfl
@[simp] theorem State.setTripped_drivers (s : State) (k : Outlet) (v : Bool) : (s.setTripped k v).drivers = s.drivers := rfl
@[simp] theorem State.setTripped_slots (s : State) (k : Outlet) (v : Bool) : (s.setTripped k v).slots = s.slots := rfl
@[simp] theorem State.setTripped_protections (s : State) (k : Outlet) (v : Bool) : (s.setTripped k v).protections = s.protections := rfl
@[simp] theorem State.setTripped_tripRuns (s : State) (k : Outlet) (v : Bool) : (s.setTripped k v).tripRuns = s.tripRuns := rfl
@[simp] theorem State.setTripped_monitors (s : State) (k : Outlet) (v : Bool) : (s.setTripped k v).monitors = s.monitors := rfl
@[simp] theorem State.setTripped_sweeps (s : State) (k : Outlet) (v : Bool) : (s.setTripped k v).sweeps = s.sweeps := rfl
@[simp] theorem State.setTripped_banks (s : State) (k : Outlet) (v : Bool) : (s.setTripped k v).banks = s.banks := rfl
@[simp] theorem State.setTripped_ports (s : State) (k : Outlet) (v : Bool) : (s.setTripped k v).ports = s.ports := rfl
@[simp] theorem State.setTripped_targetAddress (s : State) (k : Outlet) (v : Bool) : (s.setTripped k v).targetAddress = s.targetAddress := rfl
@[simp] theorem State.setTripped_settings (s : State) (k : Outlet) (v : Bool) : (s.setTripped k v).settings = s.settings := rfl
@[simp] theorem State.setTripped_generation (s : State) (k : Outlet) (v : Bool) : (s.setTripped k v).generation = s.generation := rfl
@[simp] theorem State.setTripped_pending (s : State) (k : Outlet) (v : Bool) : (s.setTripped k v).pending = s.pending := rfl
@[simp] theorem State.setTripped_tracker (s : State) (k : Outlet) (v : Bool) (j : Feed) : (s.setTripped k v).tracker j = s.tracker j := rfl
@[simp] theorem State.setTripped_meter (s : State) (k : Outlet) (v : Bool) (j : Outlet) : (s.setTripped k v).meter j = s.meter j := rfl
@[simp] theorem State.setTripped_energyOf (s : State) (k : Outlet) (v : Bool) (j : Outlet) : (s.setTripped k v).energyOf j = s.energyOf j := rfl
@[simp] theorem State.setTripped_hold (s : State) (k : Outlet) (v : Bool) (j : Outlet) : (s.setTripped k v).hold j = s.hold j := rfl
theorem State.setTripped_isTripped (s : State) (k : Outlet) (v : Bool) (j : Outlet) :
    (s.setTripped k v).isTripped j = if j = k then v else s.isTripped j := look_put ..
@[simp] theorem State.setTripped_isTripped_self (s : State) (k : Outlet) (v : Bool) : (s.setTripped k v).isTripped k = v := look_put_self ..
@[simp] theorem State.setTripped_sequencer (s : State) (k : Outlet) (v : Bool) (j : Branch) : (s.setTripped k v).sequencer j = s.sequencer j := rfl
@[simp] theorem State.setTripped_driver (s : State) (k : Outlet) (v : Bool) (j : Outlet) : (s.setTripped k v).driver j = s.driver j := rfl
@[simp] theorem State.setTripped_protection (s : State) (k : Outlet) (v : Bool) (j : Branch) : (s.setTripped k v).protection j = s.protection j := rfl
@[simp] theorem State.setTripped_tripRun (s : State) (k : Outlet) (v : Bool) (j : Outlet) : (s.setTripped k v).tripRun j = s.tripRun j := rfl
@[simp] theorem State.setTripped_monitor (s : State) (k : Outlet) (v : Bool) (j : Outlet) : (s.setTripped k v).monitor j = s.monitor j := rfl
@[simp] theorem State.setTripped_age (s : State) (k : Outlet) (v : Bool) (j : Outlet) : (s.setTripped k v).age j = s.age j := rfl
@[simp] theorem State.setTripped_breaker (s : State) (k : Outlet) (v : Bool) (j : Branch) : (s.setTripped k v).breaker j = s.breaker j := rfl
@[simp] theorem State.setTripped_sweepEngine (s : State) (k : Outlet) (v : Bool) (y : Link) : (s.setTripped k v).sweepEngine y = s.sweepEngine y := rfl
@[simp] theorem State.setTripped_bankPort (s : State) (k : Outlet) (v : Bool) (y : Link) : (s.setTripped k v).bankPort y = s.bankPort y := rfl
@[simp] theorem State.setTripped_port (s : State) (k : Outlet) (v : Bool) (y : Link) : (s.setTripped k v).port y = s.port y := rfl

/-! ### setSequencer -/

@[simp] theorem State.setSequencer_resetHeld (s : State) (k : Branch) (v : Sequencer) : (s.setSequencer k v).resetHeld = s.resetHeld := rfl
@[simp] theorem State.setSequencer_sampleCounter (s : State) (k : Branch) (v : Sequencer) : (s.setSequencer k v).sampleCounter = s.sampleCounter := rfl
@[simp] theorem State.setSequencer_seconds (s : State) (k : Branch) (v : Sequencer) : (s.setSequencer k v).seconds = s.seconds := rfl
@[simp] theorem State.setSequencer_subSecond (s : State) (k : Branch) (v : Sequencer) : (s.setSequencer k v).subSecond = s.subSecond := rfl
@[simp] theorem State.setSequencer_stamp (s : State) (k : Branch) (v : Sequencer) : (s.setSequencer k v).stamp = s.stamp := rfl
@[simp] theorem State.setSequencer_handed (s : State) (k : Branch) (v : Sequencer) : (s.setSequencer k v).handed = s.handed := rfl
@[simp] theorem State.setSequencer_senseAge (s : State) (k : Branch) (v : Sequencer) : (s.setSequencer k v).senseAge = s.senseAge := rfl
@[simp] theorem State.setSequencer_breakers (s : State) (k : Branch) (v : Sequencer) : (s.setSequencer k v).breakers = s.breakers := rfl
@[simp] theorem State.setSequencer_trackers (s : State) (k : Branch) (v : Sequencer) : (s.setSequencer k v).trackers = s.trackers := rfl
@[simp] theorem State.setSequencer_meters (s : State) (k : Branch) (v : Sequencer) : (s.setSequencer k v).meters = s.meters := rfl
@[simp] theorem State.setSequencer_energy (s : State) (k : Branch) (v : Sequencer) : (s.setSequencer k v).energy = s.energy := rfl
@[simp] theorem State.setSequencer_entries (s : State) (k : Branch) (v : Sequencer) : (s.setSequencer k v).entries = s.entries := rfl
@[simp] theorem State.setSequencer_nextId (s : State) (k : Branch) (v : Sequencer) : (s.setSequencer k v).nextId = s.nextId := rfl
@[simp] theorem State.setSequencer_holds (s : State) (k : Branch) (v : Sequencer) : (s.setSequencer k v).holds = s.holds := rfl
@[simp] theorem State.setSequencer_tripped (s : State) (k : Branch) (v : Sequencer) : (s.setSequencer k v).tripped = s.tripped := rfl
@[simp] theorem State.setSequencer_handling (s : State) (k : Branch) (v : Sequencer) : (s.setSequencer k v).handling = s.handling := rfl
@[simp] theorem State.setSequencer_drivers (s : State) (k : Branch) (v : Sequencer) : (s.setSequencer k v).drivers = s.drivers := rfl
@[simp] theorem State.setSequencer_slots (s : State) (k : Branch) (v : Sequencer) : (s.setSequencer k v).slots = s.slots := rfl
@[simp] theorem State.setSequencer_protections (s : State) (k : Branch) (v : Sequencer) : (s.setSequencer k v).protections = s.protections := rfl
@[simp] theorem State.setSequencer_tripRuns (s : State) (k : Branch) (v : Sequencer) : (s.setSequencer k v).tripRuns = s.tripRuns := rfl
@[simp] theorem State.setSequencer_monitors (s : State) (k : Branch) (v : Sequencer) : (s.setSequencer k v).monitors = s.monitors := rfl
@[simp] theorem State.setSequencer_sweeps (s : State) (k : Branch) (v : Sequencer) : (s.setSequencer k v).sweeps = s.sweeps := rfl
@[simp] theorem State.setSequencer_banks (s : State) (k : Branch) (v : Sequencer) : (s.setSequencer k v).banks = s.banks := rfl
@[simp] theorem State.setSequencer_ports (s : State) (k : Branch) (v : Sequencer) : (s.setSequencer k v).ports = s.ports := rfl
@[simp] theorem State.setSequencer_targetAddress (s : State) (k : Branch) (v : Sequencer) : (s.setSequencer k v).targetAddress = s.targetAddress := rfl
@[simp] theorem State.setSequencer_settings (s : State) (k : Branch) (v : Sequencer) : (s.setSequencer k v).settings = s.settings := rfl
@[simp] theorem State.setSequencer_generation (s : State) (k : Branch) (v : Sequencer) : (s.setSequencer k v).generation = s.generation := rfl
@[simp] theorem State.setSequencer_pending (s : State) (k : Branch) (v : Sequencer) : (s.setSequencer k v).pending = s.pending := rfl
@[simp] theorem State.setSequencer_tracker (s : State) (k : Branch) (v : Sequencer) (j : Feed) : (s.setSequencer k v).tracker j = s.tracker j := rfl
@[simp] theorem State.setSequencer_meter (s : State) (k : Branch) (v : Sequencer) (j : Outlet) : (s.setSequencer k v).meter j = s.meter j := rfl
@[simp] theorem State.setSequencer_energyOf (s : State) (k : Branch) (v : Sequencer) (j : Outlet) : (s.setSequencer k v).energyOf j = s.energyOf j := rfl
@[simp] theorem State.setSequencer_hold (s : State) (k : Branch) (v : Sequencer) (j : Outlet) : (s.setSequencer k v).hold j = s.hold j := rfl
@[simp] theorem State.setSequencer_isTripped (s : State) (k : Branch) (v : Sequencer) (j : Outlet) : (s.setSequencer k v).isTripped j = s.isTripped j := rfl
theorem State.setSequencer_sequencer (s : State) (k : Branch) (v : Sequencer) (j : Branch) :
    (s.setSequencer k v).sequencer j = if j = k then v else s.sequencer j := look_put ..
@[simp] theorem State.setSequencer_sequencer_self (s : State) (k : Branch) (v : Sequencer) : (s.setSequencer k v).sequencer k = v := look_put_self ..
@[simp] theorem State.setSequencer_driver (s : State) (k : Branch) (v : Sequencer) (j : Outlet) : (s.setSequencer k v).driver j = s.driver j := rfl
@[simp] theorem State.setSequencer_protection (s : State) (k : Branch) (v : Sequencer) (j : Branch) : (s.setSequencer k v).protection j = s.protection j := rfl
@[simp] theorem State.setSequencer_tripRun (s : State) (k : Branch) (v : Sequencer) (j : Outlet) : (s.setSequencer k v).tripRun j = s.tripRun j := rfl
@[simp] theorem State.setSequencer_monitor (s : State) (k : Branch) (v : Sequencer) (j : Outlet) : (s.setSequencer k v).monitor j = s.monitor j := rfl
@[simp] theorem State.setSequencer_age (s : State) (k : Branch) (v : Sequencer) (j : Outlet) : (s.setSequencer k v).age j = s.age j := rfl
@[simp] theorem State.setSequencer_breaker (s : State) (k : Branch) (v : Sequencer) (j : Branch) : (s.setSequencer k v).breaker j = s.breaker j := rfl
@[simp] theorem State.setSequencer_sweepEngine (s : State) (k : Branch) (v : Sequencer) (y : Link) : (s.setSequencer k v).sweepEngine y = s.sweepEngine y := rfl
@[simp] theorem State.setSequencer_bankPort (s : State) (k : Branch) (v : Sequencer) (y : Link) : (s.setSequencer k v).bankPort y = s.bankPort y := rfl
@[simp] theorem State.setSequencer_port (s : State) (k : Branch) (v : Sequencer) (y : Link) : (s.setSequencer k v).port y = s.port y := rfl

/-! ### setDriver -/

@[simp] theorem State.setDriver_resetHeld (s : State) (k : Outlet) (v : Driver) : (s.setDriver k v).resetHeld = s.resetHeld := rfl
@[simp] theorem State.setDriver_sampleCounter (s : State) (k : Outlet) (v : Driver) : (s.setDriver k v).sampleCounter = s.sampleCounter := rfl
@[simp] theorem State.setDriver_seconds (s : State) (k : Outlet) (v : Driver) : (s.setDriver k v).seconds = s.seconds := rfl
@[simp] theorem State.setDriver_subSecond (s : State) (k : Outlet) (v : Driver) : (s.setDriver k v).subSecond = s.subSecond := rfl
@[simp] theorem State.setDriver_stamp (s : State) (k : Outlet) (v : Driver) : (s.setDriver k v).stamp = s.stamp := rfl
@[simp] theorem State.setDriver_handed (s : State) (k : Outlet) (v : Driver) : (s.setDriver k v).handed = s.handed := rfl
@[simp] theorem State.setDriver_senseAge (s : State) (k : Outlet) (v : Driver) : (s.setDriver k v).senseAge = s.senseAge := rfl
@[simp] theorem State.setDriver_breakers (s : State) (k : Outlet) (v : Driver) : (s.setDriver k v).breakers = s.breakers := rfl
@[simp] theorem State.setDriver_trackers (s : State) (k : Outlet) (v : Driver) : (s.setDriver k v).trackers = s.trackers := rfl
@[simp] theorem State.setDriver_meters (s : State) (k : Outlet) (v : Driver) : (s.setDriver k v).meters = s.meters := rfl
@[simp] theorem State.setDriver_energy (s : State) (k : Outlet) (v : Driver) : (s.setDriver k v).energy = s.energy := rfl
@[simp] theorem State.setDriver_entries (s : State) (k : Outlet) (v : Driver) : (s.setDriver k v).entries = s.entries := rfl
@[simp] theorem State.setDriver_nextId (s : State) (k : Outlet) (v : Driver) : (s.setDriver k v).nextId = s.nextId := rfl
@[simp] theorem State.setDriver_holds (s : State) (k : Outlet) (v : Driver) : (s.setDriver k v).holds = s.holds := rfl
@[simp] theorem State.setDriver_tripped (s : State) (k : Outlet) (v : Driver) : (s.setDriver k v).tripped = s.tripped := rfl
@[simp] theorem State.setDriver_handling (s : State) (k : Outlet) (v : Driver) : (s.setDriver k v).handling = s.handling := rfl
@[simp] theorem State.setDriver_sequencers (s : State) (k : Outlet) (v : Driver) : (s.setDriver k v).sequencers = s.sequencers := rfl
@[simp] theorem State.setDriver_slots (s : State) (k : Outlet) (v : Driver) : (s.setDriver k v).slots = s.slots := rfl
@[simp] theorem State.setDriver_protections (s : State) (k : Outlet) (v : Driver) : (s.setDriver k v).protections = s.protections := rfl
@[simp] theorem State.setDriver_tripRuns (s : State) (k : Outlet) (v : Driver) : (s.setDriver k v).tripRuns = s.tripRuns := rfl
@[simp] theorem State.setDriver_monitors (s : State) (k : Outlet) (v : Driver) : (s.setDriver k v).monitors = s.monitors := rfl
@[simp] theorem State.setDriver_sweeps (s : State) (k : Outlet) (v : Driver) : (s.setDriver k v).sweeps = s.sweeps := rfl
@[simp] theorem State.setDriver_banks (s : State) (k : Outlet) (v : Driver) : (s.setDriver k v).banks = s.banks := rfl
@[simp] theorem State.setDriver_ports (s : State) (k : Outlet) (v : Driver) : (s.setDriver k v).ports = s.ports := rfl
@[simp] theorem State.setDriver_targetAddress (s : State) (k : Outlet) (v : Driver) : (s.setDriver k v).targetAddress = s.targetAddress := rfl
@[simp] theorem State.setDriver_settings (s : State) (k : Outlet) (v : Driver) : (s.setDriver k v).settings = s.settings := rfl
@[simp] theorem State.setDriver_generation (s : State) (k : Outlet) (v : Driver) : (s.setDriver k v).generation = s.generation := rfl
@[simp] theorem State.setDriver_pending (s : State) (k : Outlet) (v : Driver) : (s.setDriver k v).pending = s.pending := rfl
@[simp] theorem State.setDriver_tracker (s : State) (k : Outlet) (v : Driver) (j : Feed) : (s.setDriver k v).tracker j = s.tracker j := rfl
@[simp] theorem State.setDriver_meter (s : State) (k : Outlet) (v : Driver) (j : Outlet) : (s.setDriver k v).meter j = s.meter j := rfl
@[simp] theorem State.setDriver_energyOf (s : State) (k : Outlet) (v : Driver) (j : Outlet) : (s.setDriver k v).energyOf j = s.energyOf j := rfl
@[simp] theorem State.setDriver_hold (s : State) (k : Outlet) (v : Driver) (j : Outlet) : (s.setDriver k v).hold j = s.hold j := rfl
@[simp] theorem State.setDriver_isTripped (s : State) (k : Outlet) (v : Driver) (j : Outlet) : (s.setDriver k v).isTripped j = s.isTripped j := rfl
@[simp] theorem State.setDriver_sequencer (s : State) (k : Outlet) (v : Driver) (j : Branch) : (s.setDriver k v).sequencer j = s.sequencer j := rfl
theorem State.setDriver_driver (s : State) (k : Outlet) (v : Driver) (j : Outlet) :
    (s.setDriver k v).driver j = if j = k then v else s.driver j := look_put ..
@[simp] theorem State.setDriver_driver_self (s : State) (k : Outlet) (v : Driver) : (s.setDriver k v).driver k = v := look_put_self ..
@[simp] theorem State.setDriver_protection (s : State) (k : Outlet) (v : Driver) (j : Branch) : (s.setDriver k v).protection j = s.protection j := rfl
@[simp] theorem State.setDriver_tripRun (s : State) (k : Outlet) (v : Driver) (j : Outlet) : (s.setDriver k v).tripRun j = s.tripRun j := rfl
@[simp] theorem State.setDriver_monitor (s : State) (k : Outlet) (v : Driver) (j : Outlet) : (s.setDriver k v).monitor j = s.monitor j := rfl
@[simp] theorem State.setDriver_age (s : State) (k : Outlet) (v : Driver) (j : Outlet) : (s.setDriver k v).age j = s.age j := rfl
@[simp] theorem State.setDriver_breaker (s : State) (k : Outlet) (v : Driver) (j : Branch) : (s.setDriver k v).breaker j = s.breaker j := rfl
@[simp] theorem State.setDriver_sweepEngine (s : State) (k : Outlet) (v : Driver) (y : Link) : (s.setDriver k v).sweepEngine y = s.sweepEngine y := rfl
@[simp] theorem State.setDriver_bankPort (s : State) (k : Outlet) (v : Driver) (y : Link) : (s.setDriver k v).bankPort y = s.bankPort y := rfl
@[simp] theorem State.setDriver_port (s : State) (k : Outlet) (v : Driver) (y : Link) : (s.setDriver k v).port y = s.port y := rfl

/-! ### setProtection -/

@[simp] theorem State.setProtection_resetHeld (s : State) (k : Branch) (v : Protection) : (s.setProtection k v).resetHeld = s.resetHeld := rfl
@[simp] theorem State.setProtection_sampleCounter (s : State) (k : Branch) (v : Protection) : (s.setProtection k v).sampleCounter = s.sampleCounter := rfl
@[simp] theorem State.setProtection_seconds (s : State) (k : Branch) (v : Protection) : (s.setProtection k v).seconds = s.seconds := rfl
@[simp] theorem State.setProtection_subSecond (s : State) (k : Branch) (v : Protection) : (s.setProtection k v).subSecond = s.subSecond := rfl
@[simp] theorem State.setProtection_stamp (s : State) (k : Branch) (v : Protection) : (s.setProtection k v).stamp = s.stamp := rfl
@[simp] theorem State.setProtection_handed (s : State) (k : Branch) (v : Protection) : (s.setProtection k v).handed = s.handed := rfl
@[simp] theorem State.setProtection_senseAge (s : State) (k : Branch) (v : Protection) : (s.setProtection k v).senseAge = s.senseAge := rfl
@[simp] theorem State.setProtection_breakers (s : State) (k : Branch) (v : Protection) : (s.setProtection k v).breakers = s.breakers := rfl
@[simp] theorem State.setProtection_trackers (s : State) (k : Branch) (v : Protection) : (s.setProtection k v).trackers = s.trackers := rfl
@[simp] theorem State.setProtection_meters (s : State) (k : Branch) (v : Protection) : (s.setProtection k v).meters = s.meters := rfl
@[simp] theorem State.setProtection_energy (s : State) (k : Branch) (v : Protection) : (s.setProtection k v).energy = s.energy := rfl
@[simp] theorem State.setProtection_entries (s : State) (k : Branch) (v : Protection) : (s.setProtection k v).entries = s.entries := rfl
@[simp] theorem State.setProtection_nextId (s : State) (k : Branch) (v : Protection) : (s.setProtection k v).nextId = s.nextId := rfl
@[simp] theorem State.setProtection_holds (s : State) (k : Branch) (v : Protection) : (s.setProtection k v).holds = s.holds := rfl
@[simp] theorem State.setProtection_tripped (s : State) (k : Branch) (v : Protection) : (s.setProtection k v).tripped = s.tripped := rfl
@[simp] theorem State.setProtection_handling (s : State) (k : Branch) (v : Protection) : (s.setProtection k v).handling = s.handling := rfl
@[simp] theorem State.setProtection_sequencers (s : State) (k : Branch) (v : Protection) : (s.setProtection k v).sequencers = s.sequencers := rfl
@[simp] theorem State.setProtection_drivers (s : State) (k : Branch) (v : Protection) : (s.setProtection k v).drivers = s.drivers := rfl
@[simp] theorem State.setProtection_slots (s : State) (k : Branch) (v : Protection) : (s.setProtection k v).slots = s.slots := rfl
@[simp] theorem State.setProtection_tripRuns (s : State) (k : Branch) (v : Protection) : (s.setProtection k v).tripRuns = s.tripRuns := rfl
@[simp] theorem State.setProtection_monitors (s : State) (k : Branch) (v : Protection) : (s.setProtection k v).monitors = s.monitors := rfl
@[simp] theorem State.setProtection_sweeps (s : State) (k : Branch) (v : Protection) : (s.setProtection k v).sweeps = s.sweeps := rfl
@[simp] theorem State.setProtection_banks (s : State) (k : Branch) (v : Protection) : (s.setProtection k v).banks = s.banks := rfl
@[simp] theorem State.setProtection_ports (s : State) (k : Branch) (v : Protection) : (s.setProtection k v).ports = s.ports := rfl
@[simp] theorem State.setProtection_targetAddress (s : State) (k : Branch) (v : Protection) : (s.setProtection k v).targetAddress = s.targetAddress := rfl
@[simp] theorem State.setProtection_settings (s : State) (k : Branch) (v : Protection) : (s.setProtection k v).settings = s.settings := rfl
@[simp] theorem State.setProtection_generation (s : State) (k : Branch) (v : Protection) : (s.setProtection k v).generation = s.generation := rfl
@[simp] theorem State.setProtection_pending (s : State) (k : Branch) (v : Protection) : (s.setProtection k v).pending = s.pending := rfl
@[simp] theorem State.setProtection_tracker (s : State) (k : Branch) (v : Protection) (j : Feed) : (s.setProtection k v).tracker j = s.tracker j := rfl
@[simp] theorem State.setProtection_meter (s : State) (k : Branch) (v : Protection) (j : Outlet) : (s.setProtection k v).meter j = s.meter j := rfl
@[simp] theorem State.setProtection_energyOf (s : State) (k : Branch) (v : Protection) (j : Outlet) : (s.setProtection k v).energyOf j = s.energyOf j := rfl
@[simp] theorem State.setProtection_hold (s : State) (k : Branch) (v : Protection) (j : Outlet) : (s.setProtection k v).hold j = s.hold j := rfl
@[simp] theorem State.setProtection_isTripped (s : State) (k : Branch) (v : Protection) (j : Outlet) : (s.setProtection k v).isTripped j = s.isTripped j := rfl
@[simp] theorem State.setProtection_sequencer (s : State) (k : Branch) (v : Protection) (j : Branch) : (s.setProtection k v).sequencer j = s.sequencer j := rfl
@[simp] theorem State.setProtection_driver (s : State) (k : Branch) (v : Protection) (j : Outlet) : (s.setProtection k v).driver j = s.driver j := rfl
theorem State.setProtection_protection (s : State) (k : Branch) (v : Protection) (j : Branch) :
    (s.setProtection k v).protection j = if j = k then v else s.protection j := look_put ..
@[simp] theorem State.setProtection_protection_self (s : State) (k : Branch) (v : Protection) : (s.setProtection k v).protection k = v := look_put_self ..
@[simp] theorem State.setProtection_tripRun (s : State) (k : Branch) (v : Protection) (j : Outlet) : (s.setProtection k v).tripRun j = s.tripRun j := rfl
@[simp] theorem State.setProtection_monitor (s : State) (k : Branch) (v : Protection) (j : Outlet) : (s.setProtection k v).monitor j = s.monitor j := rfl
@[simp] theorem State.setProtection_age (s : State) (k : Branch) (v : Protection) (j : Outlet) : (s.setProtection k v).age j = s.age j := rfl
@[simp] theorem State.setProtection_breaker (s : State) (k : Branch) (v : Protection) (j : Branch) : (s.setProtection k v).breaker j = s.breaker j := rfl
@[simp] theorem State.setProtection_sweepEngine (s : State) (k : Branch) (v : Protection) (y : Link) : (s.setProtection k v).sweepEngine y = s.sweepEngine y := rfl
@[simp] theorem State.setProtection_bankPort (s : State) (k : Branch) (v : Protection) (y : Link) : (s.setProtection k v).bankPort y = s.bankPort y := rfl
@[simp] theorem State.setProtection_port (s : State) (k : Branch) (v : Protection) (y : Link) : (s.setProtection k v).port y = s.port y := rfl

/-! ### setTripRun -/

@[simp] theorem State.setTripRun_resetHeld (s : State) (k : Outlet) (v : Nat) : (s.setTripRun k v).resetHeld = s.resetHeld := rfl
@[simp] theorem State.setTripRun_sampleCounter (s : State) (k : Outlet) (v : Nat) : (s.setTripRun k v).sampleCounter = s.sampleCounter := rfl
@[simp] theorem State.setTripRun_seconds (s : State) (k : Outlet) (v : Nat) : (s.setTripRun k v).seconds = s.seconds := rfl
@[simp] theorem State.setTripRun_subSecond (s : State) (k : Outlet) (v : Nat) : (s.setTripRun k v).subSecond = s.subSecond := rfl
@[simp] theorem State.setTripRun_stamp (s : State) (k : Outlet) (v : Nat) : (s.setTripRun k v).stamp = s.stamp := rfl
@[simp] theorem State.setTripRun_handed (s : State) (k : Outlet) (v : Nat) : (s.setTripRun k v).handed = s.handed := rfl
@[simp] theorem State.setTripRun_senseAge (s : State) (k : Outlet) (v : Nat) : (s.setTripRun k v).senseAge = s.senseAge := rfl
@[simp] theorem State.setTripRun_breakers (s : State) (k : Outlet) (v : Nat) : (s.setTripRun k v).breakers = s.breakers := rfl
@[simp] theorem State.setTripRun_trackers (s : State) (k : Outlet) (v : Nat) : (s.setTripRun k v).trackers = s.trackers := rfl
@[simp] theorem State.setTripRun_meters (s : State) (k : Outlet) (v : Nat) : (s.setTripRun k v).meters = s.meters := rfl
@[simp] theorem State.setTripRun_energy (s : State) (k : Outlet) (v : Nat) : (s.setTripRun k v).energy = s.energy := rfl
@[simp] theorem State.setTripRun_entries (s : State) (k : Outlet) (v : Nat) : (s.setTripRun k v).entries = s.entries := rfl
@[simp] theorem State.setTripRun_nextId (s : State) (k : Outlet) (v : Nat) : (s.setTripRun k v).nextId = s.nextId := rfl
@[simp] theorem State.setTripRun_holds (s : State) (k : Outlet) (v : Nat) : (s.setTripRun k v).holds = s.holds := rfl
@[simp] theorem State.setTripRun_tripped (s : State) (k : Outlet) (v : Nat) : (s.setTripRun k v).tripped = s.tripped := rfl
@[simp] theorem State.setTripRun_handling (s : State) (k : Outlet) (v : Nat) : (s.setTripRun k v).handling = s.handling := rfl
@[simp] theorem State.setTripRun_sequencers (s : State) (k : Outlet) (v : Nat) : (s.setTripRun k v).sequencers = s.sequencers := rfl
@[simp] theorem State.setTripRun_drivers (s : State) (k : Outlet) (v : Nat) : (s.setTripRun k v).drivers = s.drivers := rfl
@[simp] theorem State.setTripRun_slots (s : State) (k : Outlet) (v : Nat) : (s.setTripRun k v).slots = s.slots := rfl
@[simp] theorem State.setTripRun_protections (s : State) (k : Outlet) (v : Nat) : (s.setTripRun k v).protections = s.protections := rfl
@[simp] theorem State.setTripRun_monitors (s : State) (k : Outlet) (v : Nat) : (s.setTripRun k v).monitors = s.monitors := rfl
@[simp] theorem State.setTripRun_sweeps (s : State) (k : Outlet) (v : Nat) : (s.setTripRun k v).sweeps = s.sweeps := rfl
@[simp] theorem State.setTripRun_banks (s : State) (k : Outlet) (v : Nat) : (s.setTripRun k v).banks = s.banks := rfl
@[simp] theorem State.setTripRun_ports (s : State) (k : Outlet) (v : Nat) : (s.setTripRun k v).ports = s.ports := rfl
@[simp] theorem State.setTripRun_targetAddress (s : State) (k : Outlet) (v : Nat) : (s.setTripRun k v).targetAddress = s.targetAddress := rfl
@[simp] theorem State.setTripRun_settings (s : State) (k : Outlet) (v : Nat) : (s.setTripRun k v).settings = s.settings := rfl
@[simp] theorem State.setTripRun_generation (s : State) (k : Outlet) (v : Nat) : (s.setTripRun k v).generation = s.generation := rfl
@[simp] theorem State.setTripRun_pending (s : State) (k : Outlet) (v : Nat) : (s.setTripRun k v).pending = s.pending := rfl
@[simp] theorem State.setTripRun_tracker (s : State) (k : Outlet) (v : Nat) (j : Feed) : (s.setTripRun k v).tracker j = s.tracker j := rfl
@[simp] theorem State.setTripRun_meter (s : State) (k : Outlet) (v : Nat) (j : Outlet) : (s.setTripRun k v).meter j = s.meter j := rfl
@[simp] theorem State.setTripRun_energyOf (s : State) (k : Outlet) (v : Nat) (j : Outlet) : (s.setTripRun k v).energyOf j = s.energyOf j := rfl
@[simp] theorem State.setTripRun_hold (s : State) (k : Outlet) (v : Nat) (j : Outlet) : (s.setTripRun k v).hold j = s.hold j := rfl
@[simp] theorem State.setTripRun_isTripped (s : State) (k : Outlet) (v : Nat) (j : Outlet) : (s.setTripRun k v).isTripped j = s.isTripped j := rfl
@[simp] theorem State.setTripRun_sequencer (s : State) (k : Outlet) (v : Nat) (j : Branch) : (s.setTripRun k v).sequencer j = s.sequencer j := rfl
@[simp] theorem State.setTripRun_driver (s : State) (k : Outlet) (v : Nat) (j : Outlet) : (s.setTripRun k v).driver j = s.driver j := rfl
@[simp] theorem State.setTripRun_protection (s : State) (k : Outlet) (v : Nat) (j : Branch) : (s.setTripRun k v).protection j = s.protection j := rfl
theorem State.setTripRun_tripRun (s : State) (k : Outlet) (v : Nat) (j : Outlet) :
    (s.setTripRun k v).tripRun j = if j = k then v else s.tripRun j := look_put ..
@[simp] theorem State.setTripRun_tripRun_self (s : State) (k : Outlet) (v : Nat) : (s.setTripRun k v).tripRun k = v := look_put_self ..
@[simp] theorem State.setTripRun_monitor (s : State) (k : Outlet) (v : Nat) (j : Outlet) : (s.setTripRun k v).monitor j = s.monitor j := rfl
@[simp] theorem State.setTripRun_age (s : State) (k : Outlet) (v : Nat) (j : Outlet) : (s.setTripRun k v).age j = s.age j := rfl
@[simp] theorem State.setTripRun_breaker (s : State) (k : Outlet) (v : Nat) (j : Branch) : (s.setTripRun k v).breaker j = s.breaker j := rfl
@[simp] theorem State.setTripRun_sweepEngine (s : State) (k : Outlet) (v : Nat) (y : Link) : (s.setTripRun k v).sweepEngine y = s.sweepEngine y := rfl
@[simp] theorem State.setTripRun_bankPort (s : State) (k : Outlet) (v : Nat) (y : Link) : (s.setTripRun k v).bankPort y = s.bankPort y := rfl
@[simp] theorem State.setTripRun_port (s : State) (k : Outlet) (v : Nat) (y : Link) : (s.setTripRun k v).port y = s.port y := rfl

/-! ### setMonitor -/

@[simp] theorem State.setMonitor_resetHeld (s : State) (k : Outlet) (v : Monitor) : (s.setMonitor k v).resetHeld = s.resetHeld := rfl
@[simp] theorem State.setMonitor_sampleCounter (s : State) (k : Outlet) (v : Monitor) : (s.setMonitor k v).sampleCounter = s.sampleCounter := rfl
@[simp] theorem State.setMonitor_seconds (s : State) (k : Outlet) (v : Monitor) : (s.setMonitor k v).seconds = s.seconds := rfl
@[simp] theorem State.setMonitor_subSecond (s : State) (k : Outlet) (v : Monitor) : (s.setMonitor k v).subSecond = s.subSecond := rfl
@[simp] theorem State.setMonitor_stamp (s : State) (k : Outlet) (v : Monitor) : (s.setMonitor k v).stamp = s.stamp := rfl
@[simp] theorem State.setMonitor_handed (s : State) (k : Outlet) (v : Monitor) : (s.setMonitor k v).handed = s.handed := rfl
@[simp] theorem State.setMonitor_senseAge (s : State) (k : Outlet) (v : Monitor) : (s.setMonitor k v).senseAge = s.senseAge := rfl
@[simp] theorem State.setMonitor_breakers (s : State) (k : Outlet) (v : Monitor) : (s.setMonitor k v).breakers = s.breakers := rfl
@[simp] theorem State.setMonitor_trackers (s : State) (k : Outlet) (v : Monitor) : (s.setMonitor k v).trackers = s.trackers := rfl
@[simp] theorem State.setMonitor_meters (s : State) (k : Outlet) (v : Monitor) : (s.setMonitor k v).meters = s.meters := rfl
@[simp] theorem State.setMonitor_energy (s : State) (k : Outlet) (v : Monitor) : (s.setMonitor k v).energy = s.energy := rfl
@[simp] theorem State.setMonitor_entries (s : State) (k : Outlet) (v : Monitor) : (s.setMonitor k v).entries = s.entries := rfl
@[simp] theorem State.setMonitor_nextId (s : State) (k : Outlet) (v : Monitor) : (s.setMonitor k v).nextId = s.nextId := rfl
@[simp] theorem State.setMonitor_holds (s : State) (k : Outlet) (v : Monitor) : (s.setMonitor k v).holds = s.holds := rfl
@[simp] theorem State.setMonitor_tripped (s : State) (k : Outlet) (v : Monitor) : (s.setMonitor k v).tripped = s.tripped := rfl
@[simp] theorem State.setMonitor_handling (s : State) (k : Outlet) (v : Monitor) : (s.setMonitor k v).handling = s.handling := rfl
@[simp] theorem State.setMonitor_sequencers (s : State) (k : Outlet) (v : Monitor) : (s.setMonitor k v).sequencers = s.sequencers := rfl
@[simp] theorem State.setMonitor_drivers (s : State) (k : Outlet) (v : Monitor) : (s.setMonitor k v).drivers = s.drivers := rfl
@[simp] theorem State.setMonitor_slots (s : State) (k : Outlet) (v : Monitor) : (s.setMonitor k v).slots = s.slots := rfl
@[simp] theorem State.setMonitor_protections (s : State) (k : Outlet) (v : Monitor) : (s.setMonitor k v).protections = s.protections := rfl
@[simp] theorem State.setMonitor_tripRuns (s : State) (k : Outlet) (v : Monitor) : (s.setMonitor k v).tripRuns = s.tripRuns := rfl
@[simp] theorem State.setMonitor_sweeps (s : State) (k : Outlet) (v : Monitor) : (s.setMonitor k v).sweeps = s.sweeps := rfl
@[simp] theorem State.setMonitor_banks (s : State) (k : Outlet) (v : Monitor) : (s.setMonitor k v).banks = s.banks := rfl
@[simp] theorem State.setMonitor_ports (s : State) (k : Outlet) (v : Monitor) : (s.setMonitor k v).ports = s.ports := rfl
@[simp] theorem State.setMonitor_targetAddress (s : State) (k : Outlet) (v : Monitor) : (s.setMonitor k v).targetAddress = s.targetAddress := rfl
@[simp] theorem State.setMonitor_settings (s : State) (k : Outlet) (v : Monitor) : (s.setMonitor k v).settings = s.settings := rfl
@[simp] theorem State.setMonitor_generation (s : State) (k : Outlet) (v : Monitor) : (s.setMonitor k v).generation = s.generation := rfl
@[simp] theorem State.setMonitor_pending (s : State) (k : Outlet) (v : Monitor) : (s.setMonitor k v).pending = s.pending := rfl
@[simp] theorem State.setMonitor_tracker (s : State) (k : Outlet) (v : Monitor) (j : Feed) : (s.setMonitor k v).tracker j = s.tracker j := rfl
@[simp] theorem State.setMonitor_meter (s : State) (k : Outlet) (v : Monitor) (j : Outlet) : (s.setMonitor k v).meter j = s.meter j := rfl
@[simp] theorem State.setMonitor_energyOf (s : State) (k : Outlet) (v : Monitor) (j : Outlet) : (s.setMonitor k v).energyOf j = s.energyOf j := rfl
@[simp] theorem State.setMonitor_hold (s : State) (k : Outlet) (v : Monitor) (j : Outlet) : (s.setMonitor k v).hold j = s.hold j := rfl
@[simp] theorem State.setMonitor_isTripped (s : State) (k : Outlet) (v : Monitor) (j : Outlet) : (s.setMonitor k v).isTripped j = s.isTripped j := rfl
@[simp] theorem State.setMonitor_sequencer (s : State) (k : Outlet) (v : Monitor) (j : Branch) : (s.setMonitor k v).sequencer j = s.sequencer j := rfl
@[simp] theorem State.setMonitor_driver (s : State) (k : Outlet) (v : Monitor) (j : Outlet) : (s.setMonitor k v).driver j = s.driver j := rfl
@[simp] theorem State.setMonitor_protection (s : State) (k : Outlet) (v : Monitor) (j : Branch) : (s.setMonitor k v).protection j = s.protection j := rfl
@[simp] theorem State.setMonitor_tripRun (s : State) (k : Outlet) (v : Monitor) (j : Outlet) : (s.setMonitor k v).tripRun j = s.tripRun j := rfl
theorem State.setMonitor_monitor (s : State) (k : Outlet) (v : Monitor) (j : Outlet) :
    (s.setMonitor k v).monitor j = if j = k then v else s.monitor j := look_put ..
@[simp] theorem State.setMonitor_monitor_self (s : State) (k : Outlet) (v : Monitor) : (s.setMonitor k v).monitor k = v := look_put_self ..
@[simp] theorem State.setMonitor_age (s : State) (k : Outlet) (v : Monitor) (j : Outlet) : (s.setMonitor k v).age j = s.age j := rfl
@[simp] theorem State.setMonitor_breaker (s : State) (k : Outlet) (v : Monitor) (j : Branch) : (s.setMonitor k v).breaker j = s.breaker j := rfl
@[simp] theorem State.setMonitor_sweepEngine (s : State) (k : Outlet) (v : Monitor) (y : Link) : (s.setMonitor k v).sweepEngine y = s.sweepEngine y := rfl
@[simp] theorem State.setMonitor_bankPort (s : State) (k : Outlet) (v : Monitor) (y : Link) : (s.setMonitor k v).bankPort y = s.bankPort y := rfl
@[simp] theorem State.setMonitor_port (s : State) (k : Outlet) (v : Monitor) (y : Link) : (s.setMonitor k v).port y = s.port y := rfl

/-! ### setAge -/

@[simp] theorem State.setAge_resetHeld (s : State) (k : Outlet) (v : Nat) : (s.setAge k v).resetHeld = s.resetHeld := rfl
@[simp] theorem State.setAge_sampleCounter (s : State) (k : Outlet) (v : Nat) : (s.setAge k v).sampleCounter = s.sampleCounter := rfl
@[simp] theorem State.setAge_seconds (s : State) (k : Outlet) (v : Nat) : (s.setAge k v).seconds = s.seconds := rfl
@[simp] theorem State.setAge_subSecond (s : State) (k : Outlet) (v : Nat) : (s.setAge k v).subSecond = s.subSecond := rfl
@[simp] theorem State.setAge_stamp (s : State) (k : Outlet) (v : Nat) : (s.setAge k v).stamp = s.stamp := rfl
@[simp] theorem State.setAge_handed (s : State) (k : Outlet) (v : Nat) : (s.setAge k v).handed = s.handed := rfl
@[simp] theorem State.setAge_breakers (s : State) (k : Outlet) (v : Nat) : (s.setAge k v).breakers = s.breakers := rfl
@[simp] theorem State.setAge_trackers (s : State) (k : Outlet) (v : Nat) : (s.setAge k v).trackers = s.trackers := rfl
@[simp] theorem State.setAge_meters (s : State) (k : Outlet) (v : Nat) : (s.setAge k v).meters = s.meters := rfl
@[simp] theorem State.setAge_energy (s : State) (k : Outlet) (v : Nat) : (s.setAge k v).energy = s.energy := rfl
@[simp] theorem State.setAge_entries (s : State) (k : Outlet) (v : Nat) : (s.setAge k v).entries = s.entries := rfl
@[simp] theorem State.setAge_nextId (s : State) (k : Outlet) (v : Nat) : (s.setAge k v).nextId = s.nextId := rfl
@[simp] theorem State.setAge_holds (s : State) (k : Outlet) (v : Nat) : (s.setAge k v).holds = s.holds := rfl
@[simp] theorem State.setAge_tripped (s : State) (k : Outlet) (v : Nat) : (s.setAge k v).tripped = s.tripped := rfl
@[simp] theorem State.setAge_handling (s : State) (k : Outlet) (v : Nat) : (s.setAge k v).handling = s.handling := rfl
@[simp] theorem State.setAge_sequencers (s : State) (k : Outlet) (v : Nat) : (s.setAge k v).sequencers = s.sequencers := rfl
@[simp] theorem State.setAge_drivers (s : State) (k : Outlet) (v : Nat) : (s.setAge k v).drivers = s.drivers := rfl
@[simp] theorem State.setAge_slots (s : State) (k : Outlet) (v : Nat) : (s.setAge k v).slots = s.slots := rfl
@[simp] theorem State.setAge_protections (s : State) (k : Outlet) (v : Nat) : (s.setAge k v).protections = s.protections := rfl
@[simp] theorem State.setAge_tripRuns (s : State) (k : Outlet) (v : Nat) : (s.setAge k v).tripRuns = s.tripRuns := rfl
@[simp] theorem State.setAge_monitors (s : State) (k : Outlet) (v : Nat) : (s.setAge k v).monitors = s.monitors := rfl
@[simp] theorem State.setAge_sweeps (s : State) (k : Outlet) (v : Nat) : (s.setAge k v).sweeps = s.sweeps := rfl
@[simp] theorem State.setAge_banks (s : State) (k : Outlet) (v : Nat) : (s.setAge k v).banks = s.banks := rfl
@[simp] theorem State.setAge_ports (s : State) (k : Outlet) (v : Nat) : (s.setAge k v).ports = s.ports := rfl
@[simp] theorem State.setAge_targetAddress (s : State) (k : Outlet) (v : Nat) : (s.setAge k v).targetAddress = s.targetAddress := rfl
@[simp] theorem State.setAge_settings (s : State) (k : Outlet) (v : Nat) : (s.setAge k v).settings = s.settings := rfl
@[simp] theorem State.setAge_generation (s : State) (k : Outlet) (v : Nat) : (s.setAge k v).generation = s.generation := rfl
@[simp] theorem State.setAge_pending (s : State) (k : Outlet) (v : Nat) : (s.setAge k v).pending = s.pending := rfl
@[simp] theorem State.setAge_tracker (s : State) (k : Outlet) (v : Nat) (j : Feed) : (s.setAge k v).tracker j = s.tracker j := rfl
@[simp] theorem State.setAge_meter (s : State) (k : Outlet) (v : Nat) (j : Outlet) : (s.setAge k v).meter j = s.meter j := rfl
@[simp] theorem State.setAge_energyOf (s : State) (k : Outlet) (v : Nat) (j : Outlet) : (s.setAge k v).energyOf j = s.energyOf j := rfl
@[simp] theorem State.setAge_hold (s : State) (k : Outlet) (v : Nat) (j : Outlet) : (s.setAge k v).hold j = s.hold j := rfl
@[simp] theorem State.setAge_isTripped (s : State) (k : Outlet) (v : Nat) (j : Outlet) : (s.setAge k v).isTripped j = s.isTripped j := rfl
@[simp] theorem State.setAge_sequencer (s : State) (k : Outlet) (v : Nat) (j : Branch) : (s.setAge k v).sequencer j = s.sequencer j := rfl
@[simp] theorem State.setAge_driver (s : State) (k : Outlet) (v : Nat) (j : Outlet) : (s.setAge k v).driver j = s.driver j := rfl
@[simp] theorem State.setAge_protection (s : State) (k : Outlet) (v : Nat) (j : Branch) : (s.setAge k v).protection j = s.protection j := rfl
@[simp] theorem State.setAge_tripRun (s : State) (k : Outlet) (v : Nat) (j : Outlet) : (s.setAge k v).tripRun j = s.tripRun j := rfl
@[simp] theorem State.setAge_monitor (s : State) (k : Outlet) (v : Nat) (j : Outlet) : (s.setAge k v).monitor j = s.monitor j := rfl
theorem State.setAge_age (s : State) (k : Outlet) (v : Nat) (j : Outlet) :
    (s.setAge k v).age j = if j = k then v else s.age j := look_put ..
@[simp] theorem State.setAge_age_self (s : State) (k : Outlet) (v : Nat) : (s.setAge k v).age k = v := look_put_self ..
@[simp] theorem State.setAge_breaker (s : State) (k : Outlet) (v : Nat) (j : Branch) : (s.setAge k v).breaker j = s.breaker j := rfl
@[simp] theorem State.setAge_sweepEngine (s : State) (k : Outlet) (v : Nat) (y : Link) : (s.setAge k v).sweepEngine y = s.sweepEngine y := rfl
@[simp] theorem State.setAge_bankPort (s : State) (k : Outlet) (v : Nat) (y : Link) : (s.setAge k v).bankPort y = s.bankPort y := rfl
@[simp] theorem State.setAge_port (s : State) (k : Outlet) (v : Nat) (y : Link) : (s.setAge k v).port y = s.port y := rfl

/-! ### setBreaker -/

@[simp] theorem State.setBreaker_resetHeld (s : State) (k : Branch) (v : Breaker) : (s.setBreaker k v).resetHeld = s.resetHeld := rfl
@[simp] theorem State.setBreaker_sampleCounter (s : State) (k : Branch) (v : Breaker) : (s.setBreaker k v).sampleCounter = s.sampleCounter := rfl
@[simp] theorem State.setBreaker_seconds (s : State) (k : Branch) (v : Breaker) : (s.setBreaker k v).seconds = s.seconds := rfl
@[simp] theorem State.setBreaker_subSecond (s : State) (k : Branch) (v : Breaker) : (s.setBreaker k v).subSecond = s.subSecond := rfl
@[simp] theorem State.setBreaker_stamp (s : State) (k : Branch) (v : Breaker) : (s.setBreaker k v).stamp = s.stamp := rfl
@[simp] theorem State.setBreaker_handed (s : State) (k : Branch) (v : Breaker) : (s.setBreaker k v).handed = s.handed := rfl
@[simp] theorem State.setBreaker_senseAge (s : State) (k : Branch) (v : Breaker) : (s.setBreaker k v).senseAge = s.senseAge := rfl
@[simp] theorem State.setBreaker_trackers (s : State) (k : Branch) (v : Breaker) : (s.setBreaker k v).trackers = s.trackers := rfl
@[simp] theorem State.setBreaker_meters (s : State) (k : Branch) (v : Breaker) : (s.setBreaker k v).meters = s.meters := rfl
@[simp] theorem State.setBreaker_energy (s : State) (k : Branch) (v : Breaker) : (s.setBreaker k v).energy = s.energy := rfl
@[simp] theorem State.setBreaker_entries (s : State) (k : Branch) (v : Breaker) : (s.setBreaker k v).entries = s.entries := rfl
@[simp] theorem State.setBreaker_nextId (s : State) (k : Branch) (v : Breaker) : (s.setBreaker k v).nextId = s.nextId := rfl
@[simp] theorem State.setBreaker_holds (s : State) (k : Branch) (v : Breaker) : (s.setBreaker k v).holds = s.holds := rfl
@[simp] theorem State.setBreaker_tripped (s : State) (k : Branch) (v : Breaker) : (s.setBreaker k v).tripped = s.tripped := rfl
@[simp] theorem State.setBreaker_handling (s : State) (k : Branch) (v : Breaker) : (s.setBreaker k v).handling = s.handling := rfl
@[simp] theorem State.setBreaker_sequencers (s : State) (k : Branch) (v : Breaker) : (s.setBreaker k v).sequencers = s.sequencers := rfl
@[simp] theorem State.setBreaker_drivers (s : State) (k : Branch) (v : Breaker) : (s.setBreaker k v).drivers = s.drivers := rfl
@[simp] theorem State.setBreaker_slots (s : State) (k : Branch) (v : Breaker) : (s.setBreaker k v).slots = s.slots := rfl
@[simp] theorem State.setBreaker_protections (s : State) (k : Branch) (v : Breaker) : (s.setBreaker k v).protections = s.protections := rfl
@[simp] theorem State.setBreaker_tripRuns (s : State) (k : Branch) (v : Breaker) : (s.setBreaker k v).tripRuns = s.tripRuns := rfl
@[simp] theorem State.setBreaker_monitors (s : State) (k : Branch) (v : Breaker) : (s.setBreaker k v).monitors = s.monitors := rfl
@[simp] theorem State.setBreaker_sweeps (s : State) (k : Branch) (v : Breaker) : (s.setBreaker k v).sweeps = s.sweeps := rfl
@[simp] theorem State.setBreaker_banks (s : State) (k : Branch) (v : Breaker) : (s.setBreaker k v).banks = s.banks := rfl
@[simp] theorem State.setBreaker_ports (s : State) (k : Branch) (v : Breaker) : (s.setBreaker k v).ports = s.ports := rfl
@[simp] theorem State.setBreaker_targetAddress (s : State) (k : Branch) (v : Breaker) : (s.setBreaker k v).targetAddress = s.targetAddress := rfl
@[simp] theorem State.setBreaker_settings (s : State) (k : Branch) (v : Breaker) : (s.setBreaker k v).settings = s.settings := rfl
@[simp] theorem State.setBreaker_generation (s : State) (k : Branch) (v : Breaker) : (s.setBreaker k v).generation = s.generation := rfl
@[simp] theorem State.setBreaker_pending (s : State) (k : Branch) (v : Breaker) : (s.setBreaker k v).pending = s.pending := rfl
@[simp] theorem State.setBreaker_tracker (s : State) (k : Branch) (v : Breaker) (j : Feed) : (s.setBreaker k v).tracker j = s.tracker j := rfl
@[simp] theorem State.setBreaker_meter (s : State) (k : Branch) (v : Breaker) (j : Outlet) : (s.setBreaker k v).meter j = s.meter j := rfl
@[simp] theorem State.setBreaker_energyOf (s : State) (k : Branch) (v : Breaker) (j : Outlet) : (s.setBreaker k v).energyOf j = s.energyOf j := rfl
@[simp] theorem State.setBreaker_hold (s : State) (k : Branch) (v : Breaker) (j : Outlet) : (s.setBreaker k v).hold j = s.hold j := rfl
@[simp] theorem State.setBreaker_isTripped (s : State) (k : Branch) (v : Breaker) (j : Outlet) : (s.setBreaker k v).isTripped j = s.isTripped j := rfl
@[simp] theorem State.setBreaker_sequencer (s : State) (k : Branch) (v : Breaker) (j : Branch) : (s.setBreaker k v).sequencer j = s.sequencer j := rfl
@[simp] theorem State.setBreaker_driver (s : State) (k : Branch) (v : Breaker) (j : Outlet) : (s.setBreaker k v).driver j = s.driver j := rfl
@[simp] theorem State.setBreaker_protection (s : State) (k : Branch) (v : Breaker) (j : Branch) : (s.setBreaker k v).protection j = s.protection j := rfl
@[simp] theorem State.setBreaker_tripRun (s : State) (k : Branch) (v : Breaker) (j : Outlet) : (s.setBreaker k v).tripRun j = s.tripRun j := rfl
@[simp] theorem State.setBreaker_monitor (s : State) (k : Branch) (v : Breaker) (j : Outlet) : (s.setBreaker k v).monitor j = s.monitor j := rfl
@[simp] theorem State.setBreaker_age (s : State) (k : Branch) (v : Breaker) (j : Outlet) : (s.setBreaker k v).age j = s.age j := rfl
theorem State.setBreaker_breaker (s : State) (k : Branch) (v : Breaker) (j : Branch) :
    (s.setBreaker k v).breaker j = if j = k then v else s.breaker j := look_put ..
@[simp] theorem State.setBreaker_breaker_self (s : State) (k : Branch) (v : Breaker) : (s.setBreaker k v).breaker k = v := look_put_self ..
@[simp] theorem State.setBreaker_sweepEngine (s : State) (k : Branch) (v : Breaker) (y : Link) : (s.setBreaker k v).sweepEngine y = s.sweepEngine y := rfl
@[simp] theorem State.setBreaker_bankPort (s : State) (k : Branch) (v : Breaker) (y : Link) : (s.setBreaker k v).bankPort y = s.bankPort y := rfl
@[simp] theorem State.setBreaker_port (s : State) (k : Branch) (v : Breaker) (y : Link) : (s.setBreaker k v).port y = s.port y := rfl

/-! ### setSweep -/

@[simp] theorem State.setSweep_resetHeld (s : State) (x : Link) (v : SweepEngine) : (s.setSweep x v).resetHeld = s.resetHeld := rfl
@[simp] theorem State.setSweep_sampleCounter (s : State) (x : Link) (v : SweepEngine) : (s.setSweep x v).sampleCounter = s.sampleCounter := rfl
@[simp] theorem State.setSweep_seconds (s : State) (x : Link) (v : SweepEngine) : (s.setSweep x v).seconds = s.seconds := rfl
@[simp] theorem State.setSweep_subSecond (s : State) (x : Link) (v : SweepEngine) : (s.setSweep x v).subSecond = s.subSecond := rfl
@[simp] theorem State.setSweep_stamp (s : State) (x : Link) (v : SweepEngine) : (s.setSweep x v).stamp = s.stamp := rfl
@[simp] theorem State.setSweep_handed (s : State) (x : Link) (v : SweepEngine) : (s.setSweep x v).handed = s.handed := rfl
@[simp] theorem State.setSweep_senseAge (s : State) (x : Link) (v : SweepEngine) : (s.setSweep x v).senseAge = s.senseAge := rfl
@[simp] theorem State.setSweep_breakers (s : State) (x : Link) (v : SweepEngine) : (s.setSweep x v).breakers = s.breakers := rfl
@[simp] theorem State.setSweep_trackers (s : State) (x : Link) (v : SweepEngine) : (s.setSweep x v).trackers = s.trackers := rfl
@[simp] theorem State.setSweep_meters (s : State) (x : Link) (v : SweepEngine) : (s.setSweep x v).meters = s.meters := rfl
@[simp] theorem State.setSweep_energy (s : State) (x : Link) (v : SweepEngine) : (s.setSweep x v).energy = s.energy := rfl
@[simp] theorem State.setSweep_entries (s : State) (x : Link) (v : SweepEngine) : (s.setSweep x v).entries = s.entries := rfl
@[simp] theorem State.setSweep_nextId (s : State) (x : Link) (v : SweepEngine) : (s.setSweep x v).nextId = s.nextId := rfl
@[simp] theorem State.setSweep_holds (s : State) (x : Link) (v : SweepEngine) : (s.setSweep x v).holds = s.holds := rfl
@[simp] theorem State.setSweep_tripped (s : State) (x : Link) (v : SweepEngine) : (s.setSweep x v).tripped = s.tripped := rfl
@[simp] theorem State.setSweep_handling (s : State) (x : Link) (v : SweepEngine) : (s.setSweep x v).handling = s.handling := rfl
@[simp] theorem State.setSweep_sequencers (s : State) (x : Link) (v : SweepEngine) : (s.setSweep x v).sequencers = s.sequencers := rfl
@[simp] theorem State.setSweep_drivers (s : State) (x : Link) (v : SweepEngine) : (s.setSweep x v).drivers = s.drivers := rfl
@[simp] theorem State.setSweep_slots (s : State) (x : Link) (v : SweepEngine) : (s.setSweep x v).slots = s.slots := rfl
@[simp] theorem State.setSweep_protections (s : State) (x : Link) (v : SweepEngine) : (s.setSweep x v).protections = s.protections := rfl
@[simp] theorem State.setSweep_tripRuns (s : State) (x : Link) (v : SweepEngine) : (s.setSweep x v).tripRuns = s.tripRuns := rfl
@[simp] theorem State.setSweep_monitors (s : State) (x : Link) (v : SweepEngine) : (s.setSweep x v).monitors = s.monitors := rfl
@[simp] theorem State.setSweep_banks (s : State) (x : Link) (v : SweepEngine) : (s.setSweep x v).banks = s.banks := rfl
@[simp] theorem State.setSweep_ports (s : State) (x : Link) (v : SweepEngine) : (s.setSweep x v).ports = s.ports := rfl
@[simp] theorem State.setSweep_targetAddress (s : State) (x : Link) (v : SweepEngine) : (s.setSweep x v).targetAddress = s.targetAddress := rfl
@[simp] theorem State.setSweep_settings (s : State) (x : Link) (v : SweepEngine) : (s.setSweep x v).settings = s.settings := rfl
@[simp] theorem State.setSweep_generation (s : State) (x : Link) (v : SweepEngine) : (s.setSweep x v).generation = s.generation := rfl
@[simp] theorem State.setSweep_pending (s : State) (x : Link) (v : SweepEngine) : (s.setSweep x v).pending = s.pending := rfl
@[simp] theorem State.setSweep_tracker (s : State) (x : Link) (v : SweepEngine) (j : Feed) : (s.setSweep x v).tracker j = s.tracker j := rfl
@[simp] theorem State.setSweep_meter (s : State) (x : Link) (v : SweepEngine) (j : Outlet) : (s.setSweep x v).meter j = s.meter j := rfl
@[simp] theorem State.setSweep_energyOf (s : State) (x : Link) (v : SweepEngine) (j : Outlet) : (s.setSweep x v).energyOf j = s.energyOf j := rfl
@[simp] theorem State.setSweep_hold (s : State) (x : Link) (v : SweepEngine) (j : Outlet) : (s.setSweep x v).hold j = s.hold j := rfl
@[simp] theorem State.setSweep_isTripped (s : State) (x : Link) (v : SweepEngine) (j : Outlet) : (s.setSweep x v).isTripped j = s.isTripped j := rfl
@[simp] theorem State.setSweep_sequencer (s : State) (x : Link) (v : SweepEngine) (j : Branch) : (s.setSweep x v).sequencer j = s.sequencer j := rfl
@[simp] theorem State.setSweep_driver (s : State) (x : Link) (v : SweepEngine) (j : Outlet) : (s.setSweep x v).driver j = s.driver j := rfl
@[simp] theorem State.setSweep_protection (s : State) (x : Link) (v : SweepEngine) (j : Branch) : (s.setSweep x v).protection j = s.protection j := rfl
@[simp] theorem State.setSweep_tripRun (s : State) (x : Link) (v : SweepEngine) (j : Outlet) : (s.setSweep x v).tripRun j = s.tripRun j := rfl
@[simp] theorem State.setSweep_monitor (s : State) (x : Link) (v : SweepEngine) (j : Outlet) : (s.setSweep x v).monitor j = s.monitor j := rfl
@[simp] theorem State.setSweep_age (s : State) (x : Link) (v : SweepEngine) (j : Outlet) : (s.setSweep x v).age j = s.age j := rfl
@[simp] theorem State.setSweep_breaker (s : State) (x : Link) (v : SweepEngine) (j : Branch) : (s.setSweep x v).breaker j = s.breaker j := rfl
theorem State.setSweep_sweepEngine (s : State) (x : Link) (v : SweepEngine) (y : Link) :
    (s.setSweep x v).sweepEngine y = if y = x then v else s.sweepEngine y := PerLink.get_set ..
@[simp] theorem State.setSweep_sweepEngine_self (s : State) (x : Link) (v : SweepEngine) : (s.setSweep x v).sweepEngine x = v := PerLink.get_set_self ..
@[simp] theorem State.setSweep_sweepEngine_other (s : State) (x : Link) (v : SweepEngine) : (s.setSweep x v).sweepEngine x.other = s.sweepEngine x.other := PerLink.get_other_set ..
@[simp] theorem State.setSweep_bankPort (s : State) (x : Link) (v : SweepEngine) (y : Link) : (s.setSweep x v).bankPort y = s.bankPort y := rfl
@[simp] theorem State.setSweep_port (s : State) (x : Link) (v : SweepEngine) (y : Link) : (s.setSweep x v).port y = s.port y := rfl

/-! ### setBank -/

@[simp] theorem State.setBank_resetHeld (s : State) (x : Link) (v : BankPort) : (s.setBank x v).resetHeld = s.resetHeld := rfl
@[simp] theorem State.setBank_sampleCounter (s : State) (x : Link) (v : BankPort) : (s.setBank x v).sampleCounter = s.sampleCounter := rfl
@[simp] theorem State.setBank_seconds (s : State) (x : Link) (v : BankPort) : (s.setBank x v).seconds = s.seconds := rfl
@[simp] theorem State.setBank_subSecond (s : State) (x : Link) (v : BankPort) : (s.setBank x v).subSecond = s.subSecond := rfl
@[simp] theorem State.setBank_stamp (s : State) (x : Link) (v : BankPort) : (s.setBank x v).stamp = s.stamp := rfl
@[simp] theorem State.setBank_handed (s : State) (x : Link) (v : BankPort) : (s.setBank x v).handed = s.handed := rfl
@[simp] theorem State.setBank_senseAge (s : State) (x : Link) (v : BankPort) : (s.setBank x v).senseAge = s.senseAge := rfl
@[simp] theorem State.setBank_breakers (s : State) (x : Link) (v : BankPort) : (s.setBank x v).breakers = s.breakers := rfl
@[simp] theorem State.setBank_trackers (s : State) (x : Link) (v : BankPort) : (s.setBank x v).trackers = s.trackers := rfl
@[simp] theorem State.setBank_meters (s : State) (x : Link) (v : BankPort) : (s.setBank x v).meters = s.meters := rfl
@[simp] theorem State.setBank_energy (s : State) (x : Link) (v : BankPort) : (s.setBank x v).energy = s.energy := rfl
@[simp] theorem State.setBank_entries (s : State) (x : Link) (v : BankPort) : (s.setBank x v).entries = s.entries := rfl
@[simp] theorem State.setBank_nextId (s : State) (x : Link) (v : BankPort) : (s.setBank x v).nextId = s.nextId := rfl
@[simp] theorem State.setBank_holds (s : State) (x : Link) (v : BankPort) : (s.setBank x v).holds = s.holds := rfl
@[simp] theorem State.setBank_tripped (s : State) (x : Link) (v : BankPort) : (s.setBank x v).tripped = s.tripped := rfl
@[simp] theorem State.setBank_handling (s : State) (x : Link) (v : BankPort) : (s.setBank x v).handling = s.handling := rfl
@[simp] theorem State.setBank_sequencers (s : State) (x : Link) (v : BankPort) : (s.setBank x v).sequencers = s.sequencers := rfl
@[simp] theorem State.setBank_drivers (s : State) (x : Link) (v : BankPort) : (s.setBank x v).drivers = s.drivers := rfl
@[simp] theorem State.setBank_slots (s : State) (x : Link) (v : BankPort) : (s.setBank x v).slots = s.slots := rfl
@[simp] theorem State.setBank_protections (s : State) (x : Link) (v : BankPort) : (s.setBank x v).protections = s.protections := rfl
@[simp] theorem State.setBank_tripRuns (s : State) (x : Link) (v : BankPort) : (s.setBank x v).tripRuns = s.tripRuns := rfl
@[simp] theorem State.setBank_monitors (s : State) (x : Link) (v : BankPort) : (s.setBank x v).monitors = s.monitors := rfl
@[simp] theorem State.setBank_sweeps (s : State) (x : Link) (v : BankPort) : (s.setBank x v).sweeps = s.sweeps := rfl
@[simp] theorem State.setBank_ports (s : State) (x : Link) (v : BankPort) : (s.setBank x v).ports = s.ports := rfl
@[simp] theorem State.setBank_targetAddress (s : State) (x : Link) (v : BankPort) : (s.setBank x v).targetAddress = s.targetAddress := rfl
@[simp] theorem State.setBank_settings (s : State) (x : Link) (v : BankPort) : (s.setBank x v).settings = s.settings := rfl
@[simp] theorem State.setBank_generation (s : State) (x : Link) (v : BankPort) : (s.setBank x v).generation = s.generation := rfl
@[simp] theorem State.setBank_pending (s : State) (x : Link) (v : BankPort) : (s.setBank x v).pending = s.pending := rfl
@[simp] theorem State.setBank_tracker (s : State) (x : Link) (v : BankPort) (j : Feed) : (s.setBank x v).tracker j = s.tracker j := rfl
@[simp] theorem State.setBank_meter (s : State) (x : Link) (v : BankPort) (j : Outlet) : (s.setBank x v).meter j = s.meter j := rfl
@[simp] theorem State.setBank_energyOf (s : State) (x : Link) (v : BankPort) (j : Outlet) : (s.setBank x v).energyOf j = s.energyOf j := rfl
@[simp] theorem State.setBank_hold (s : State) (x : Link) (v : BankPort) (j : Outlet) : (s.setBank x v).hold j = s.hold j := rfl
@[simp] theorem State.setBank_isTripped (s : State) (x : Link) (v : BankPort) (j : Outlet) : (s.setBank x v).isTripped j = s.isTripped j := rfl
@[simp] theorem State.setBank_sequencer (s : State) (x : Link) (v : BankPort) (j : Branch) : (s.setBank x v).sequencer j = s.sequencer j := rfl
@[simp] theorem State.setBank_driver (s : State) (x : Link) (v : BankPort) (j : Outlet) : (s.setBank x v).driver j = s.driver j := rfl
@[simp] theorem State.setBank_protection (s : State) (x : Link) (v : BankPort) (j : Branch) : (s.setBank x v).protection j = s.protection j := rfl
@[simp] theorem State.setBank_tripRun (s : State) (x : Link) (v : BankPort) (j : Outlet) : (s.setBank x v).tripRun j = s.tripRun j := rfl
@[simp] theorem State.setBank_monitor (s : State) (x : Link) (v : BankPort) (j : Outlet) : (s.setBank x v).monitor j = s.monitor j := rfl
@[simp] theorem State.setBank_age (s : State) (x : Link) (v : BankPort) (j : Outlet) : (s.setBank x v).age j = s.age j := rfl
@[simp] theorem State.setBank_breaker (s : State) (x : Link) (v : BankPort) (j : Branch) : (s.setBank x v).breaker j = s.breaker j := rfl
@[simp] theorem State.setBank_sweepEngine (s : State) (x : Link) (v : BankPort) (y : Link) : (s.setBank x v).sweepEngine y = s.sweepEngine y := rfl
theorem State.setBank_bankPort (s : State) (x : Link) (v : BankPort) (y : Link) :
    (s.setBank x v).bankPort y = if y = x then v else s.bankPort y := PerLink.get_set ..
@[simp] theorem State.setBank_bankPort_self (s : State) (x : Link) (v : BankPort) : (s.setBank x v).bankPort x = v := PerLink.get_set_self ..
@[simp] theorem State.setBank_bankPort_other (s : State) (x : Link) (v : BankPort) : (s.setBank x v).bankPort x.other = s.bankPort x.other := PerLink.get_other_set ..
@[simp] theorem State.setBank_port (s : State) (x : Link) (v : BankPort) (y : Link) : (s.setBank x v).port y = s.port y := rfl

/-! ### setPort -/

@[simp] theorem State.setPort_resetHeld (s : State) (x : Link) (v : Port) : (s.setPort x v).resetHeld = s.resetHeld := rfl
@[simp] theorem State.setPort_sampleCounter (s : State) (x : Link) (v : Port) : (s.setPort x v).sampleCounter = s.sampleCounter := rfl
@[simp] theorem State.setPort_seconds (s : State) (x : Link) (v : Port) : (s.setPort x v).seconds = s.seconds := rfl
@[simp] theorem State.setPort_subSecond (s : State) (x : Link) (v : Port) : (s.setPort x v).subSecond = s.subSecond := rfl
@[simp] theorem State.setPort_stamp (s : State) (x : Link) (v : Port) : (s.setPort x v).stamp = s.stamp := rfl
@[simp] theorem State.setPort_handed (s : State) (x : Link) (v : Port) : (s.setPort x v).handed = s.handed := rfl
@[simp] theorem State.setPort_senseAge (s : State) (x : Link) (v : Port) : (s.setPort x v).senseAge = s.senseAge := rfl
@[simp] theorem State.setPort_breakers (s : State) (x : Link) (v : Port) : (s.setPort x v).breakers = s.breakers := rfl
@[simp] theorem State.setPort_trackers (s : State) (x : Link) (v : Port) : (s.setPort x v).trackers = s.trackers := rfl
@[simp] theorem State.setPort_meters (s : State) (x : Link) (v : Port) : (s.setPort x v).meters = s.meters := rfl
@[simp] theorem State.setPort_energy (s : State) (x : Link) (v : Port) : (s.setPort x v).energy = s.energy := rfl
@[simp] theorem State.setPort_entries (s : State) (x : Link) (v : Port) : (s.setPort x v).entries = s.entries := rfl
@[simp] theorem State.setPort_nextId (s : State) (x : Link) (v : Port) : (s.setPort x v).nextId = s.nextId := rfl
@[simp] theorem State.setPort_holds (s : State) (x : Link) (v : Port) : (s.setPort x v).holds = s.holds := rfl
@[simp] theorem State.setPort_tripped (s : State) (x : Link) (v : Port) : (s.setPort x v).tripped = s.tripped := rfl
@[simp] theorem State.setPort_handling (s : State) (x : Link) (v : Port) : (s.setPort x v).handling = s.handling := rfl
@[simp] theorem State.setPort_sequencers (s : State) (x : Link) (v : Port) : (s.setPort x v).sequencers = s.sequencers := rfl
@[simp] theorem State.setPort_drivers (s : State) (x : Link) (v : Port) : (s.setPort x v).drivers = s.drivers := rfl
@[simp] theorem State.setPort_slots (s : State) (x : Link) (v : Port) : (s.setPort x v).slots = s.slots := rfl
@[simp] theorem State.setPort_protections (s : State) (x : Link) (v : Port) : (s.setPort x v).protections = s.protections := rfl
@[simp] theorem State.setPort_tripRuns (s : State) (x : Link) (v : Port) : (s.setPort x v).tripRuns = s.tripRuns := rfl
@[simp] theorem State.setPort_monitors (s : State) (x : Link) (v : Port) : (s.setPort x v).monitors = s.monitors := rfl
@[simp] theorem State.setPort_sweeps (s : State) (x : Link) (v : Port) : (s.setPort x v).sweeps = s.sweeps := rfl
@[simp] theorem State.setPort_banks (s : State) (x : Link) (v : Port) : (s.setPort x v).banks = s.banks := rfl
@[simp] theorem State.setPort_targetAddress (s : State) (x : Link) (v : Port) : (s.setPort x v).targetAddress = s.targetAddress := rfl
@[simp] theorem State.setPort_settings (s : State) (x : Link) (v : Port) : (s.setPort x v).settings = s.settings := rfl
@[simp] theorem State.setPort_generation (s : State) (x : Link) (v : Port) : (s.setPort x v).generation = s.generation := rfl
@[simp] theorem State.setPort_pending (s : State) (x : Link) (v : Port) : (s.setPort x v).pending = s.pending := rfl
@[simp] theorem State.setPort_tracker (s : State) (x : Link) (v : Port) (j : Feed) : (s.setPort x v).tracker j = s.tracker j := rfl
@[simp] theorem State.setPort_meter (s : State) (x : Link) (v : Port) (j : Outlet) : (s.setPort x v).meter j = s.meter j := rfl
@[simp] theorem State.setPort_energyOf (s : State) (x : Link) (v : Port) (j : Outlet) : (s.setPort x v).energyOf j = s.energyOf j := rfl
@[simp] theorem State.setPort_hold (s : State) (x : Link) (v : Port) (j : Outlet) : (s.setPort x v).hold j = s.hold j := rfl
@[simp] theorem State.setPort_isTripped (s : State) (x : Link) (v : Port) (j : Outlet) : (s.setPort x v).isTripped j = s.isTripped j := rfl
@[simp] theorem State.setPort_sequencer (s : State) (x : Link) (v : Port) (j : Branch) : (s.setPort x v).sequencer j = s.sequencer j := rfl
@[simp] theorem State.setPort_driver (s : State) (x : Link) (v : Port) (j : Outlet) : (s.setPort x v).driver j = s.driver j := rfl
@[simp] theorem State.setPort_protection (s : State) (x : Link) (v : Port) (j : Branch) : (s.setPort x v).protection j = s.protection j := rfl
@[simp] theorem State.setPort_tripRun (s : State) (x : Link) (v : Port) (j : Outlet) : (s.setPort x v).tripRun j = s.tripRun j := rfl
@[simp] theorem State.setPort_monitor (s : State) (x : Link) (v : Port) (j : Outlet) : (s.setPort x v).monitor j = s.monitor j := rfl
@[simp] theorem State.setPort_age (s : State) (x : Link) (v : Port) (j : Outlet) : (s.setPort x v).age j = s.age j := rfl
@[simp] theorem State.setPort_breaker (s : State) (x : Link) (v : Port) (j : Branch) : (s.setPort x v).breaker j = s.breaker j := rfl
@[simp] theorem State.setPort_sweepEngine (s : State) (x : Link) (v : Port) (y : Link) : (s.setPort x v).sweepEngine y = s.sweepEngine y := rfl
@[simp] theorem State.setPort_bankPort (s : State) (x : Link) (v : Port) (y : Link) : (s.setPort x v).bankPort y = s.bankPort y := rfl
theorem State.setPort_port (s : State) (x : Link) (v : Port) (y : Link) :
    (s.setPort x v).port y = if y = x then v else s.port y := PerLink.get_set ..
@[simp] theorem State.setPort_port_self (s : State) (x : Link) (v : Port) : (s.setPort x v).port x = v := PerLink.get_set_self ..
@[simp] theorem State.setPort_port_other (s : State) (x : Link) (v : Port) : (s.setPort x v).port x.other = s.port x.other := PerLink.get_other_set ..

/-! ### setHanded -/

@[simp] theorem State.setHanded_resetHeld (s : State) (v : Handed) : (s.setHanded v).resetHeld = s.resetHeld := rfl
@[simp] theorem State.setHanded_sampleCounter (s : State) (v : Handed) : (s.setHanded v).sampleCounter = s.sampleCounter := rfl
@[simp] theorem State.setHanded_seconds (s : State) (v : Handed) : (s.setHanded v).seconds = s.seconds := rfl
@[simp] theorem State.setHanded_subSecond (s : State) (v : Handed) : (s.setHanded v).subSecond = s.subSecond := rfl
@[simp] theorem State.setHanded_stamp (s : State) (v : Handed) : (s.setHanded v).stamp = s.stamp := rfl
@[simp] theorem State.setHanded_senseAge (s : State) (v : Handed) : (s.setHanded v).senseAge = s.senseAge := rfl
@[simp] theorem State.setHanded_breakers (s : State) (v : Handed) : (s.setHanded v).breakers = s.breakers := rfl
@[simp] theorem State.setHanded_trackers (s : State) (v : Handed) : (s.setHanded v).trackers = s.trackers := rfl
@[simp] theorem State.setHanded_meters (s : State) (v : Handed) : (s.setHanded v).meters = s.meters := rfl
@[simp] theorem State.setHanded_energy (s : State) (v : Handed) : (s.setHanded v).energy = s.energy := rfl
@[simp] theorem State.setHanded_entries (s : State) (v : Handed) : (s.setHanded v).entries = s.entries := rfl
@[simp] theorem State.setHanded_nextId (s : State) (v : Handed) : (s.setHanded v).nextId = s.nextId := rfl
@[simp] theorem State.setHanded_holds (s : State) (v : Handed) : (s.setHanded v).holds = s.holds := rfl
@[simp] theorem State.setHanded_tripped (s : State) (v : Handed) : (s.setHanded v).tripped = s.tripped := rfl
@[simp] theorem State.setHanded_handling (s : State) (v : Handed) : (s.setHanded v).handling = s.handling := rfl
@[simp] theorem State.setHanded_sequencers (s : State) (v : Handed) : (s.setHanded v).sequencers = s.sequencers := rfl
@[simp] theorem State.setHanded_drivers (s : State) (v : Handed) : (s.setHanded v).drivers = s.drivers := rfl
@[simp] theorem State.setHanded_slots (s : State) (v : Handed) : (s.setHanded v).slots = s.slots := rfl
@[simp] theorem State.setHanded_protections (s : State) (v : Handed) : (s.setHanded v).protections = s.protections := rfl
@[simp] theorem State.setHanded_tripRuns (s : State) (v : Handed) : (s.setHanded v).tripRuns = s.tripRuns := rfl
@[simp] theorem State.setHanded_monitors (s : State) (v : Handed) : (s.setHanded v).monitors = s.monitors := rfl
@[simp] theorem State.setHanded_sweeps (s : State) (v : Handed) : (s.setHanded v).sweeps = s.sweeps := rfl
@[simp] theorem State.setHanded_banks (s : State) (v : Handed) : (s.setHanded v).banks = s.banks := rfl
@[simp] theorem State.setHanded_ports (s : State) (v : Handed) : (s.setHanded v).ports = s.ports := rfl
@[simp] theorem State.setHanded_targetAddress (s : State) (v : Handed) : (s.setHanded v).targetAddress = s.targetAddress := rfl
@[simp] theorem State.setHanded_settings (s : State) (v : Handed) : (s.setHanded v).settings = s.settings := rfl
@[simp] theorem State.setHanded_generation (s : State) (v : Handed) : (s.setHanded v).generation = s.generation := rfl
@[simp] theorem State.setHanded_pending (s : State) (v : Handed) : (s.setHanded v).pending = s.pending := rfl
@[simp] theorem State.setHanded_handed (s : State) (v : Handed) : (s.setHanded v).handed = v := rfl
@[simp] theorem State.setHanded_tracker (s : State) (v : Handed) (j : Feed) : (s.setHanded v).tracker j = s.tracker j := rfl
@[simp] theorem State.setHanded_meter (s : State) (v : Handed) (j : Outlet) : (s.setHanded v).meter j = s.meter j := rfl
@[simp] theorem State.setHanded_energyOf (s : State) (v : Handed) (j : Outlet) : (s.setHanded v).energyOf j = s.energyOf j := rfl
@[simp] theorem State.setHanded_hold (s : State) (v : Handed) (j : Outlet) : (s.setHanded v).hold j = s.hold j := rfl
@[simp] theorem State.setHanded_isTripped (s : State) (v : Handed) (j : Outlet) : (s.setHanded v).isTripped j = s.isTripped j := rfl
@[simp] theorem State.setHanded_sequencer (s : State) (v : Handed) (j : Branch) : (s.setHanded v).sequencer j = s.sequencer j := rfl
@[simp] theorem State.setHanded_driver (s : State) (v : Handed) (j : Outlet) : (s.setHanded v).driver j = s.driver j := rfl
@[simp] theorem State.setHanded_protection (s : State) (v : Handed) (j : Branch) : (s.setHanded v).protection j = s.protection j := rfl
@[simp] theorem State.setHanded_tripRun (s : State) (v : Handed) (j : Outlet) : (s.setHanded v).tripRun j = s.tripRun j := rfl
@[simp] theorem State.setHanded_monitor (s : State) (v : Handed) (j : Outlet) : (s.setHanded v).monitor j = s.monitor j := rfl
@[simp] theorem State.setHanded_age (s : State) (v : Handed) (j : Outlet) : (s.setHanded v).age j = s.age j := rfl
@[simp] theorem State.setHanded_breaker (s : State) (v : Handed) (j : Branch) : (s.setHanded v).breaker j = s.breaker j := rfl
@[simp] theorem State.setHanded_sweepEngine (s : State) (v : Handed) (y : Link) : (s.setHanded v).sweepEngine y = s.sweepEngine y := rfl
@[simp] theorem State.setHanded_bankPort (s : State) (v : Handed) (y : Link) : (s.setHanded v).bankPort y = s.bankPort y := rfl
@[simp] theorem State.setHanded_port (s : State) (v : Handed) (y : Link) : (s.setHanded v).port y = s.port y := rfl

/-! ### setEntries -/

@[simp] theorem State.setEntries_resetHeld (s : State) (v : List Entry) : (s.setEntries v).resetHeld = s.resetHeld := rfl
@[simp] theorem State.setEntries_sampleCounter (s : State) (v : List Entry) : (s.setEntries v).sampleCounter = s.sampleCounter := rfl
@[simp] theorem State.setEntries_seconds (s : State) (v : List Entry) : (s.setEntries v).seconds = s.seconds := rfl
@[simp] theorem State.setEntries_subSecond (s : State) (v : List Entry) : (s.setEntries v).subSecond = s.subSecond := rfl
@[simp] theorem State.setEntries_stamp (s : State) (v : List Entry) : (s.setEntries v).stamp = s.stamp := rfl
@[simp] theorem State.setEntries_handed (s : State) (v : List Entry) : (s.setEntries v).handed = s.handed := rfl
@[simp] theorem State.setEntries_senseAge (s : State) (v : List Entry) : (s.setEntries v).senseAge = s.senseAge := rfl
@[simp] theorem State.setEntries_breakers (s : State) (v : List Entry) : (s.setEntries v).breakers = s.breakers := rfl
@[simp] theorem State.setEntries_trackers (s : State) (v : List Entry) : (s.setEntries v).trackers = s.trackers := rfl
@[simp] theorem State.setEntries_meters (s : State) (v : List Entry) : (s.setEntries v).meters = s.meters := rfl
@[simp] theorem State.setEntries_energy (s : State) (v : List Entry) : (s.setEntries v).energy = s.energy := rfl
@[simp] theorem State.setEntries_nextId (s : State) (v : List Entry) : (s.setEntries v).nextId = s.nextId := rfl
@[simp] theorem State.setEntries_holds (s : State) (v : List Entry) : (s.setEntries v).holds = s.holds := rfl
@[simp] theorem State.setEntries_tripped (s : State) (v : List Entry) : (s.setEntries v).tripped = s.tripped := rfl
@[simp] theorem State.setEntries_handling (s : State) (v : List Entry) : (s.setEntries v).handling = s.handling := rfl
@[simp] theorem State.setEntries_sequencers (s : State) (v : List Entry) : (s.setEntries v).sequencers = s.sequencers := rfl
@[simp] theorem State.setEntries_drivers (s : State) (v : List Entry) : (s.setEntries v).drivers = s.drivers := rfl
@[simp] theorem State.setEntries_slots (s : State) (v : List Entry) : (s.setEntries v).slots = s.slots := rfl
@[simp] theorem State.setEntries_protections (s : State) (v : List Entry) : (s.setEntries v).protections = s.protections := rfl
@[simp] theorem State.setEntries_tripRuns (s : State) (v : List Entry) : (s.setEntries v).tripRuns = s.tripRuns := rfl
@[simp] theorem State.setEntries_monitors (s : State) (v : List Entry) : (s.setEntries v).monitors = s.monitors := rfl
@[simp] theorem State.setEntries_sweeps (s : State) (v : List Entry) : (s.setEntries v).sweeps = s.sweeps := rfl
@[simp] theorem State.setEntries_banks (s : State) (v : List Entry) : (s.setEntries v).banks = s.banks := rfl
@[simp] theorem State.setEntries_ports (s : State) (v : List Entry) : (s.setEntries v).ports = s.ports := rfl
@[simp] theorem State.setEntries_targetAddress (s : State) (v : List Entry) : (s.setEntries v).targetAddress = s.targetAddress := rfl
@[simp] theorem State.setEntries_settings (s : State) (v : List Entry) : (s.setEntries v).settings = s.settings := rfl
@[simp] theorem State.setEntries_generation (s : State) (v : List Entry) : (s.setEntries v).generation = s.generation := rfl
@[simp] theorem State.setEntries_pending (s : State) (v : List Entry) : (s.setEntries v).pending = s.pending := rfl
@[simp] theorem State.setEntries_entries (s : State) (v : List Entry) : (s.setEntries v).entries = v := rfl
@[simp] theorem State.setEntries_tracker (s : State) (v : List Entry) (j : Feed) : (s.setEntries v).tracker j = s.tracker j := rfl
@[simp] theorem State.setEntries_meter (s : State) (v : List Entry) (j : Outlet) : (s.setEntries v).meter j = s.meter j := rfl
@[simp] theorem State.setEntries_energyOf (s : State) (v : List Entry) (j : Outlet) : (s.setEntries v).energyOf j = s.energyOf j := rfl
@[simp] theorem State.setEntries_hold (s : State) (v : List Entry) (j : Outlet) : (s.setEntries v).hold j = s.hold j := rfl
@[simp] theorem State.setEntries_isTripped (s : State) (v : List Entry) (j : Outlet) : (s.setEntries v).isTripped j = s.isTripped j := rfl
@[simp] theorem State.setEntries_sequencer (s : State) (v : List Entry) (j : Branch) : (s.setEntries v).sequencer j = s.sequencer j := rfl
@[simp] theorem State.setEntries_driver (s : State) (v : List Entry) (j : Outlet) : (s.setEntries v).driver j = s.driver j := rfl
@[simp] theorem State.setEntries_protection (s : State) (v : List Entry) (j : Branch) : (s.setEntries v).protection j = s.protection j := rfl
@[simp] theorem State.setEntries_tripRun (s : State) (v : List Entry) (j : Outlet) : (s.setEntries v).tripRun j = s.tripRun j := rfl
@[simp] theorem State.setEntries_monitor (s : State) (v : List Entry) (j : Outlet) : (s.setEntries v).monitor j = s.monitor j := rfl
@[simp] theorem State.setEntries_age (s : State) (v : List Entry) (j : Outlet) : (s.setEntries v).age j = s.age j := rfl
@[simp] theorem State.setEntries_breaker (s : State) (v : List Entry) (j : Branch) : (s.setEntries v).breaker j = s.breaker j := rfl
@[simp] theorem State.setEntries_sweepEngine (s : State) (v : List Entry) (y : Link) : (s.setEntries v).sweepEngine y = s.sweepEngine y := rfl
@[simp] theorem State.setEntries_bankPort (s : State) (v : List Entry) (y : Link) : (s.setEntries v).bankPort y = s.bankPort y := rfl
@[simp] theorem State.setEntries_port (s : State) (v : List Entry) (y : Link) : (s.setEntries v).port y = s.port y := rfl

/-! ### setNextId -/

@[simp] theorem State.setNextId_resetHeld (s : State) (v : Byte) : (s.setNextId v).resetHeld = s.resetHeld := rfl
@[simp] theorem State.setNextId_sampleCounter (s : State) (v : Byte) : (s.setNextId v).sampleCounter = s.sampleCounter := rfl
@[simp] theorem State.setNextId_seconds (s : State) (v : Byte) : (s.setNextId v).seconds = s.seconds := rfl
@[simp] theorem State.setNextId_subSecond (s : State) (v : Byte) : (s.setNextId v).subSecond = s.subSecond := rfl
@[simp] theorem State.setNextId_stamp (s : State) (v : Byte) : (s.setNextId v).stamp = s.stamp := rfl
@[simp] theorem State.setNextId_handed (s : State) (v : Byte) : (s.setNextId v).handed = s.handed := rfl
@[simp] theorem State.setNextId_senseAge (s : State) (v : Byte) : (s.setNextId v).senseAge = s.senseAge := rfl
@[simp] theorem State.setNextId_breakers (s : State) (v : Byte) : (s.setNextId v).breakers = s.breakers := rfl
@[simp] theorem State.setNextId_trackers (s : State) (v : Byte) : (s.setNextId v).trackers = s.trackers := rfl
@[simp] theorem State.setNextId_meters (s : State) (v : Byte) : (s.setNextId v).meters = s.meters := rfl
@[simp] theorem State.setNextId_energy (s : State) (v : Byte) : (s.setNextId v).energy = s.energy := rfl
@[simp] theorem State.setNextId_entries (s : State) (v : Byte) : (s.setNextId v).entries = s.entries := rfl
@[simp] theorem State.setNextId_holds (s : State) (v : Byte) : (s.setNextId v).holds = s.holds := rfl
@[simp] theorem State.setNextId_tripped (s : State) (v : Byte) : (s.setNextId v).tripped = s.tripped := rfl
@[simp] theorem State.setNextId_handling (s : State) (v : Byte) : (s.setNextId v).handling = s.handling := rfl
@[simp] theorem State.setNextId_sequencers (s : State) (v : Byte) : (s.setNextId v).sequencers = s.sequencers := rfl
@[simp] theorem State.setNextId_drivers (s : State) (v : Byte) : (s.setNextId v).drivers = s.drivers := rfl
@[simp] theorem State.setNextId_slots (s : State) (v : Byte) : (s.setNextId v).slots = s.slots := rfl
@[simp] theorem State.setNextId_protections (s : State) (v : Byte) : (s.setNextId v).protections = s.protections := rfl
@[simp] theorem State.setNextId_tripRuns (s : State) (v : Byte) : (s.setNextId v).tripRuns = s.tripRuns := rfl
@[simp] theorem State.setNextId_monitors (s : State) (v : Byte) : (s.setNextId v).monitors = s.monitors := rfl
@[simp] theorem State.setNextId_sweeps (s : State) (v : Byte) : (s.setNextId v).sweeps = s.sweeps := rfl
@[simp] theorem State.setNextId_banks (s : State) (v : Byte) : (s.setNextId v).banks = s.banks := rfl
@[simp] theorem State.setNextId_ports (s : State) (v : Byte) : (s.setNextId v).ports = s.ports := rfl
@[simp] theorem State.setNextId_targetAddress (s : State) (v : Byte) : (s.setNextId v).targetAddress = s.targetAddress := rfl
@[simp] theorem State.setNextId_settings (s : State) (v : Byte) : (s.setNextId v).settings = s.settings := rfl
@[simp] theorem State.setNextId_generation (s : State) (v : Byte) : (s.setNextId v).generation = s.generation := rfl
@[simp] theorem State.setNextId_pending (s : State) (v : Byte) : (s.setNextId v).pending = s.pending := rfl
@[simp] theorem State.setNextId_nextId (s : State) (v : Byte) : (s.setNextId v).nextId = v := rfl
@[simp] theorem State.setNextId_tracker (s : State) (v : Byte) (j : Feed) : (s.setNextId v).tracker j = s.tracker j := rfl
@[simp] theorem State.setNextId_meter (s : State) (v : Byte) (j : Outlet) : (s.setNextId v).meter j = s.meter j := rfl
@[simp] theorem State.setNextId_energyOf (s : State) (v : Byte) (j : Outlet) : (s.setNextId v).energyOf j = s.energyOf j := rfl
@[simp] theorem State.setNextId_hold (s : State) (v : Byte) (j : Outlet) : (s.setNextId v).hold j = s.hold j := rfl
@[simp] theorem State.setNextId_isTripped (s : State) (v : Byte) (j : Outlet) : (s.setNextId v).isTripped j = s.isTripped j := rfl
@[simp] theorem State.setNextId_sequencer (s : State) (v : Byte) (j : Branch) : (s.setNextId v).sequencer j = s.sequencer j := rfl
@[simp] theorem State.setNextId_driver (s : State) (v : Byte) (j : Outlet) : (s.setNextId v).driver j = s.driver j := rfl
@[simp] theorem State.setNextId_protection (s : State) (v : Byte) (j : Branch) : (s.setNextId v).protection j = s.protection j := rfl
@[simp] theorem State.setNextId_tripRun (s : State) (v : Byte) (j : Outlet) : (s.setNextId v).tripRun j = s.tripRun j := rfl
@[simp] theorem State.setNextId_monitor (s : State) (v : Byte) (j : Outlet) : (s.setNextId v).monitor j = s.monitor j := rfl
@[simp] theorem State.setNextId_age (s : State) (v : Byte) (j : Outlet) : (s.setNextId v).age j = s.age j := rfl
@[simp] theorem State.setNextId_breaker (s : State) (v : Byte) (j : Branch) : (s.setNextId v).breaker j = s.breaker j := rfl
@[simp] theorem State.setNextId_sweepEngine (s : State) (v : Byte) (y : Link) : (s.setNextId v).sweepEngine y = s.sweepEngine y := rfl
@[simp] theorem State.setNextId_bankPort (s : State) (v : Byte) (y : Link) : (s.setNextId v).bankPort y = s.bankPort y := rfl
@[simp] theorem State.setNextId_port (s : State) (v : Byte) (y : Link) : (s.setNextId v).port y = s.port y := rfl

/-! ### setStamp -/

@[simp] theorem State.setStamp_resetHeld (s : State) (v : Timestamp) : (s.setStamp v).resetHeld = s.resetHeld := rfl
@[simp] theorem State.setStamp_sampleCounter (s : State) (v : Timestamp) : (s.setStamp v).sampleCounter = s.sampleCounter := rfl
@[simp] theorem State.setStamp_seconds (s : State) (v : Timestamp) : (s.setStamp v).seconds = s.seconds := rfl
@[simp] theorem State.setStamp_subSecond (s : State) (v : Timestamp) : (s.setStamp v).subSecond = s.subSecond := rfl
@[simp] theorem State.setStamp_stamp (s : State) (v : Timestamp) : (s.setStamp v).stamp = v := rfl
@[simp] theorem State.setStamp_handed (s : State) (v : Timestamp) : (s.setStamp v).handed = s.handed := rfl
@[simp] theorem State.setStamp_senseAge (s : State) (v : Timestamp) : (s.setStamp v).senseAge = s.senseAge := rfl
@[simp] theorem State.setStamp_breakers (s : State) (v : Timestamp) : (s.setStamp v).breakers = s.breakers := rfl
@[simp] theorem State.setStamp_trackers (s : State) (v : Timestamp) : (s.setStamp v).trackers = s.trackers := rfl
@[simp] theorem State.setStamp_meters (s : State) (v : Timestamp) : (s.setStamp v).meters = s.meters := rfl
@[simp] theorem State.setStamp_energy (s : State) (v : Timestamp) : (s.setStamp v).energy = s.energy := rfl
@[simp] theorem State.setStamp_entries (s : State) (v : Timestamp) : (s.setStamp v).entries = s.entries := rfl
@[simp] theorem State.setStamp_nextId (s : State) (v : Timestamp) : (s.setStamp v).nextId = s.nextId := rfl
@[simp] theorem State.setStamp_holds (s : State) (v : Timestamp) : (s.setStamp v).holds = s.holds := rfl
@[simp] theorem State.setStamp_tripped (s : State) (v : Timestamp) : (s.setStamp v).tripped = s.tripped := rfl
@[simp] theorem State.setStamp_sequencers (s : State) (v : Timestamp) : (s.setStamp v).sequencers = s.sequencers := rfl
@[simp] theorem State.setStamp_drivers (s : State) (v : Timestamp) : (s.setStamp v).drivers = s.drivers := rfl
@[simp] theorem State.setStamp_slots (s : State) (v : Timestamp) : (s.setStamp v).slots = s.slots := rfl
@[simp] theorem State.setStamp_protections (s : State) (v : Timestamp) : (s.setStamp v).protections = s.protections := rfl
@[simp] theorem State.setStamp_tripRuns (s : State) (v : Timestamp) : (s.setStamp v).tripRuns = s.tripRuns := rfl
@[simp] theorem State.setStamp_monitors (s : State) (v : Timestamp) : (s.setStamp v).monitors = s.monitors := rfl
@[simp] theorem State.setStamp_sweeps (s : State) (v : Timestamp) : (s.setStamp v).sweeps = s.sweeps := rfl
@[simp] theorem State.setStamp_banks (s : State) (v : Timestamp) : (s.setStamp v).banks = s.banks := rfl
@[simp] theorem State.setStamp_ports (s : State) (v : Timestamp) : (s.setStamp v).ports = s.ports := rfl
@[simp] theorem State.setStamp_targetAddress (s : State) (v : Timestamp) : (s.setStamp v).targetAddress = s.targetAddress := rfl
@[simp] theorem State.setStamp_settings (s : State) (v : Timestamp) : (s.setStamp v).settings = s.settings := rfl
@[simp] theorem State.setStamp_generation (s : State) (v : Timestamp) : (s.setStamp v).generation = s.generation := rfl
@[simp] theorem State.setStamp_pending (s : State) (v : Timestamp) : (s.setStamp v).pending = s.pending := rfl
@[simp] theorem State.setStamp_handling (s : State) (v : Timestamp) : (s.setStamp v).handling = s.handling := rfl
@[simp] theorem State.setStamp_tracker (s : State) (v : Timestamp) (j : Feed) : (s.setStamp v).tracker j = s.tracker j := rfl
@[simp] theorem State.setStamp_meter (s : State) (v : Timestamp) (j : Outlet) : (s.setStamp v).meter j = s.meter j := rfl
@[simp] theorem State.setStamp_energyOf (s : State) (v : Timestamp) (j : Outlet) : (s.setStamp v).energyOf j = s.energyOf j := rfl
@[simp] theorem State.setStamp_hold (s : State) (v : Timestamp) (j : Outlet) : (s.setStamp v).hold j = s.hold j := rfl
@[simp] theorem State.setStamp_isTripped (s : State) (v : Timestamp) (j : Outlet) : (s.setStamp v).isTripped j = s.isTripped j := rfl
@[simp] theorem State.setStamp_sequencer (s : State) (v : Timestamp) (j : Branch) : (s.setStamp v).sequencer j = s.sequencer j := rfl
@[simp] theorem State.setStamp_driver (s : State) (v : Timestamp) (j : Outlet) : (s.setStamp v).driver j = s.driver j := rfl
@[simp] theorem State.setStamp_protection (s : State) (v : Timestamp) (j : Branch) : (s.setStamp v).protection j = s.protection j := rfl
@[simp] theorem State.setStamp_tripRun (s : State) (v : Timestamp) (j : Outlet) : (s.setStamp v).tripRun j = s.tripRun j := rfl
@[simp] theorem State.setStamp_monitor (s : State) (v : Timestamp) (j : Outlet) : (s.setStamp v).monitor j = s.monitor j := rfl
@[simp] theorem State.setStamp_age (s : State) (v : Timestamp) (j : Outlet) : (s.setStamp v).age j = s.age j := rfl
@[simp] theorem State.setStamp_breaker (s : State) (v : Timestamp) (j : Branch) : (s.setStamp v).breaker j = s.breaker j := rfl
@[simp] theorem State.setStamp_sweepEngine (s : State) (v : Timestamp) (y : Link) : (s.setStamp v).sweepEngine y = s.sweepEngine y := rfl
@[simp] theorem State.setStamp_bankPort (s : State) (v : Timestamp) (y : Link) : (s.setStamp v).bankPort y = s.bankPort y := rfl
@[simp] theorem State.setStamp_port (s : State) (v : Timestamp) (y : Link) : (s.setStamp v).port y = s.port y := rfl

/-! ### setHandling -/

@[simp] theorem State.setHandling_resetHeld (s : State) (v : Option Handling) : (s.setHandling v).resetHeld = s.resetHeld := rfl
@[simp] theorem State.setHandling_sampleCounter (s : State) (v : Option Handling) : (s.setHandling v).sampleCounter = s.sampleCounter := rfl
@[simp] theorem State.setHandling_seconds (s : State) (v : Option Handling) : (s.setHandling v).seconds = s.seconds := rfl
@[simp] theorem State.setHandling_subSecond (s : State) (v : Option Handling) : (s.setHandling v).subSecond = s.subSecond := rfl
@[simp] theorem State.setHandling_stamp (s : State) (v : Option Handling) : (s.setHandling v).stamp = s.stamp := rfl
@[simp] theorem State.setHandling_handed (s : State) (v : Option Handling) : (s.setHandling v).handed = s.handed := rfl
@[simp] theorem State.setHandling_senseAge (s : State) (v : Option Handling) : (s.setHandling v).senseAge = s.senseAge := rfl
@[simp] theorem State.setHandling_breakers (s : State) (v : Option Handling) : (s.setHandling v).breakers = s.breakers := rfl
@[simp] theorem State.setHandling_trackers (s : State) (v : Option Handling) : (s.setHandling v).trackers = s.trackers := rfl
@[simp] theorem State.setHandling_meters (s : State) (v : Option Handling) : (s.setHandling v).meters = s.meters := rfl
@[simp] theorem State.setHandling_energy (s : State) (v : Option Handling) : (s.setHandling v).energy = s.energy := rfl
@[simp] theorem State.setHandling_entries (s : State) (v : Option Handling) : (s.setHandling v).entries = s.entries := rfl
@[simp] theorem State.setHandling_nextId (s : State) (v : Option Handling) : (s.setHandling v).nextId = s.nextId := rfl
@[simp] theorem State.setHandling_holds (s : State) (v : Option Handling) : (s.setHandling v).holds = s.holds := rfl
@[simp] theorem State.setHandling_tripped (s : State) (v : Option Handling) : (s.setHandling v).tripped = s.tripped := rfl
@[simp] theorem State.setHandling_sequencers (s : State) (v : Option Handling) : (s.setHandling v).sequencers = s.sequencers := rfl
@[simp] theorem State.setHandling_drivers (s : State) (v : Option Handling) : (s.setHandling v).drivers = s.drivers := rfl
@[simp] theorem State.setHandling_slots (s : State) (v : Option Handling) : (s.setHandling v).slots = s.slots := rfl
@[simp] theorem State.setHandling_protections (s : State) (v : Option Handling) : (s.setHandling v).protections = s.protections := rfl
@[simp] theorem State.setHandling_tripRuns (s : State) (v : Option Handling) : (s.setHandling v).tripRuns = s.tripRuns := rfl
@[simp] theorem State.setHandling_monitors (s : State) (v : Option Handling) : (s.setHandling v).monitors = s.monitors := rfl
@[simp] theorem State.setHandling_sweeps (s : State) (v : Option Handling) : (s.setHandling v).sweeps = s.sweeps := rfl
@[simp] theorem State.setHandling_banks (s : State) (v : Option Handling) : (s.setHandling v).banks = s.banks := rfl
@[simp] theorem State.setHandling_ports (s : State) (v : Option Handling) : (s.setHandling v).ports = s.ports := rfl
@[simp] theorem State.setHandling_targetAddress (s : State) (v : Option Handling) : (s.setHandling v).targetAddress = s.targetAddress := rfl
@[simp] theorem State.setHandling_settings (s : State) (v : Option Handling) : (s.setHandling v).settings = s.settings := rfl
@[simp] theorem State.setHandling_generation (s : State) (v : Option Handling) : (s.setHandling v).generation = s.generation := rfl
@[simp] theorem State.setHandling_pending (s : State) (v : Option Handling) : (s.setHandling v).pending = s.pending := rfl
@[simp] theorem State.setHandling_handling (s : State) (v : Option Handling) : (s.setHandling v).handling = v := rfl
@[simp] theorem State.setHandling_tracker (s : State) (v : Option Handling) (j : Feed) : (s.setHandling v).tracker j = s.tracker j := rfl
@[simp] theorem State.setHandling_meter (s : State) (v : Option Handling) (j : Outlet) : (s.setHandling v).meter j = s.meter j := rfl
@[simp] theorem State.setHandling_energyOf (s : State) (v : Option Handling) (j : Outlet) : (s.setHandling v).energyOf j = s.energyOf j := rfl
@[simp] theorem State.setHandling_hold (s : State) (v : Option Handling) (j : Outlet) : (s.setHandling v).hold j = s.hold j := rfl
@[simp] theorem State.setHandling_isTripped (s : State) (v : Option Handling) (j : Outlet) : (s.setHandling v).isTripped j = s.isTripped j := rfl
@[simp] theorem State.setHandling_sequencer (s : State) (v : Option Handling) (j : Branch) : (s.setHandling v).sequencer j = s.sequencer j := rfl
@[simp] theorem State.setHandling_driver (s : State) (v : Option Handling) (j : Outlet) : (s.setHandling v).driver j = s.driver j := rfl
@[simp] theorem State.setHandling_protection (s : State) (v : Option Handling) (j : Branch) : (s.setHandling v).protection j = s.protection j := rfl
@[simp] theorem State.setHandling_tripRun (s : State) (v : Option Handling) (j : Outlet) : (s.setHandling v).tripRun j = s.tripRun j := rfl
@[simp] theorem State.setHandling_monitor (s : State) (v : Option Handling) (j : Outlet) : (s.setHandling v).monitor j = s.monitor j := rfl
@[simp] theorem State.setHandling_age (s : State) (v : Option Handling) (j : Outlet) : (s.setHandling v).age j = s.age j := rfl
@[simp] theorem State.setHandling_breaker (s : State) (v : Option Handling) (j : Branch) : (s.setHandling v).breaker j = s.breaker j := rfl
@[simp] theorem State.setHandling_sweepEngine (s : State) (v : Option Handling) (y : Link) : (s.setHandling v).sweepEngine y = s.sweepEngine y := rfl
@[simp] theorem State.setHandling_bankPort (s : State) (v : Option Handling) (y : Link) : (s.setHandling v).bankPort y = s.bankPort y := rfl
@[simp] theorem State.setHandling_port (s : State) (v : Option Handling) (y : Link) : (s.setHandling v).port y = s.port y := rfl

/-! ### setSlots -/

@[simp] theorem State.setSlots_resetHeld (s : State) (v : List Outlet) : (s.setSlots v).resetHeld = s.resetHeld := rfl
@[simp] theorem State.setSlots_sampleCounter (s : State) (v : List Outlet) : (s.setSlots v).sampleCounter = s.sampleCounter := rfl
@[simp] theorem State.setSlots_seconds (s : State) (v : List Outlet) : (s.setSlots v).seconds = s.seconds := rfl
@[simp] theorem State.setSlots_subSecond (s : State) (v : List Outlet) : (s.setSlots v).subSecond = s.subSecond := rfl
@[simp] theorem State.setSlots_stamp (s : State) (v : List Outlet) : (s.setSlots v).stamp = s.stamp := rfl
@[simp] theorem State.setSlots_handed (s : State) (v : List Outlet) : (s.setSlots v).handed = s.handed := rfl
@[simp] theorem State.setSlots_senseAge (s : State) (v : List Outlet) : (s.setSlots v).senseAge = s.senseAge := rfl
@[simp] theorem State.setSlots_breakers (s : State) (v : List Outlet) : (s.setSlots v).breakers = s.breakers := rfl
@[simp] theorem State.setSlots_trackers (s : State) (v : List Outlet) : (s.setSlots v).trackers = s.trackers := rfl
@[simp] theorem State.setSlots_meters (s : State) (v : List Outlet) : (s.setSlots v).meters = s.meters := rfl
@[simp] theorem State.setSlots_energy (s : State) (v : List Outlet) : (s.setSlots v).energy = s.energy := rfl
@[simp] theorem State.setSlots_entries (s : State) (v : List Outlet) : (s.setSlots v).entries = s.entries := rfl
@[simp] theorem State.setSlots_nextId (s : State) (v : List Outlet) : (s.setSlots v).nextId = s.nextId := rfl
@[simp] theorem State.setSlots_holds (s : State) (v : List Outlet) : (s.setSlots v).holds = s.holds := rfl
@[simp] theorem State.setSlots_tripped (s : State) (v : List Outlet) : (s.setSlots v).tripped = s.tripped := rfl
@[simp] theorem State.setSlots_handling (s : State) (v : List Outlet) : (s.setSlots v).handling = s.handling := rfl
@[simp] theorem State.setSlots_sequencers (s : State) (v : List Outlet) : (s.setSlots v).sequencers = s.sequencers := rfl
@[simp] theorem State.setSlots_drivers (s : State) (v : List Outlet) : (s.setSlots v).drivers = s.drivers := rfl
@[simp] theorem State.setSlots_protections (s : State) (v : List Outlet) : (s.setSlots v).protections = s.protections := rfl
@[simp] theorem State.setSlots_tripRuns (s : State) (v : List Outlet) : (s.setSlots v).tripRuns = s.tripRuns := rfl
@[simp] theorem State.setSlots_monitors (s : State) (v : List Outlet) : (s.setSlots v).monitors = s.monitors := rfl
@[simp] theorem State.setSlots_sweeps (s : State) (v : List Outlet) : (s.setSlots v).sweeps = s.sweeps := rfl
@[simp] theorem State.setSlots_banks (s : State) (v : List Outlet) : (s.setSlots v).banks = s.banks := rfl
@[simp] theorem State.setSlots_ports (s : State) (v : List Outlet) : (s.setSlots v).ports = s.ports := rfl
@[simp] theorem State.setSlots_targetAddress (s : State) (v : List Outlet) : (s.setSlots v).targetAddress = s.targetAddress := rfl
@[simp] theorem State.setSlots_settings (s : State) (v : List Outlet) : (s.setSlots v).settings = s.settings := rfl
@[simp] theorem State.setSlots_generation (s : State) (v : List Outlet) : (s.setSlots v).generation = s.generation := rfl
@[simp] theorem State.setSlots_pending (s : State) (v : List Outlet) : (s.setSlots v).pending = s.pending := rfl
@[simp] theorem State.setSlots_slots (s : State) (v : List Outlet) : (s.setSlots v).slots = v := rfl
@[simp] theorem State.setSlots_tracker (s : State) (v : List Outlet) (j : Feed) : (s.setSlots v).tracker j = s.tracker j := rfl
@[simp] theorem State.setSlots_meter (s : State) (v : List Outlet) (j : Outlet) : (s.setSlots v).meter j = s.meter j := rfl
@[simp] theorem State.setSlots_energyOf (s : State) (v : List Outlet) (j : Outlet) : (s.setSlots v).energyOf j = s.energyOf j := rfl
@[simp] theorem State.setSlots_hold (s : State) (v : List Outlet) (j : Outlet) : (s.setSlots v).hold j = s.hold j := rfl
@[simp] theorem State.setSlots_isTripped (s : State) (v : List Outlet) (j : Outlet) : (s.setSlots v).isTripped j = s.isTripped j := rfl
@[simp] theorem State.setSlots_sequencer (s : State) (v : List Outlet) (j : Branch) : (s.setSlots v).sequencer j = s.sequencer j := rfl
@[simp] theorem State.setSlots_driver (s : State) (v : List Outlet) (j : Outlet) : (s.setSlots v).driver j = s.driver j := rfl
@[simp] theorem State.setSlots_protection (s : State) (v : List Outlet) (j : Branch) : (s.setSlots v).protection j = s.protection j := rfl
@[simp] theorem State.setSlots_tripRun (s : State) (v : List Outlet) (j : Outlet) : (s.setSlots v).tripRun j = s.tripRun j := rfl
@[simp] theorem State.setSlots_monitor (s : State) (v : List Outlet) (j : Outlet) : (s.setSlots v).monitor j = s.monitor j := rfl
@[simp] theorem State.setSlots_age (s : State) (v : List Outlet) (j : Outlet) : (s.setSlots v).age j = s.age j := rfl
@[simp] theorem State.setSlots_breaker (s : State) (v : List Outlet) (j : Branch) : (s.setSlots v).breaker j = s.breaker j := rfl
@[simp] theorem State.setSlots_sweepEngine (s : State) (v : List Outlet) (y : Link) : (s.setSlots v).sweepEngine y = s.sweepEngine y := rfl
@[simp] theorem State.setSlots_bankPort (s : State) (v : List Outlet) (y : Link) : (s.setSlots v).bankPort y = s.bankPort y := rfl
@[simp] theorem State.setSlots_port (s : State) (v : List Outlet) (y : Link) : (s.setSlots v).port y = s.port y := rfl

/-! ### setAddress -/

@[simp] theorem State.setAddress_resetHeld (s : State) (v : BitVec 7) : (s.setAddress v).resetHeld = s.resetHeld := rfl
@[simp] theorem State.setAddress_sampleCounter (s : State) (v : BitVec 7) : (s.setAddress v).sampleCounter = s.sampleCounter := rfl
@[simp] theorem State.setAddress_seconds (s : State) (v : BitVec 7) : (s.setAddress v).seconds = s.seconds := rfl
@[simp] theorem State.setAddress_subSecond (s : State) (v : BitVec 7) : (s.setAddress v).subSecond = s.subSecond := rfl
@[simp] theorem State.setAddress_stamp (s : State) (v : BitVec 7) : (s.setAddress v).stamp = s.stamp := rfl
@[simp] theorem State.setAddress_handed (s : State) (v : BitVec 7) : (s.setAddress v).handed = s.handed := rfl
@[simp] theorem State.setAddress_senseAge (s : State) (v : BitVec 7) : (s.setAddress v).senseAge = s.senseAge := rfl
@[simp] theorem State.setAddress_breakers (s : State) (v : BitVec 7) : (s.setAddress v).breakers = s.breakers := rfl
@[simp] theorem State.setAddress_trackers (s : State) (v : BitVec 7) : (s.setAddress v).trackers = s.trackers := rfl
@[simp] theorem State.setAddress_meters (s : State) (v : BitVec 7) : (s.setAddress v).meters = s.meters := rfl
@[simp] theorem State.setAddress_energy (s : State) (v : BitVec 7) : (s.setAddress v).energy = s.energy := rfl
@[simp] theorem State.setAddress_entries (s : State) (v : BitVec 7) : (s.setAddress v).entries = s.entries := rfl
@[simp] theorem State.setAddress_nextId (s : State) (v : BitVec 7) : (s.setAddress v).nextId = s.nextId := rfl
@[simp] theorem State.setAddress_holds (s : State) (v : BitVec 7) : (s.setAddress v).holds = s.holds := rfl
@[simp] theorem State.setAddress_tripped (s : State) (v : BitVec 7) : (s.setAddress v).tripped = s.tripped := rfl
@[simp] theorem State.setAddress_handling (s : State) (v : BitVec 7) : (s.setAddress v).handling = s.handling := rfl
@[simp] theorem State.setAddress_sequencers (s : State) (v : BitVec 7) : (s.setAddress v).sequencers = s.sequencers := rfl
@[simp] theorem State.setAddress_drivers (s : State) (v : BitVec 7) : (s.setAddress v).drivers = s.drivers := rfl
@[simp] theorem State.setAddress_slots (s : State) (v : BitVec 7) : (s.setAddress v).slots = s.slots := rfl
@[simp] theorem State.setAddress_protections (s : State) (v : BitVec 7) : (s.setAddress v).protections = s.protections := rfl
@[simp] theorem State.setAddress_tripRuns (s : State) (v : BitVec 7) : (s.setAddress v).tripRuns = s.tripRuns := rfl
@[simp] theorem State.setAddress_monitors (s : State) (v : BitVec 7) : (s.setAddress v).monitors = s.monitors := rfl
@[simp] theorem State.setAddress_sweeps (s : State) (v : BitVec 7) : (s.setAddress v).sweeps = s.sweeps := rfl
@[simp] theorem State.setAddress_banks (s : State) (v : BitVec 7) : (s.setAddress v).banks = s.banks := rfl
@[simp] theorem State.setAddress_ports (s : State) (v : BitVec 7) : (s.setAddress v).ports = s.ports := rfl
@[simp] theorem State.setAddress_settings (s : State) (v : BitVec 7) : (s.setAddress v).settings = s.settings := rfl
@[simp] theorem State.setAddress_generation (s : State) (v : BitVec 7) : (s.setAddress v).generation = s.generation := rfl
@[simp] theorem State.setAddress_pending (s : State) (v : BitVec 7) : (s.setAddress v).pending = s.pending := rfl
@[simp] theorem State.setAddress_targetAddress (s : State) (v : BitVec 7) : (s.setAddress v).targetAddress = v := rfl
@[simp] theorem State.setAddress_tracker (s : State) (v : BitVec 7) (j : Feed) : (s.setAddress v).tracker j = s.tracker j := rfl
@[simp] theorem State.setAddress_meter (s : State) (v : BitVec 7) (j : Outlet) : (s.setAddress v).meter j = s.meter j := rfl
@[simp] theorem State.setAddress_energyOf (s : State) (v : BitVec 7) (j : Outlet) : (s.setAddress v).energyOf j = s.energyOf j := rfl
@[simp] theorem State.setAddress_hold (s : State) (v : BitVec 7) (j : Outlet) : (s.setAddress v).hold j = s.hold j := rfl
@[simp] theorem State.setAddress_isTripped (s : State) (v : BitVec 7) (j : Outlet) : (s.setAddress v).isTripped j = s.isTripped j := rfl
@[simp] theorem State.setAddress_sequencer (s : State) (v : BitVec 7) (j : Branch) : (s.setAddress v).sequencer j = s.sequencer j := rfl
@[simp] theorem State.setAddress_driver (s : State) (v : BitVec 7) (j : Outlet) : (s.setAddress v).driver j = s.driver j := rfl
@[simp] theorem State.setAddress_protection (s : State) (v : BitVec 7) (j : Branch) : (s.setAddress v).protection j = s.protection j := rfl
@[simp] theorem State.setAddress_tripRun (s : State) (v : BitVec 7) (j : Outlet) : (s.setAddress v).tripRun j = s.tripRun j := rfl
@[simp] theorem State.setAddress_monitor (s : State) (v : BitVec 7) (j : Outlet) : (s.setAddress v).monitor j = s.monitor j := rfl
@[simp] theorem State.setAddress_age (s : State) (v : BitVec 7) (j : Outlet) : (s.setAddress v).age j = s.age j := rfl
@[simp] theorem State.setAddress_breaker (s : State) (v : BitVec 7) (j : Branch) : (s.setAddress v).breaker j = s.breaker j := rfl
@[simp] theorem State.setAddress_sweepEngine (s : State) (v : BitVec 7) (y : Link) : (s.setAddress v).sweepEngine y = s.sweepEngine y := rfl
@[simp] theorem State.setAddress_bankPort (s : State) (v : BitVec 7) (y : Link) : (s.setAddress v).bankPort y = s.bankPort y := rfl
@[simp] theorem State.setAddress_port (s : State) (v : BitVec 7) (y : Link) : (s.setAddress v).port y = s.port y := rfl

/-! ### setSettings -/

@[simp] theorem State.setSettings_resetHeld (s : State) (v : Settings) : (s.setSettings v).resetHeld = s.resetHeld := rfl
@[simp] theorem State.setSettings_sampleCounter (s : State) (v : Settings) : (s.setSettings v).sampleCounter = s.sampleCounter := rfl
@[simp] theorem State.setSettings_seconds (s : State) (v : Settings) : (s.setSettings v).seconds = s.seconds := rfl
@[simp] theorem State.setSettings_subSecond (s : State) (v : Settings) : (s.setSettings v).subSecond = s.subSecond := rfl
@[simp] theorem State.setSettings_stamp (s : State) (v : Settings) : (s.setSettings v).stamp = s.stamp := rfl
@[simp] theorem State.setSettings_handed (s : State) (v : Settings) : (s.setSettings v).handed = s.handed := rfl
@[simp] theorem State.setSettings_senseAge (s : State) (v : Settings) : (s.setSettings v).senseAge = s.senseAge := rfl
@[simp] theorem State.setSettings_breakers (s : State) (v : Settings) : (s.setSettings v).breakers = s.breakers := rfl
@[simp] theorem State.setSettings_trackers (s : State) (v : Settings) : (s.setSettings v).trackers = s.trackers := rfl
@[simp] theorem State.setSettings_meters (s : State) (v : Settings) : (s.setSettings v).meters = s.meters := rfl
@[simp] theorem State.setSettings_energy (s : State) (v : Settings) : (s.setSettings v).energy = s.energy := rfl
@[simp] theorem State.setSettings_entries (s : State) (v : Settings) : (s.setSettings v).entries = s.entries := rfl
@[simp] theorem State.setSettings_nextId (s : State) (v : Settings) : (s.setSettings v).nextId = s.nextId := rfl
@[simp] theorem State.setSettings_holds (s : State) (v : Settings) : (s.setSettings v).holds = s.holds := rfl
@[simp] theorem State.setSettings_tripped (s : State) (v : Settings) : (s.setSettings v).tripped = s.tripped := rfl
@[simp] theorem State.setSettings_handling (s : State) (v : Settings) : (s.setSettings v).handling = s.handling := rfl
@[simp] theorem State.setSettings_sequencers (s : State) (v : Settings) : (s.setSettings v).sequencers = s.sequencers := rfl
@[simp] theorem State.setSettings_drivers (s : State) (v : Settings) : (s.setSettings v).drivers = s.drivers := rfl
@[simp] theorem State.setSettings_slots (s : State) (v : Settings) : (s.setSettings v).slots = s.slots := rfl
@[simp] theorem State.setSettings_protections (s : State) (v : Settings) : (s.setSettings v).protections = s.protections := rfl
@[simp] theorem State.setSettings_tripRuns (s : State) (v : Settings) : (s.setSettings v).tripRuns = s.tripRuns := rfl
@[simp] theorem State.setSettings_monitors (s : State) (v : Settings) : (s.setSettings v).monitors = s.monitors := rfl
@[simp] theorem State.setSettings_sweeps (s : State) (v : Settings) : (s.setSettings v).sweeps = s.sweeps := rfl
@[simp] theorem State.setSettings_banks (s : State) (v : Settings) : (s.setSettings v).banks = s.banks := rfl
@[simp] theorem State.setSettings_ports (s : State) (v : Settings) : (s.setSettings v).ports = s.ports := rfl
@[simp] theorem State.setSettings_targetAddress (s : State) (v : Settings) : (s.setSettings v).targetAddress = s.targetAddress := rfl
@[simp] theorem State.setSettings_generation (s : State) (v : Settings) : (s.setSettings v).generation = s.generation := rfl
@[simp] theorem State.setSettings_pending (s : State) (v : Settings) : (s.setSettings v).pending = s.pending := rfl
@[simp] theorem State.setSettings_settings (s : State) (v : Settings) : (s.setSettings v).settings = v := rfl
@[simp] theorem State.setSettings_tracker (s : State) (v : Settings) (j : Feed) : (s.setSettings v).tracker j = s.tracker j := rfl
@[simp] theorem State.setSettings_meter (s : State) (v : Settings) (j : Outlet) : (s.setSettings v).meter j = s.meter j := rfl
@[simp] theorem State.setSettings_energyOf (s : State) (v : Settings) (j : Outlet) : (s.setSettings v).energyOf j = s.energyOf j := rfl
@[simp] theorem State.setSettings_hold (s : State) (v : Settings) (j : Outlet) : (s.setSettings v).hold j = s.hold j := rfl
@[simp] theorem State.setSettings_isTripped (s : State) (v : Settings) (j : Outlet) : (s.setSettings v).isTripped j = s.isTripped j := rfl
@[simp] theorem State.setSettings_sequencer (s : State) (v : Settings) (j : Branch) : (s.setSettings v).sequencer j = s.sequencer j := rfl
@[simp] theorem State.setSettings_driver (s : State) (v : Settings) (j : Outlet) : (s.setSettings v).driver j = s.driver j := rfl
@[simp] theorem State.setSettings_protection (s : State) (v : Settings) (j : Branch) : (s.setSettings v).protection j = s.protection j := rfl
@[simp] theorem State.setSettings_tripRun (s : State) (v : Settings) (j : Outlet) : (s.setSettings v).tripRun j = s.tripRun j := rfl
@[simp] theorem State.setSettings_monitor (s : State) (v : Settings) (j : Outlet) : (s.setSettings v).monitor j = s.monitor j := rfl
@[simp] theorem State.setSettings_age (s : State) (v : Settings) (j : Outlet) : (s.setSettings v).age j = s.age j := rfl
@[simp] theorem State.setSettings_breaker (s : State) (v : Settings) (j : Branch) : (s.setSettings v).breaker j = s.breaker j := rfl
@[simp] theorem State.setSettings_sweepEngine (s : State) (v : Settings) (y : Link) : (s.setSettings v).sweepEngine y = s.sweepEngine y := rfl
@[simp] theorem State.setSettings_bankPort (s : State) (v : Settings) (y : Link) : (s.setSettings v).bankPort y = s.bankPort y := rfl
@[simp] theorem State.setSettings_port (s : State) (v : Settings) (y : Link) : (s.setSettings v).port y = s.port y := rfl

/-! ### setGeneration -/

@[simp] theorem State.setGeneration_resetHeld (s : State) (v : BitVec 16) : (s.setGeneration v).resetHeld = s.resetHeld := rfl
@[simp] theorem State.setGeneration_sampleCounter (s : State) (v : BitVec 16) : (s.setGeneration v).sampleCounter = s.sampleCounter := rfl
@[simp] theorem State.setGeneration_seconds (s : State) (v : BitVec 16) : (s.setGeneration v).seconds = s.seconds := rfl
@[simp] theorem State.setGeneration_subSecond (s : State) (v : BitVec 16) : (s.setGeneration v).subSecond = s.subSecond := rfl
@[simp] theorem State.setGeneration_stamp (s : State) (v : BitVec 16) : (s.setGeneration v).stamp = s.stamp := rfl
@[simp] theorem State.setGeneration_handed (s : State) (v : BitVec 16) : (s.setGeneration v).handed = s.handed := rfl
@[simp] theorem State.setGeneration_senseAge (s : State) (v : BitVec 16) : (s.setGeneration v).senseAge = s.senseAge := rfl
@[simp] theorem State.setGeneration_breakers (s : State) (v : BitVec 16) : (s.setGeneration v).breakers = s.breakers := rfl
@[simp] theorem State.setGeneration_trackers (s : State) (v : BitVec 16) : (s.setGeneration v).trackers = s.trackers := rfl
@[simp] theorem State.setGeneration_meters (s : State) (v : BitVec 16) : (s.setGeneration v).meters = s.meters := rfl
@[simp] theorem State.setGeneration_energy (s : State) (v : BitVec 16) : (s.setGeneration v).energy = s.energy := rfl
@[simp] theorem State.setGeneration_entries (s : State) (v : BitVec 16) : (s.setGeneration v).entries = s.entries := rfl
@[simp] theorem State.setGeneration_nextId (s : State) (v : BitVec 16) : (s.setGeneration v).nextId = s.nextId := rfl
@[simp] theorem State.setGeneration_holds (s : State) (v : BitVec 16) : (s.setGeneration v).holds = s.holds := rfl
@[simp] theorem State.setGeneration_tripped (s : State) (v : BitVec 16) : (s.setGeneration v).tripped = s.tripped := rfl
@[simp] theorem State.setGeneration_handling (s : State) (v : BitVec 16) : (s.setGeneration v).handling = s.handling := rfl
@[simp] theorem State.setGeneration_sequencers (s : State) (v : BitVec 16) : (s.setGeneration v).sequencers = s.sequencers := rfl
@[simp] theorem State.setGeneration_drivers (s : State) (v : BitVec 16) : (s.setGeneration v).drivers = s.drivers := rfl
@[simp] theorem State.setGeneration_slots (s : State) (v : BitVec 16) : (s.setGeneration v).slots = s.slots := rfl
@[simp] theorem State.setGeneration_protections (s : State) (v : BitVec 16) : (s.setGeneration v).protections = s.protections := rfl
@[simp] theorem State.setGeneration_tripRuns (s : State) (v : BitVec 16) : (s.setGeneration v).tripRuns = s.tripRuns := rfl
@[simp] theorem State.setGeneration_monitors (s : State) (v : BitVec 16) : (s.setGeneration v).monitors = s.monitors := rfl
@[simp] theorem State.setGeneration_sweeps (s : State) (v : BitVec 16) : (s.setGeneration v).sweeps = s.sweeps := rfl
@[simp] theorem State.setGeneration_banks (s : State) (v : BitVec 16) : (s.setGeneration v).banks = s.banks := rfl
@[simp] theorem State.setGeneration_ports (s : State) (v : BitVec 16) : (s.setGeneration v).ports = s.ports := rfl
@[simp] theorem State.setGeneration_targetAddress (s : State) (v : BitVec 16) : (s.setGeneration v).targetAddress = s.targetAddress := rfl
@[simp] theorem State.setGeneration_settings (s : State) (v : BitVec 16) : (s.setGeneration v).settings = s.settings := rfl
@[simp] theorem State.setGeneration_pending (s : State) (v : BitVec 16) : (s.setGeneration v).pending = s.pending := rfl
@[simp] theorem State.setGeneration_generation (s : State) (v : BitVec 16) : (s.setGeneration v).generation = v := rfl
@[simp] theorem State.setGeneration_tracker (s : State) (v : BitVec 16) (j : Feed) : (s.setGeneration v).tracker j = s.tracker j := rfl
@[simp] theorem State.setGeneration_meter (s : State) (v : BitVec 16) (j : Outlet) : (s.setGeneration v).meter j = s.meter j := rfl
@[simp] theorem State.setGeneration_energyOf (s : State) (v : BitVec 16) (j : Outlet) : (s.setGeneration v).energyOf j = s.energyOf j := rfl
@[simp] theorem State.setGeneration_hold (s : State) (v : BitVec 16) (j : Outlet) : (s.setGeneration v).hold j = s.hold j := rfl
@[simp] theorem State.setGeneration_isTripped (s : State) (v : BitVec 16) (j : Outlet) : (s.setGeneration v).isTripped j = s.isTripped j := rfl
@[simp] theorem State.setGeneration_sequencer (s : State) (v : BitVec 16) (j : Branch) : (s.setGeneration v).sequencer j = s.sequencer j := rfl
@[simp] theorem State.setGeneration_driver (s : State) (v : BitVec 16) (j : Outlet) : (s.setGeneration v).driver j = s.driver j := rfl
@[simp] theorem State.setGeneration_protection (s : State) (v : BitVec 16) (j : Branch) : (s.setGeneration v).protection j = s.protection j := rfl
@[simp] theorem State.setGeneration_tripRun (s : State) (v : BitVec 16) (j : Outlet) : (s.setGeneration v).tripRun j = s.tripRun j := rfl
@[simp] theorem State.setGeneration_monitor (s : State) (v : BitVec 16) (j : Outlet) : (s.setGeneration v).monitor j = s.monitor j := rfl
@[simp] theorem State.setGeneration_age (s : State) (v : BitVec 16) (j : Outlet) : (s.setGeneration v).age j = s.age j := rfl
@[simp] theorem State.setGeneration_breaker (s : State) (v : BitVec 16) (j : Branch) : (s.setGeneration v).breaker j = s.breaker j := rfl
@[simp] theorem State.setGeneration_sweepEngine (s : State) (v : BitVec 16) (y : Link) : (s.setGeneration v).sweepEngine y = s.sweepEngine y := rfl
@[simp] theorem State.setGeneration_bankPort (s : State) (v : BitVec 16) (y : Link) : (s.setGeneration v).bankPort y = s.bankPort y := rfl
@[simp] theorem State.setGeneration_port (s : State) (v : BitVec 16) (y : Link) : (s.setGeneration v).port y = s.port y := rfl

/-! ### setResetHeld -/

@[simp] theorem State.setResetHeld_sampleCounter (s : State) (v : Bool) : (s.setResetHeld v).sampleCounter = s.sampleCounter := rfl
@[simp] theorem State.setResetHeld_seconds (s : State) (v : Bool) : (s.setResetHeld v).seconds = s.seconds := rfl
@[simp] theorem State.setResetHeld_subSecond (s : State) (v : Bool) : (s.setResetHeld v).subSecond = s.subSecond := rfl
@[simp] theorem State.setResetHeld_stamp (s : State) (v : Bool) : (s.setResetHeld v).stamp = s.stamp := rfl
@[simp] theorem State.setResetHeld_handed (s : State) (v : Bool) : (s.setResetHeld v).handed = s.handed := rfl
@[simp] theorem State.setResetHeld_senseAge (s : State) (v : Bool) : (s.setResetHeld v).senseAge = s.senseAge := rfl
@[simp] theorem State.setResetHeld_breakers (s : State) (v : Bool) : (s.setResetHeld v).breakers = s.breakers := rfl
@[simp] theorem State.setResetHeld_trackers (s : State) (v : Bool) : (s.setResetHeld v).trackers = s.trackers := rfl
@[simp] theorem State.setResetHeld_meters (s : State) (v : Bool) : (s.setResetHeld v).meters = s.meters := rfl
@[simp] theorem State.setResetHeld_energy (s : State) (v : Bool) : (s.setResetHeld v).energy = s.energy := rfl
@[simp] theorem State.setResetHeld_entries (s : State) (v : Bool) : (s.setResetHeld v).entries = s.entries := rfl
@[simp] theorem State.setResetHeld_nextId (s : State) (v : Bool) : (s.setResetHeld v).nextId = s.nextId := rfl
@[simp] theorem State.setResetHeld_holds (s : State) (v : Bool) : (s.setResetHeld v).holds = s.holds := rfl
@[simp] theorem State.setResetHeld_tripped (s : State) (v : Bool) : (s.setResetHeld v).tripped = s.tripped := rfl
@[simp] theorem State.setResetHeld_handling (s : State) (v : Bool) : (s.setResetHeld v).handling = s.handling := rfl
@[simp] theorem State.setResetHeld_sequencers (s : State) (v : Bool) : (s.setResetHeld v).sequencers = s.sequencers := rfl
@[simp] theorem State.setResetHeld_drivers (s : State) (v : Bool) : (s.setResetHeld v).drivers = s.drivers := rfl
@[simp] theorem State.setResetHeld_slots (s : State) (v : Bool) : (s.setResetHeld v).slots = s.slots := rfl
@[simp] theorem State.setResetHeld_protections (s : State) (v : Bool) : (s.setResetHeld v).protections = s.protections := rfl
@[simp] theorem State.setResetHeld_tripRuns (s : State) (v : Bool) : (s.setResetHeld v).tripRuns = s.tripRuns := rfl
@[simp] theorem State.setResetHeld_monitors (s : State) (v : Bool) : (s.setResetHeld v).monitors = s.monitors := rfl
@[simp] theorem State.setResetHeld_sweeps (s : State) (v : Bool) : (s.setResetHeld v).sweeps = s.sweeps := rfl
@[simp] theorem State.setResetHeld_banks (s : State) (v : Bool) : (s.setResetHeld v).banks = s.banks := rfl
@[simp] theorem State.setResetHeld_ports (s : State) (v : Bool) : (s.setResetHeld v).ports = s.ports := rfl
@[simp] theorem State.setResetHeld_targetAddress (s : State) (v : Bool) : (s.setResetHeld v).targetAddress = s.targetAddress := rfl
@[simp] theorem State.setResetHeld_settings (s : State) (v : Bool) : (s.setResetHeld v).settings = s.settings := rfl
@[simp] theorem State.setResetHeld_generation (s : State) (v : Bool) : (s.setResetHeld v).generation = s.generation := rfl
@[simp] theorem State.setResetHeld_pending (s : State) (v : Bool) : (s.setResetHeld v).pending = s.pending := rfl
@[simp] theorem State.setResetHeld_resetHeld (s : State) (v : Bool) : (s.setResetHeld v).resetHeld = v := rfl
@[simp] theorem State.setResetHeld_tracker (s : State) (v : Bool) (j : Feed) : (s.setResetHeld v).tracker j = s.tracker j := rfl
@[simp] theorem State.setResetHeld_meter (s : State) (v : Bool) (j : Outlet) : (s.setResetHeld v).meter j = s.meter j := rfl
@[simp] theorem State.setResetHeld_energyOf (s : State) (v : Bool) (j : Outlet) : (s.setResetHeld v).energyOf j = s.energyOf j := rfl
@[simp] theorem State.setResetHeld_hold (s : State) (v : Bool) (j : Outlet) : (s.setResetHeld v).hold j = s.hold j := rfl
@[simp] theorem State.setResetHeld_isTripped (s : State) (v : Bool) (j : Outlet) : (s.setResetHeld v).isTripped j = s.isTripped j := rfl
@[simp] theorem State.setResetHeld_sequencer (s : State) (v : Bool) (j : Branch) : (s.setResetHeld v).sequencer j = s.sequencer j := rfl
@[simp] theorem State.setResetHeld_driver (s : State) (v : Bool) (j : Outlet) : (s.setResetHeld v).driver j = s.driver j := rfl
@[simp] theorem State.setResetHeld_protection (s : State) (v : Bool) (j : Branch) : (s.setResetHeld v).protection j = s.protection j := rfl
@[simp] theorem State.setResetHeld_tripRun (s : State) (v : Bool) (j : Outlet) : (s.setResetHeld v).tripRun j = s.tripRun j := rfl
@[simp] theorem State.setResetHeld_monitor (s : State) (v : Bool) (j : Outlet) : (s.setResetHeld v).monitor j = s.monitor j := rfl
@[simp] theorem State.setResetHeld_age (s : State) (v : Bool) (j : Outlet) : (s.setResetHeld v).age j = s.age j := rfl
@[simp] theorem State.setResetHeld_breaker (s : State) (v : Bool) (j : Branch) : (s.setResetHeld v).breaker j = s.breaker j := rfl
@[simp] theorem State.setResetHeld_sweepEngine (s : State) (v : Bool) (y : Link) : (s.setResetHeld v).sweepEngine y = s.sweepEngine y := rfl
@[simp] theorem State.setResetHeld_bankPort (s : State) (v : Bool) (y : Link) : (s.setResetHeld v).bankPort y = s.bankPort y := rfl
@[simp] theorem State.setResetHeld_port (s : State) (v : Bool) (y : Link) : (s.setResetHeld v).port y = s.port y := rfl

/-! ### setPending -/

@[simp] theorem State.setPending_resetHeld (s : State) (v : List Instr) : (s.setPending v).resetHeld = s.resetHeld := rfl
@[simp] theorem State.setPending_sampleCounter (s : State) (v : List Instr) : (s.setPending v).sampleCounter = s.sampleCounter := rfl
@[simp] theorem State.setPending_seconds (s : State) (v : List Instr) : (s.setPending v).seconds = s.seconds := rfl
@[simp] theorem State.setPending_subSecond (s : State) (v : List Instr) : (s.setPending v).subSecond = s.subSecond := rfl
@[simp] theorem State.setPending_stamp (s : State) (v : List Instr) : (s.setPending v).stamp = s.stamp := rfl
@[simp] theorem State.setPending_handed (s : State) (v : List Instr) : (s.setPending v).handed = s.handed := rfl
@[simp] theorem State.setPending_senseAge (s : State) (v : List Instr) : (s.setPending v).senseAge = s.senseAge := rfl
@[simp] theorem State.setPending_breakers (s : State) (v : List Instr) : (s.setPending v).breakers = s.breakers := rfl
@[simp] theorem State.setPending_trackers (s : State) (v : List Instr) : (s.setPending v).trackers = s.trackers := rfl
@[simp] theorem State.setPending_meters (s : State) (v : List Instr) : (s.setPending v).meters = s.meters := rfl
@[simp] theorem State.setPending_energy (s : State) (v : List Instr) : (s.setPending v).energy = s.energy := rfl
@[simp] theorem State.setPending_entries (s : State) (v : List Instr) : (s.setPending v).entries = s.entries := rfl
@[simp] theorem State.setPending_nextId (s : State) (v : List Instr) : (s.setPending v).nextId = s.nextId := rfl
@[simp] theorem State.setPending_holds (s : State) (v : List Instr) : (s.setPending v).holds = s.holds := rfl
@[simp] theorem State.setPending_tripped (s : State) (v : List Instr) : (s.setPending v).tripped = s.tripped := rfl
@[simp] theorem State.setPending_handling (s : State) (v : List Instr) : (s.setPending v).handling = s.handling := rfl
@[simp] theorem State.setPending_sequencers (s : State) (v : List Instr) : (s.setPending v).sequencers = s.sequencers := rfl
@[simp] theorem State.setPending_drivers (s : State) (v : List Instr) : (s.setPending v).drivers = s.drivers := rfl
@[simp] theorem State.setPending_slots (s : State) (v : List Instr) : (s.setPending v).slots = s.slots := rfl
@[simp] theorem State.setPending_protections (s : State) (v : List Instr) : (s.setPending v).protections = s.protections := rfl
@[simp] theorem State.setPending_tripRuns (s : State) (v : List Instr) : (s.setPending v).tripRuns = s.tripRuns := rfl
@[simp] theorem State.setPending_monitors (s : State) (v : List Instr) : (s.setPending v).monitors = s.monitors := rfl
@[simp] theorem State.setPending_sweeps (s : State) (v : List Instr) : (s.setPending v).sweeps = s.sweeps := rfl
@[simp] theorem State.setPending_banks (s : State) (v : List Instr) : (s.setPending v).banks = s.banks := rfl
@[simp] theorem State.setPending_ports (s : State) (v : List Instr) : (s.setPending v).ports = s.ports := rfl
@[simp] theorem State.setPending_targetAddress (s : State) (v : List Instr) : (s.setPending v).targetAddress = s.targetAddress := rfl
@[simp] theorem State.setPending_settings (s : State) (v : List Instr) : (s.setPending v).settings = s.settings := rfl
@[simp] theorem State.setPending_generation (s : State) (v : List Instr) : (s.setPending v).generation = s.generation := rfl
@[simp] theorem State.setPending_pending (s : State) (v : List Instr) : (s.setPending v).pending = v := rfl
@[simp] theorem State.setPending_tracker (s : State) (v : List Instr) (j : Feed) : (s.setPending v).tracker j = s.tracker j := rfl
@[simp] theorem State.setPending_meter (s : State) (v : List Instr) (j : Outlet) : (s.setPending v).meter j = s.meter j := rfl
@[simp] theorem State.setPending_energyOf (s : State) (v : List Instr) (j : Outlet) : (s.setPending v).energyOf j = s.energyOf j := rfl
@[simp] theorem State.setPending_hold (s : State) (v : List Instr) (j : Outlet) : (s.setPending v).hold j = s.hold j := rfl
@[simp] theorem State.setPending_isTripped (s : State) (v : List Instr) (j : Outlet) : (s.setPending v).isTripped j = s.isTripped j := rfl
@[simp] theorem State.setPending_sequencer (s : State) (v : List Instr) (j : Branch) : (s.setPending v).sequencer j = s.sequencer j := rfl
@[simp] theorem State.setPending_driver (s : State) (v : List Instr) (j : Outlet) : (s.setPending v).driver j = s.driver j := rfl
@[simp] theorem State.setPending_protection (s : State) (v : List Instr) (j : Branch) : (s.setPending v).protection j = s.protection j := rfl
@[simp] theorem State.setPending_tripRun (s : State) (v : List Instr) (j : Outlet) : (s.setPending v).tripRun j = s.tripRun j := rfl
@[simp] theorem State.setPending_monitor (s : State) (v : List Instr) (j : Outlet) : (s.setPending v).monitor j = s.monitor j := rfl
@[simp] theorem State.setPending_age (s : State) (v : List Instr) (j : Outlet) : (s.setPending v).age j = s.age j := rfl
@[simp] theorem State.setPending_breaker (s : State) (v : List Instr) (j : Branch) : (s.setPending v).breaker j = s.breaker j := rfl
@[simp] theorem State.setPending_sweepEngine (s : State) (v : List Instr) (y : Link) : (s.setPending v).sweepEngine y = s.sweepEngine y := rfl
@[simp] theorem State.setPending_bankPort (s : State) (v : List Instr) (y : Link) : (s.setPending v).bankPort y = s.bankPort y := rfl
@[simp] theorem State.setPending_port (s : State) (v : List Instr) (y : Link) : (s.setPending v).port y = s.port y := rfl

/-! ### setClock -/

@[simp] theorem State.setClock_resetHeld (s : State) (n m : BitVec 32) (l : Nat) : (s.setClock n m l).resetHeld = s.resetHeld := rfl
@[simp] theorem State.setClock_handed (s : State) (n m : BitVec 32) (l : Nat) : (s.setClock n m l).handed = s.handed := rfl
@[simp] theorem State.setClock_senseAge (s : State) (n m : BitVec 32) (l : Nat) : (s.setClock n m l).senseAge = s.senseAge := rfl
@[simp] theorem State.setClock_breakers (s : State) (n m : BitVec 32) (l : Nat) : (s.setClock n m l).breakers = s.breakers := rfl
@[simp] theorem State.setClock_trackers (s : State) (n m : BitVec 32) (l : Nat) : (s.setClock n m l).trackers = s.trackers := rfl
@[simp] theorem State.setClock_meters (s : State) (n m : BitVec 32) (l : Nat) : (s.setClock n m l).meters = s.meters := rfl
@[simp] theorem State.setClock_energy (s : State) (n m : BitVec 32) (l : Nat) : (s.setClock n m l).energy = s.energy := rfl
@[simp] theorem State.setClock_entries (s : State) (n m : BitVec 32) (l : Nat) : (s.setClock n m l).entries = s.entries := rfl
@[simp] theorem State.setClock_nextId (s : State) (n m : BitVec 32) (l : Nat) : (s.setClock n m l).nextId = s.nextId := rfl
@[simp] theorem State.setClock_holds (s : State) (n m : BitVec 32) (l : Nat) : (s.setClock n m l).holds = s.holds := rfl
@[simp] theorem State.setClock_tripped (s : State) (n m : BitVec 32) (l : Nat) : (s.setClock n m l).tripped = s.tripped := rfl
@[simp] theorem State.setClock_handling (s : State) (n m : BitVec 32) (l : Nat) : (s.setClock n m l).handling = s.handling := rfl
@[simp] theorem State.setClock_sequencers (s : State) (n m : BitVec 32) (l : Nat) : (s.setClock n m l).sequencers = s.sequencers := rfl
@[simp] theorem State.setClock_drivers (s : State) (n m : BitVec 32) (l : Nat) : (s.setClock n m l).drivers = s.drivers := rfl
@[simp] theorem State.setClock_slots (s : State) (n m : BitVec 32) (l : Nat) : (s.setClock n m l).slots = s.slots := rfl
@[simp] theorem State.setClock_protections (s : State) (n m : BitVec 32) (l : Nat) : (s.setClock n m l).protections = s.protections := rfl
@[simp] theorem State.setClock_tripRuns (s : State) (n m : BitVec 32) (l : Nat) : (s.setClock n m l).tripRuns = s.tripRuns := rfl
@[simp] theorem State.setClock_monitors (s : State) (n m : BitVec 32) (l : Nat) : (s.setClock n m l).monitors = s.monitors := rfl
@[simp] theorem State.setClock_sweeps (s : State) (n m : BitVec 32) (l : Nat) : (s.setClock n m l).sweeps = s.sweeps := rfl
@[simp] theorem State.setClock_banks (s : State) (n m : BitVec 32) (l : Nat) : (s.setClock n m l).banks = s.banks := rfl
@[simp] theorem State.setClock_ports (s : State) (n m : BitVec 32) (l : Nat) : (s.setClock n m l).ports = s.ports := rfl
@[simp] theorem State.setClock_targetAddress (s : State) (n m : BitVec 32) (l : Nat) : (s.setClock n m l).targetAddress = s.targetAddress := rfl
@[simp] theorem State.setClock_settings (s : State) (n m : BitVec 32) (l : Nat) : (s.setClock n m l).settings = s.settings := rfl
@[simp] theorem State.setClock_generation (s : State) (n m : BitVec 32) (l : Nat) : (s.setClock n m l).generation = s.generation := rfl
@[simp] theorem State.setClock_pending (s : State) (n m : BitVec 32) (l : Nat) : (s.setClock n m l).pending = s.pending := rfl
@[simp] theorem State.setClock_sampleCounter (s : State) (n m : BitVec 32) (l : Nat) : (s.setClock n m l).sampleCounter = n := rfl
@[simp] theorem State.setClock_seconds (s : State) (n m : BitVec 32) (l : Nat) : (s.setClock n m l).seconds = m := rfl
@[simp] theorem State.setClock_subSecond (s : State) (n m : BitVec 32) (l : Nat) : (s.setClock n m l).subSecond = l := rfl
@[simp] theorem State.setClock_stamp (s : State) (n m : BitVec 32) (l : Nat) : (s.setClock n m l).stamp = s.stamp := rfl
@[simp] theorem State.setClock_tracker (s : State) (n m : BitVec 32) (l : Nat) (j : Feed) : (s.setClock n m l).tracker j = s.tracker j := rfl
@[simp] theorem State.setClock_meter (s : State) (n m : BitVec 32) (l : Nat) (j : Outlet) : (s.setClock n m l).meter j = s.meter j := rfl
@[simp] theorem State.setClock_energyOf (s : State) (n m : BitVec 32) (l : Nat) (j : Outlet) : (s.setClock n m l).energyOf j = s.energyOf j := rfl
@[simp] theorem State.setClock_hold (s : State) (n m : BitVec 32) (l : Nat) (j : Outlet) : (s.setClock n m l).hold j = s.hold j := rfl
@[simp] theorem State.setClock_isTripped (s : State) (n m : BitVec 32) (l : Nat) (j : Outlet) : (s.setClock n m l).isTripped j = s.isTripped j := rfl
@[simp] theorem State.setClock_sequencer (s : State) (n m : BitVec 32) (l : Nat) (j : Branch) : (s.setClock n m l).sequencer j = s.sequencer j := rfl
@[simp] theorem State.setClock_driver (s : State) (n m : BitVec 32) (l : Nat) (j : Outlet) : (s.setClock n m l).driver j = s.driver j := rfl
@[simp] theorem State.setClock_protection (s : State) (n m : BitVec 32) (l : Nat) (j : Branch) : (s.setClock n m l).protection j = s.protection j := rfl
@[simp] theorem State.setClock_tripRun (s : State) (n m : BitVec 32) (l : Nat) (j : Outlet) : (s.setClock n m l).tripRun j = s.tripRun j := rfl
@[simp] theorem State.setClock_monitor (s : State) (n m : BitVec 32) (l : Nat) (j : Outlet) : (s.setClock n m l).monitor j = s.monitor j := rfl
@[simp] theorem State.setClock_age (s : State) (n m : BitVec 32) (l : Nat) (j : Outlet) : (s.setClock n m l).age j = s.age j := rfl
@[simp] theorem State.setClock_breaker (s : State) (n m : BitVec 32) (l : Nat) (j : Branch) : (s.setClock n m l).breaker j = s.breaker j := rfl
@[simp] theorem State.setClock_sweepEngine (s : State) (n m : BitVec 32) (l : Nat) (y : Link) : (s.setClock n m l).sweepEngine y = s.sweepEngine y := rfl
@[simp] theorem State.setClock_bankPort (s : State) (n m : BitVec 32) (l : Nat) (y : Link) : (s.setClock n m l).bankPort y = s.bankPort y := rfl
@[simp] theorem State.setClock_port (s : State) (n m : BitVec 32) (l : Nat) (y : Link) : (s.setClock n m l).port y = s.port y := rfl

end Machine

end Sys2Proof
end

