-- ==== Sys2Proof/Laws/Acts.lean ====
section
/-! SUPPORT. What the blocks can do among themselves. `Acts s t` says once everything that an act of a block can leave: the
counters, inputs, trackers, energy, holds, sweeps, banks and settings as they were, the ports with events offered and nothing
else, and the bounds of the queue and the slots kept. Every operation of the blocks has one lemma here. -/

namespace Sys2Proof.Machine

/-- What no act of a block changes. -/
structure Fixed where
  resetHeld : Bool
  sampleCounter : BitVec 32
  seconds : BitVec 32
  subSecond : Nat
  stamp : Timestamp
  handed : Handed
  senseAge : Vector Nat 24
  breakers : Vector Breaker 6
  trackers : Vector Tracker 3
  energy : Vector Energy 24
  holds : Vector (Option Link) 24
  sweeps : PerLink SweepEngine
  banks : PerLink BankPort
  targetAddress : BitVec 7
  settings : Settings
  generation : BitVec 16
  pending : List Instr

/-- The part of a state that no act of a block changes. -/
def State.fixed (s : State) : Fixed :=
  { resetHeld := s.resetHeld, sampleCounter := s.sampleCounter, seconds := s.seconds, subSecond := s.subSecond,
    stamp := s.stamp, handed := s.handed, senseAge := s.senseAge, breakers := s.breakers, trackers := s.trackers, energy := s.energy,
    holds := s.holds, sweeps := s.sweeps, banks := s.banks, targetAddress := s.targetAddress, settings := s.settings,
    generation := s.generation, pending := s.pending }

/-- Events offered to a port one after another. -/
def Port.offers (p : Port) (es : List Event) : Port := es.foldl Port.offer p

/-- What an act of a block can leave. -/
structure Acts (s t : State) : Prop where
  fixed : t.fixed = s.fixed
  ports : ∀ x, ∃ es, t.port x = (s.port x).offers es
  fits : s.QueueFits → t.QueueFits
  distinct : s.EntriesDistinct → t.EntriesDistinct
  slots : s.SlotsFit → t.SlotsFit
  coils : s.CoilsSlotted → t.CoilsSlotted

theorem Acts.refl (s : State) : Acts s s := ⟨rfl, fun _ => ⟨[], rfl⟩, id, id, id, id⟩

theorem Acts.trans {s t u : State} (h : Acts s t) (g : Acts t u) : Acts s u where
  fixed := g.fixed.trans h.fixed
  ports x := by
    obtain ⟨es, he⟩ := h.ports x
    obtain ⟨fs, hf⟩ := g.ports x
    exact ⟨es ++ fs, by rw [hf, he, Port.offers, Port.offers, Port.offers, List.foldl_append]⟩
  fits := g.fits ∘ h.fits
  distinct := g.distinct ∘ h.distinct
  slots := g.slots ∘ h.slots
  coils := g.coils ∘ h.coils

/-- Acts taken one after another. -/
theorem Acts.foldl {α : Type} {f : State → α → State} (hf : ∀ s a, Acts s (f s a)) (l : List α) {s t : State}
    (h : Acts s t) : Acts s (l.foldl f t) := by
  induction l generalizing t with
  | nil => exact h
  | cons a l ih => exact ih (h.trans (hf t a))

theorem Acts.ite {s t u : State} {p : Prop} [Decidable p] (h : Acts s t) (g : Acts s u) :
    Acts s (if p then t else u) := by
  split
  · exact h
  · exact g

variable {s t : State}

/-! ### The updates -/

theorem Acts.setMeter (h : Acts s t) (k : Outlet) (v : Meter) : Acts s (t.setMeter k v) :=
  ⟨h.fixed, h.ports, h.fits, h.distinct, h.slots, h.coils⟩

theorem Acts.setTripped (h : Acts s t) (k : Outlet) (v : Bool) : Acts s (t.setTripped k v) :=
  ⟨h.fixed, h.ports, h.fits, h.distinct, h.slots, h.coils⟩

theorem Acts.setSequencer (h : Acts s t) (b : Branch) (v : Sequencer) : Acts s (t.setSequencer b v) :=
  ⟨h.fixed, h.ports, h.fits, h.distinct, h.slots, h.coils⟩

/-- A driver replaced by one that drives its coil as before. -/
theorem Acts.setDriver (h : Acts s t) (k : Outlet) (v : Driver) (hc : v.coil = (t.driver k).coil) :
    Acts s (t.setDriver k v) := by
  refine ⟨h.fixed, h.ports, h.fits, h.distinct, h.slots, fun q j hj => h.coils q j ?_⟩
  rw [State.setDriver_driver] at hj
  split at hj
  · next e => rw [e, ← hc]; exact hj
  · exact hj

theorem Acts.setProtection (h : Acts s t) (b : Branch) (v : Protection) : Acts s (t.setProtection b v) :=
  ⟨h.fixed, h.ports, h.fits, h.distinct, h.slots, h.coils⟩

theorem Acts.setTripRun (h : Acts s t) (k : Outlet) (v : Nat) : Acts s (t.setTripRun k v) :=
  ⟨h.fixed, h.ports, h.fits, h.distinct, h.slots, h.coils⟩

theorem Acts.setMonitor (h : Acts s t) (k : Outlet) (v : Monitor) : Acts s (t.setMonitor k v) :=
  ⟨h.fixed, h.ports, h.fits, h.distinct, h.slots, h.coils⟩

theorem Acts.note (h : Acts s t) (f : Handling → Handling) : Acts s (t.note f) :=
  ⟨h.fixed, h.ports, h.fits, h.distinct, h.slots, h.coils⟩

theorem Acts.noteReturn (h : Acts s t) (id : Byte) : Acts s (t.noteReturn id) := h.note _

theorem Acts.noteTry (h : Acts s t) (k : Outlet) : Acts s (t.noteTry k) := h.note _

theorem Acts.setNextId (h : Acts s t) (v : Byte) : Acts s (t.setNextId v) :=
  ⟨h.fixed, h.ports, h.fits, h.distinct, h.slots, h.coils⟩

/-- An event offered to both ports. -/
theorem State.post_port (s : State) (body : EventBody) (source : EventOrigin) (x : Link) :
    (s.post body source).port x = (s.port x).offer { body := body, source := source, stamp := s.stamp } := by
  cases x <;> rfl

theorem Acts.post (h : Acts s t) (body : EventBody) (source : EventOrigin) : Acts s (t.post body source) := by
  refine h.trans ⟨rfl, fun x => ?_, id, id, id, id⟩
  exact ⟨[{ body := body, source := source, stamp := t.stamp }], t.post_port body source x⟩

theorem Acts.feedStateTurn (h : Acts s t) (f : Feed) : Acts s (t.feedStateTurn f) := by
  unfold State.feedStateTurn
  split
  · exact h
  · exact h
  · exact h.post _ _

/-- Changing an entry in place keeps the queue's length, ids and outlets. -/
theorem Acts.modEntry (h : Acts s t) (id : Byte) (f : Entry → Entry) (hi : ∀ e, (f e).id = e.id)
    (ho : ∀ e, (f e).outlet = e.outlet) : Acts s (t.modEntry id f) := by
  have hid : (t.modEntry id f).entries.map (·.id) = t.entries.map (·.id) := by
    simp only [State.modEntry, State.setEntries_entries, List.map_map]
    refine List.map_congr_left fun e _ => ?_
    simp only [Function.comp]; split <;> simp [hi]
  have hout : (t.modEntry id f).entries.map (·.outlet) = t.entries.map (·.outlet) := by
    simp only [State.modEntry, State.setEntries_entries, List.map_map]
    refine List.map_congr_left fun e _ => ?_
    simp only [Function.comp]; split <;> simp [ho]
  refine h.trans ⟨rfl, fun x => ⟨[], rfl⟩, ?_, ?_, fun q => q, fun q => q⟩
  · intro q; simpa [State.QueueFits, State.modEntry] using q
  · intro q; unfold State.EntriesDistinct; rw [hid, hout]; exact q

/-- Taking entries out keeps the queue's bounds. -/
theorem Acts.filterEntries (h : Acts s t) (p : Entry → Bool) : Acts s (t.setEntries (t.entries.filter p)) := by
  refine h.trans ⟨rfl, fun x => ⟨[], rfl⟩, fun q => ?_, fun q => ⟨?_, ?_⟩, fun q => q, fun q => q⟩
  · exact le_trans (List.length_filter_le _ _) q
  · exact q.1.sublist (List.filter_sublist.map _)
  · exact q.2.sublist (List.filter_sublist.map _)

/-! ### Close Sequencer -/

theorem Acts.handOver (h : Acts s t) (k : Outlet) (d : Direction) : Acts s (t.handOver k d) := h.setDriver _ _ rfl

theorem Acts.admitHead (h : Acts s t) (b : Branch) (id : Byte) (rest : List Byte) (k : Outlet) :
    Acts s (t.admitHead b id rest k) :=
  ((h.setSequencer _ _).modEntry _ _ (by exact fun _ => rfl) (by exact fun _ => rfl)).handOver ..

theorem Acts.testHead (h : Acts s t) (b : Branch) : Acts s (t.testHead b) := by
  unfold State.testHead
  split
  · exact h.setSequencer ..
  · split
    · exact h
    · split
      · exact h.admitHead ..
      · exact h.setSequencer ..

theorem Acts.joinLine (h : Acts s t) (e : Entry) : Acts s (t.joinLine e) := by
  have g : Acts s ((t.modEntry e.id fun x => { x with phase := .waitAdmit }).setSequencer (t.branchOf e.outlet)
      { t.sequencer (t.branchOf e.outlet) with
        line := t.lineWith e (t.sequencer (t.branchOf e.outlet)).line }) :=
    (h.modEntry _ _ (by exact fun _ => rfl) (by exact fun _ => rfl)).setSequencer _ _
  unfold State.joinLine
  exact Acts.ite (g.testHead _) g

theorem Acts.leaveLine (h : Acts s t) (b : Branch) (id : Byte) : Acts s (t.leaveLine b id) :=
  Acts.ite ((h.setSequencer _ _).testHead _) (h.setSequencer _ _)

theorem Acts.endClose (h : Acts s t) (b : Branch) : Acts s (t.endClose b) := (h.setSequencer _ _).testHead _

theorem Acts.sequencerCompletion (h : Acts s t) (b : Branch) (id : Byte) : Acts s (t.sequencerCompletion b id) :=
  Acts.ite (h.endClose _) (Acts.ite (h.leaveLine _ _) h)

theorem Acts.sequencerStage (h : Acts s t) (b : Branch) : Acts s (t.sequencerStage b) := (h.setSequencer _ _).testHead _

theorem Acts.pulseStarted (h : Acts s t) (b : Branch) : Acts s (t.pulseStarted b) := h.setSequencer _ _

/-! ### Monitor core and Action Queue -/

theorem Acts.heartbeatAt (h : Acts s t) (k : Outlet) : Acts s (t.heartbeatAt k) := Acts.ite h (h.setMonitor _ _)

theorem Acts.graceTurn (h : Acts s t) (k : Outlet) : Acts s (t.graceTurn k) := Acts.ite (h.setMonitor _ _) h

theorem Acts.complete (h : Acts s t) (e : Entry) (r : ActionResult) (d : ResultDetail) : Acts s (t.complete e r d) :=
  (((h.filterEntries _).post _ _).setMonitor _ _).sequencerCompletion _ _

theorem Acts.startOpening (h : Acts s t) (e : Entry) : Acts s (t.startOpening e) :=
  (h.modEntry _ _ (by exact fun _ => rfl) (by exact fun _ => rfl)).handOver _ _

theorem Acts.startOffHold (h : Acts s t) (e : Entry) : Acts s (t.startOffHold e) :=
  h.modEntry _ _ (by exact fun _ => rfl) (by exact fun _ => rfl)

theorem Acts.stepEntry (h : Acts s t) (e : Entry) : Acts s (t.stepEntry e) := by
  unfold State.stepEntry
  split
  · exact h.complete _ _ _
  · exact h.startOpening _
  · exact h.complete _ _ _
  · exact h.joinLine _
  · exact h.startOffHold _
  · exact h.startOpening _

theorem Acts.firstStep (h : Acts s t) (k : Outlet) : Acts s (t.firstStep k) := by
  unfold State.firstStep
  split
  · exact h
  · exact Acts.ite (h.stepEntry _) h

theorem Acts.answerTrip (h : Acts s t) (k : Outlet) (kind : Kind) : Acts s (t.answerTrip k kind) :=
  Acts.ite h (h.setTripped _ _)

theorem Acts.offHoldTurn (h : Acts s t) (k : Outlet) : Acts s (t.offHoldTurn k) := by
  unfold State.offHoldTurn
  split
  · exact h
  · exact Acts.ite ((h.noteReturn _).joinLine _) h

/-! ### Placement: the id taken is free -/

theorem freeIdFrom_mem {live : List Byte} {n : Nat} {id : Byte} (h : freeIdFrom live n id ∈ live) :
    ∀ i, i ≤ n → id + BitVec.ofNat 8 i ∈ live := by
  induction n generalizing id with
  | zero => intro i hi; simpa [Nat.le_zero.mp hi, freeIdFrom] using h
  | succ n ih =>
    intro i hi
    unfold freeIdFrom at h
    split at h
    · next hc =>
      cases i with
      | zero => simpa using hc
      | succ i =>
        have := ih h i (by omega)
        rw [BitVec.ofNat_add, show id + (BitVec.ofNat 8 i + BitVec.ofNat 8 1) = id + 1 + BitVec.ofNat 8 i by
          rw [BitVec.add_comm (BitVec.ofNat 8 i), ← BitVec.add_assoc]; rfl]
        exact this
    · next hc => exact absurd h (by simpa using hc)

/-- With fewer than 256 live ids the id a placement takes is free (R69). -/
theorem freeIdFrom_free {live : List Byte} (hl : live.length < 256) (id : Byte) : freeIdFrom live 256 id ∉ live := by
  intro h
  have hall : ∀ b : Byte, b ∈ live := fun b => by
    have := freeIdFrom_mem h (b - id).toNat (by have := (b - id).isLt; omega)
    rwa [BitVec.ofNat_toNat, BitVec.setWidth_eq, BitVec.add_comm, BitVec.sub_add_cancel] at this
  have hsub : (Finset.univ : Finset Byte) ⊆ live.toFinset := fun b _ => List.mem_toFinset.mpr (hall b)
  have h1 := Finset.card_le_card hsub
  have h2 := List.toFinset_card_le live
  have h3 : (Finset.univ : Finset Byte).card = 256 := by
    rw [Finset.card_univ]; exact (Fintype.card_congr ⟨fun b => b.toFin, BitVec.ofFin, fun _ => rfl, fun _ => rfl⟩).trans (Fintype.card_fin _)
  omega

theorem State.entryOf_none {s : State} {k : Outlet} (h : s.entryOf k = none) : k ∉ s.entries.map (·.outlet) := by
  intro hk
  obtain ⟨e, he, rfl⟩ := List.mem_map.mp hk
  have := List.find?_eq_none.mp h e he
  simp at this

theorem Acts.place (h : Acts s t) (k : Outlet) (kind : Kind) (o : Origin) (m : Bool) (tag : Option Byte) (off : Nat)
    (hroom : t.hasRoom = true) (hfree : s.EntriesDistinct → t.entryOf k = none) : Acts s (t.place k kind o m tag off) := by
  have hroom' : t.entries.length < Config.queueSize := by simpa [State.hasRoom] using hroom
  have g : Acts s (t.setEntries (t.entries ++ [t.newEntry k kind o m tag off])) := by
    refine ⟨h.fixed, h.ports, fun _ => ?_, fun q => ?_, h.slots, h.coils⟩
    · simpa [State.QueueFits] using hroom'
    · have hk : (t.newEntry k kind o m tag off).outlet ∉ t.entries.map (·.outlet) := State.entryOf_none (hfree q)
      have hid : (t.newEntry k kind o m tag off).id ∉ t.entries.map (·.id) :=
        freeIdFrom_free (by simp only [List.length_map]; simp only [Config.queueSize] at hroom'; omega) _
      have hq := h.distinct q
      refine ⟨?_, ?_⟩
      · simp only [State.setEntries_entries, List.map_append, List.map_cons, List.map_nil]
        exact List.nodup_append.mpr ⟨hq.1, List.nodup_singleton _, fun a ha b hb e => by
          rw [List.mem_singleton.mp hb] at e; exact hid (e ▸ ha)⟩
      · simp only [State.setEntries_entries, List.map_append, List.map_cons, List.map_nil]
        exact List.nodup_append.mpr ⟨hq.2, List.nodup_singleton _, fun a ha b hb e => by
          rw [List.mem_singleton.mp hb] at e; exact hk (e ▸ ha)⟩
  exact ((g.setNextId _).answerTrip _ _).firstStep _

/-! ### Relay Driver -/

theorem Acts.testHeadOf (h : Acts s t) (k : Outlet) : Acts s (t.testHeadOf k) := by
  unfold State.testHeadOf
  split
  · exact h
  · exact Acts.ite (h.testHead _) h

theorem Acts.setContact (h : Acts s t) (k : Outlet) (c : Contact) : Acts s (t.setContact k c) := by
  have g := h.setDriver k { t.driver k with contact := c } rfl
  unfold State.setContact
  dsimp only
  split
  · exact g
  · split
    · exact g
    · exact g.setMonitor _ _
    · exact ((g.setMeter _ _).setMonitor _ _).testHeadOf _

theorem Acts.reportEnd (h : Acts s t) (k : Outlet) (source : StepSource) (how : HowSet) :
    Acts s (t.reportEnd k source how) := by
  unfold State.reportEnd
  split
  · exact Acts.ite (h.startOffHold _) (h.complete _ _ _)
  · exact Acts.ite (h.complete _ _ _) h
  · exact h

/-! The driver's own moves drive its coil as before. -/

@[simp] theorem Driver.idle_coil (d : Driver) : d.idle.coil = d.coil := rfl

@[simp] theorem Driver.joinUrgentOpen_coil (d : Driver) (i m : UrgentMode) : (d.joinUrgentOpen i m).coil = d.coil := by
  unfold Driver.joinUrgentOpen; split <;> rfl

@[simp] theorem Driver.feedLeaves_coil (d : Driver) : d.feedLeaves.coil = d.coil := by
  unfold Driver.feedLeaves; split <;> rfl

@[simp] theorem Driver.counts_coil (d : Driver) (a : Bool) : (d.counts a).coil = d.coil := by
  unfold Driver.counts; split
  · rfl
  · split <;> rfl
  · rfl

@[simp] theorem Driver.takeNotice_coil (d : Driver) (a b : Bool) : (d.takeNotice a b).coil = d.coil := by
  cases a <;> cases b <;> simp [Driver.takeNotice, Driver.clearMet]

theorem Acts.endStep (h : Acts s t) (k : Outlet) (step : Step) (how : HowSet) : Acts s (t.endStep k step how) := by
  have g := h.setDriver k (t.driver k).idle rfl
  unfold State.endStep
  exact (((g.setContact _ _).post _ _).reportEnd _ _ _).firstStep _

theorem Acts.failEntry (h : Acts s t) (k : Outlet) (f : RelayFault) : Acts s (t.failEntry k f) := by
  unfold State.failEntry
  split
  · exact h
  · exact h.complete _ _ _

theorem Acts.declareFault (h : Acts s t) (k : Outlet) (step : Step) : Acts s (t.declareFault k step) := by
  have g := h.setDriver k
    { (t.driver k).idle with state := .faulted, fault := some step.direction.fault } rfl
  unfold State.declareFault
  exact (((g.setContact _ _).setMonitor _ _).post _ _).failEntry _ _

theorem Acts.giveUp (h : Acts s t) (k : Outlet) : Acts s (t.giveUp k) := h.setDriver _ _ rfl

theorem Acts.withdrawClose (h : Acts s t) (k : Outlet) : Acts s (t.withdrawClose k) := by
  unfold State.withdrawClose
  split
  · exact h.giveUp _
  · exact ((((h.giveUp _).modEntry _ _ (by exact fun _ => rfl) (by exact fun _ => rfl)).note _).setSequencer _ _).endClose _

theorem Acts.retry (h : Acts s t) (k : Outlet) (step : Step) : Acts s (t.retry k step) := h.setDriver _ _ rfl

theorem Acts.endVerify (h : Acts s t) (k : Outlet) (step : Step) : Acts s (t.endVerify k step) :=
  Acts.ite (h.endStep _ _ _) (Acts.ite (Acts.ite (h.withdrawClose _) (h.retry _ _)) (h.declareFault _ _))

theorem Acts.preemptEntry (h : Acts s t) (k : Outlet) : Acts s (t.preemptEntry k) := by
  unfold State.preemptEntry
  split
  · exact h
  · exact Acts.ite (h.modEntry _ _ (by exact fun _ => rfl) (by exact fun _ => rfl)) (h.complete _ _ _)

theorem Acts.takeUrgent (h : Acts s t) (k : Outlet) (m : UrgentMode) : Acts s (t.takeUrgent k m) := h.setDriver _ _ rfl

theorem Acts.urgentAtDriver (h : Acts s t) (k : Outlet) (m : UrgentMode) : Acts s (t.urgentAtDriver k m) := by
  unfold State.urgentAtDriver
  dsimp only
  split
  · split
    · exact h
    · exact h.post _ _
  · exact Acts.ite h (h.takeUrgent _ _)
  · exact h.takeUrgent _ _
  · split
    · exact h.setDriver _ _ (by simp)
    · split
      · exact h.setDriver _ _ rfl
      · exact h.setDriver _ _ rfl
      · exact h.setDriver _ _ rfl
      · exact (h.setContact _ _).takeUrgent _ _
      · exact h.takeUrgent _ _

theorem Acts.urgentOpen (h : Acts s t) (k : Outlet) (m : UrgentMode) : Acts s (t.urgentOpen k m) :=
  (h.preemptEntry _).urgentAtDriver _ _

/-- A coil released with its slot freed. -/
theorem Acts.releaseCoil (h : Acts s t) (k : Outlet) : Acts s (t.releaseCoil k) := by
  refine h.trans ⟨rfl, fun x => ⟨[], rfl⟩, fun q => q, fun q => q, fun q => ?_, fun q j hj => ?_⟩
  · exact le_trans List.length_erase_le q
  · have hj' : ((t.setDriver k { t.driver k with coil := .released, pulseCount := 0 }).driver j).coil ≠ .released := hj
    rw [State.setDriver_driver] at hj'
    split at hj'
    · exact absurd rfl hj'
    · next hne => exact (List.mem_erase_of_ne hne).mpr (q j hj')

theorem Acts.endPreempted (h : Acts s t) (k : Outlet) (e : Entry) : Acts s (t.endPreempted k e) := by
  have g := ((h.setDriver k (t.driver k).idle rfl).setContact k .unknown).complete e .preempted .none
  unfold State.endPreempted
  dsimp only
  split
  · exact g.firstStep _
  · exact g.takeUrgent _ _

theorem Acts.judgePulse (h : Acts s t) (k : Outlet) (step : Step) : Acts s (t.judgePulse k step) :=
  Acts.ite (h.endStep _ _ _) (h.setDriver _ _ rfl)

theorem Acts.afterPulse (h : Acts s t) (k : Outlet) (step : Step) : Acts s (t.afterPulse k step) := by
  unfold State.afterPulse
  split
  · exact Acts.ite (h.endPreempted _ _) (h.judgePulse _ _)
  · exact h.judgePulse _ _

theorem Acts.endPulse (h : Acts s t) (k : Outlet) (step : Step) : Acts s (t.endPulse k step) :=
  (h.releaseCoil _).afterPulse _ _

theorem Acts.driverNotice (h : Acts s t) (k : Outlet) : Acts s (t.driverNotice k) := h.setDriver _ _ (by simp)

theorem Acts.discoveredClosed (h : Acts s t) (k : Outlet) : Acts s (t.discoveredClosed k) := by
  unfold State.discoveredClosed
  split
  · exact h
  · exact Acts.ite (h.complete _ _ _) h

theorem Acts.discover (h : Acts s t) (k : Outlet) : Acts s (t.discover k) :=
  Acts.ite (((h.setContact _ _).post _ _).discoveredClosed _) ((h.setContact _ _).post _ _)

theorem Acts.leavingTurn (h : Acts s t) (k : Outlet) : Acts s (t.leavingTurn k) := by
  unfold State.leavingTurn
  split
  · split
    · exact h.endStep _ _ _
    · exact h.setDriver _ _ (by simp)
  · exact h

theorem Acts.verifyTurn (h : Acts s t) (k : Outlet) : Acts s (t.verifyTurn k) := by
  unfold State.verifyTurn
  split
  · exact Acts.ite (h.endVerify _ _) h
  · exact h

theorem Acts.pulseTurn (h : Acts s t) (k : Outlet) : Acts s (t.pulseTurn k) := by
  unfold State.pulseTurn
  split
  · exact Acts.ite (h.endPulse _ _) h
  · exact h

theorem Acts.driverTurn (h : Acts s t) (k : Outlet) : Acts s (t.driverTurn k) := by
  unfold State.driverTurn
  split
  · exact h.pulseTurn _
  · exact h.verifyTurn _
  · exact Acts.ite (h.discover _) h
  · exact h

theorem Acts.meetPhase (h : Acts s t) (k : Outlet) : Acts s (t.meetPhase k) := by
  unfold State.meetPhase
  split
  · split
    · exact h
    · exact h.setDriver _ _ rfl
  · exact h

theorem Acts.slip (h : Acts s t) (k : Outlet) : Acts s (t.slip k) := by
  unfold State.slip
  split
  · exact h
  · exact Acts.ite (h.setDriver _ _ rfl) h

/-- A grant takes one slot. -/
theorem State.grant_acts (t : State) (k : Outlet) :
    (t.grant k).slots.length ≤ t.slots.length + 1 ∧ (t.slots.length + 1 ≤ Config.coilSlots → Acts t (t.grant k)) := by
  unfold State.grant
  split
  · exact ⟨Nat.le_succ _, fun _ => Acts.refl _⟩
  · next step _ =>
    have g (hl : t.slots.length + 1 ≤ Config.coilSlots) :
        Acts t ((t.setDriver k { t.driver k with
          state := .pulse, pulseCount := step.pulse, coil := step.direction.coil,
          step := some { step with feedLeft := false } }).setSlots (t.slots ++ [k])) :=
      ⟨rfl, fun x => ⟨[], rfl⟩, id, id, fun _ => by simpa [State.SlotsFit] using hl, fun q j hj => by
        rw [State.setSlots_driver, State.setDriver_driver] at hj
        split at hj
        · next e => simp [e]
        · exact List.mem_append_left _ (q j hj)⟩
    dsimp only
    split
    · exact ⟨by simp [State.pulseStarted], fun hl => (g hl).pulseStarted _⟩
    · exact ⟨by simp, fun hl => g hl⟩

/-- Grants that fit in the free slots. -/
theorem State.grants_act (l : List Outlet) (t : State) (hl : t.slots.length + l.length ≤ Config.coilSlots) :
    Acts t (l.foldl State.grant t) := by
  induction l generalizing t with
  | nil => exact Acts.refl _
  | cons k l ih =>
    simp only [List.length_cons] at hl
    have := (t.grant_acts k).1
    exact ((t.grant_acts k).2 (by omega)).trans (ih (t.grant k) (by omega))

theorem Acts.grantRound (h : Acts s t) : Acts s t.grantRound := by
  refine Acts.foldl (fun u k => (Acts.refl u).slip k) _ (h.trans ?_)
  by_cases hfree : t.freeSlots = 0
  · rw [hfree, List.take_zero]; exact Acts.refl _
  · refine State.grants_act _ _ ?_
    have : (t.requests.take t.freeSlots).length ≤ t.freeSlots := List.length_take_le _ _
    unfold State.freeSlots at *
    omega

theorem Acts.arbitrate (h : Acts s t) : Acts s t.arbitrate :=
  (Acts.foldl (fun u k => (Acts.refl u).meetPhase k) _ h).grantRound

theorem Acts.requestTurn (h : Acts s t) (k : Outlet) : Acts s (t.requestTurn k) := by
  unfold State.requestTurn
  dsimp only
  split
  · split
    · next hfree =>
      refine (h.meetPhase k).trans (((t.meetPhase k).grant_acts k).2 ?_)
      unfold State.freeSlots at hfree
      omega
    · exact (h.meetPhase k).slip k
  · exact h.meetPhase k

/-! ### Branch Protection -/

theorem Acts.formSum (h : Acts s t) (b : Branch) : Acts s (t.formSum b) := h.setProtection _ _

theorem Acts.addVictim (h : Acts s t) (b : Branch) (k : Outlet) : Acts s (t.addVictim b k) := h.setProtection _ _

theorem Acts.dropVictim (h : Acts s t) (b : Branch) (k : Outlet) : Acts s (t.dropVictim b k) := h.setProtection _ _

theorem Acts.preemptQuietly (h : Acts s t) (k : Outlet) (e : Entry) : Acts s (t.preemptQuietly k e) :=
  Acts.ite ((h.giveUp _).complete _ _ _) (h.complete _ _ _)

theorem Acts.shedOpen (h : Acts s t) (b : Branch) (k : Outlet) (m : UrgentMode) : Acts s (t.shedOpen b k m) := by
  unfold State.shedOpen
  split
  · exact (h.addVictim _ _).urgentOpen _ _
  · split
    · exact h
    · exact Acts.ite h ((h.addVictim _ _).preemptQuietly _ _)

theorem Acts.shedTripped (h : Acts s t) (k : Outlet) (m : UrgentMode) : Acts s (t.shedTripped k m) := by
  unfold State.shedTripped
  split
  · exact h
  · exact Acts.ite (Acts.ite (h.preemptEntry _) (h.urgentOpen _ _)) (Acts.ite h (h.preemptQuietly _ _))

theorem Acts.shedKeep (h : Acts s t) (k : Outlet) : Acts s (t.shedKeep k) := by
  unfold State.shedKeep
  split
  · exact h
  · exact Acts.ite (h.withdrawClose _) h

theorem Acts.shedOutlet (h : Acts s t) (b : Branch) (k : Outlet) : Acts s (State.shedOutlet b t k) := by
  unfold State.shedOutlet
  split
  · exact h.shedKeep _
  · exact Acts.ite (h.shedTripped _ _) (h.shedOpen _ _ _)
  · exact Acts.ite (h.shedTripped _ _) (h.shedOpen _ _ _)

theorem Acts.undoRestore (h : Acts s t) (b : Branch) (k : Outlet) : Acts s (State.undoRestore b t k) := by
  unfold State.undoRestore
  split
  · exact h
  · exact Acts.ite ((h.addVictim _ _).complete _ _ _) h

theorem Acts.shedBranch (h : Acts s t) (b : Branch) : Acts s (t.shedBranch b) := by
  have h1 := h.setProtection b { t.protection b with state := .shed, restartTimer := 0 }
  unfold State.shedBranch
  dsimp only
  exact (Acts.foldl (fun u k => (Acts.refl u).shedOutlet b k) _
    (Acts.ite (Acts.foldl (fun u k => (Acts.refl u).undoRestore b k) _ h1) h1)).testHead _

theorem Acts.enterShed (h : Acts s t) (b : Branch) (c : Cause) : Acts s (t.enterShed b c) := (h.shedBranch _).post _ _

theorem Acts.autoRestart (h : Acts s t) (b : Branch) : Acts s (t.autoRestart b) := Acts.ite (h.setProtection _ _) h

theorem Acts.activate (h : Acts s t) (b : Branch) (c : Cause) : Acts s (t.activate b c) :=
  Acts.ite (h.setProtection _ _) ((h.setProtection _ _).enterShed _ _)

theorem Acts.deactivate (h : Acts s t) (b : Branch) (c : Cause) : Acts s (t.deactivate b c) :=
  (h.setProtection _ _).autoRestart _

theorem Acts.overcurrentStage (h : Acts s t) (b : Branch) : Acts s (t.overcurrentStage b) :=
  Acts.ite (h.activate _ _) (Acts.ite (h.deactivate _ _) h)

theorem Acts.breakerTurn (h : Acts s t) (b : Branch) : Acts s (t.breakerTurn b) := by
  unfold State.breakerTurn
  split
  · exact Acts.ite h (h.activate _ _)
  · exact Acts.ite (h.deactivate _ _) h
  · exact h

theorem Acts.tripOutlet (h : Acts s t) (k : Outlet) : Acts s (t.tripOutlet k) :=
  (((h.urgentOpen _ _).setTripped _ _).post _ _).setTripRun _ _

theorem Acts.tripTest (h : Acts s t) (k : Outlet) : Acts s (t.tripTest k) :=
  Acts.ite ((h.setTripRun _ _).tripOutlet _) (h.setTripRun _ _)

theorem Acts.afterSum (h : Acts s t) (b : Branch) : Acts s (t.afterSum b) :=
  (Acts.foldl (fun u k => (Acts.refl u).tripTest k) _ (h.overcurrentStage _)).sequencerStage _

theorem Acts.enterNormal (h : Acts s t) (b : Branch) (o : RestoreOrigin) : Acts s (t.enterNormal b o) :=
  ((h.setProtection _ _).post _ _).testHead _

theorem Acts.settleRestoring (h : Acts s t) (b : Branch) : Acts s (t.settleRestoring b) :=
  Acts.ite (h.enterNormal _ _) h

theorem Acts.skipVictim (h : Acts s t) (b : Branch) (k : Outlet) (x : Option Link) : Acts s (t.skipVictim b k x) :=
  (h.dropVictim _ _).post _ _

theorem Acts.restoreVictim (h : Acts s t) (b : Branch) (k : Outlet) {u : State}
    (hu : t.restoreVictim b k = some u) : Acts s u := by
  unfold State.restoreVictim at hu
  split at hu
  · cases hu; exact h.skipVictim _ _ _
  · split at hu
    · cases hu; exact h.skipVictim _ _ _
    · split at hu
      · cases hu; exact h.dropVictim _ _
      · next hnone =>
        split at hu
        · next hroom =>
          cases hu
          exact ((h.dropVictim b k).noteReturn _).place k _ _ _ _ _ hroom fun _ =>
            (Option.not_isSome_iff_eq_none.mp hnone : t.entryOf k = none)
        · cases hu

theorem Acts.returnOver {visit : State → Outlet → State} (hv : ∀ u k, Acts u (visit u k)) (h : Acts s t) (b : Branch)
    (ks : List Outlet) (going : Bool) : Acts s (returnOver visit b ks going t) := by
  induction ks generalizing t going with
  | nil => exact h
  | cons k ks ih =>
    have g := h.trans (hv t k)
    unfold Machine.returnOver
    split
    · split
      · next u hu => exact ih (g.restoreVictim _ _ hu) _
      · exact ih g _
    · exact ih g _

theorem Acts.passWith {visit : State → Outlet → State} (hv : ∀ u k, Acts u (visit u k)) (h : Acts s t) (b : Branch) :
    Acts s (t.passWith visit b) := Acts.returnOver hv h _ _ _

theorem Acts.restorationPass (h : Acts s t) (b : Branch) : Acts s (t.restorationPass b) :=
  (Acts.passWith (fun u _ => Acts.refl u) h _).settleRestoring _

theorem Acts.beginRestoring (h : Acts s t) (b : Branch) (o : RestoreOrigin) : Acts s (t.beginRestoring b o) :=
  ((h.setProtection _ _).post _ _).testHead _

theorem Acts.enterRestoring (h : Acts s t) (b : Branch) (o : RestoreOrigin) : Acts s (t.enterRestoring b o) :=
  (h.beginRestoring _ _).restorationPass _

theorem Acts.expireWait (h : Acts s t) (b : Branch) : Acts s (t.expireWait b) :=
  Acts.ite ((h.setProtection _ _).beginRestoring _ _) (((h.setProtection _ _).shedBranch _).post _ _)

theorem Acts.restartTurn (h : Acts s t) (b : Branch) : Acts s (t.restartTurn b) :=
  Acts.ite ((h.expireWait _).restorationPass _) h

theorem Acts.offHoldOf (h : Acts s t) (b : Branch) (k : Outlet) : Acts s (State.offHoldOf b t k) :=
  Acts.ite (h.offHoldTurn _) h

theorem Acts.returnsTurn (h : Acts s t) (b : Branch) : Acts s (t.returnsTurn b) := by
  have h1 : Acts s (if t.waitOver b then t.expireWait b else t) := Acts.ite (h.expireWait b) h
  exact Acts.passWith (fun u k => (Acts.refl u).offHoldOf b k) h1 b

theorem Acts.withdrawVictim (h : Acts s t) (b : Branch) (k : Outlet) : Acts s (t.withdrawVictim b k) :=
  Acts.ite ((h.dropVictim _ _).settleRestoring _) h

/-! ### Hang Monitor -/

theorem Acts.postHang (h : Acts s t) (k : Outlet) (r : HangReason) : Acts s (t.postHang k r) := h.post _ _

theorem Acts.reportHang (h : Acts s t) (k : Outlet) (r : HangReason) : Acts s (t.reportHang k r) :=
  (h.setMonitor _ _).postHang _ _

theorem Acts.placeCycle (h : Acts s t) (k : Outlet) (hroom : t.hasRoom = true) (hfree : t.entryOf k = none) :
    Acts s (t.placeCycle k) := by
  unfold State.placeCycle
  refine Acts.ite h ?_
  exact (((h.setMonitor _ _).note _).place _ _ _ _ _ _ hroom fun _ => hfree).postHang _ _

theorem Acts.tryPlace (h : Acts s t) (k : Outlet) : Acts s (t.tryPlace k) := by
  unfold State.tryPlace
  split
  · next hc =>
    split
    · exact h.reportHang _ _
    · exact h.placeCycle _ hc.2.2.2 hc.2.2.1
  · exact h

theorem Acts.giveVerdict (h : Acts s t) (k : Outlet) : Acts s (t.giveVerdict k) := by
  unfold State.giveVerdict
  dsimp only
  split
  · exact h.reportHang _ _
  · exact h.reportHang _ _
  · exact Acts.ite (((h.setMonitor _ _).noteTry _).tryPlace _) ((h.setMonitor _ _).post _ _)

theorem Acts.enterSuspect (h : Acts s t) (k : Outlet) : Acts s (t.enterSuspect k) :=
  Acts.ite (h.setMonitor _ _) ((h.setMonitor _ _).post _ _)

theorem Acts.verdictTest (h : Acts s t) (k : Outlet) : Acts s (t.verdictTest k) :=
  Acts.ite (Acts.ite (h.giveVerdict _) (h.enterSuspect _)) h

theorem Acts.silenceRise (h : Acts s t) (k : Outlet) : Acts s (t.silenceRise k) := Acts.ite (h.setMonitor _ _) h

theorem Acts.monitorTurn (h : Acts s t) (k : Outlet) : Acts s (t.monitorTurn k) :=
  Acts.ite ((h.silenceRise _).verdictTest _) (Acts.ite h (h.tryPlace _))

theorem Acts.evidence (h : Acts s t) (k : Outlet) : Acts s (t.evidence k) :=
  Acts.ite h (Acts.ite ((h.setMonitor _ _).giveVerdict _) (h.setMonitor _ _))

/-! ### Requests of the switching side -/

theorem Acts.accepted (h : Acts s t) (k : Outlet) (kind : Kind) : Acts s (t.accepted k kind) := by
  unfold State.accepted
  split
  · exact h.withdrawVictim _ _
  · exact h.setTripped _ _

theorem Acts.switchPlace (h : Acts s t) (x : Link) (k : Outlet) (kind : Kind) (off : Nat) (tag : Option Byte) (m : Bool)
    (hfree : s.EntriesDistinct → t.entryOf k = none) : Acts s (t.switchPlace x k kind off tag m).1 := by
  unfold State.switchPlace
  split
  · next hroom => exact (h.place _ _ _ _ _ _ hroom hfree).accepted _ _
  · exact h

/-- The queue after a completion's own filter, whatever the monitor and the sequencer then do to its entries' phases. -/
theorem State.testHead_outlets (t : State) (b : Branch) :
    (t.testHead b).entries.map (·.outlet) = t.entries.map (·.outlet) := by
  unfold State.testHead
  split
  · rfl
  · split
    · rfl
    · split
      · simp only [State.admitHead, State.handOver, State.setDriver_entries, State.modEntry, State.setEntries_entries,
          State.setSequencer_entries, List.map_map]
        refine List.map_congr_left fun e _ => ?_
        simp only [Function.comp]; split <;> rfl
      · rfl

theorem State.sequencerCompletion_outlets (t : State) (b : Branch) (id : Byte) :
    (t.sequencerCompletion b id).entries.map (·.outlet) = t.entries.map (·.outlet) := by
  unfold State.sequencerCompletion State.endClose State.leaveLine
  split
  · rw [State.testHead_outlets]; rfl
  · split
    · dsimp only; split
      · rw [State.testHead_outlets]; rfl
      · rfl
    · rfl

/-- The outlets with an entry after a completion. -/
theorem State.complete_outlets (t : State) (e : Entry) (r : ActionResult) (d : ResultDetail) :
    (t.complete e r d).entries.map (·.outlet) = (t.entries.filter fun x => x.id != e.id).map (·.outlet) := by
  unfold State.complete
  rw [State.sequencerCompletion_outlets]
  rfl

/-- After its completion an outlet's entry is gone. -/
theorem State.complete_entryOf {t : State} {k : Outlet} {e : Entry} (he : t.entryOf k = some e) (hd : t.EntriesDistinct)
    (r : ActionResult) (d : ResultDetail) : (t.complete e r d).entryOf k = none := by
  have hmem : e ∈ t.entries := List.mem_of_find?_eq_some he
  have hk : e.outlet = k := by simpa using List.find?_some he
  by_contra hne
  obtain ⟨e', he'⟩ := Option.ne_none_iff_exists'.mp hne
  have hk' : e'.outlet = k := by simpa using List.find?_some he'
  have hin : k ∈ (t.complete e r d).entries.map (·.outlet) :=
    List.mem_map.mpr ⟨e', List.mem_of_find?_eq_some he', hk'⟩
  rw [State.complete_outlets] at hin
  obtain ⟨e2, h2, h2k⟩ := List.mem_map.mp hin
  obtain ⟨h2m, h2i⟩ := List.mem_filter.mp h2
  have : e2 = e := List.inj_on_of_nodup_map hd.2 h2m hmem (h2k.trans hk.symm)
  simp [this] at h2i

theorem Acts.switchExisting (h : Acts s t) (x : Link) (k : Outlet) (kind : Kind) (off : Nat) (tag : Option Byte)
    (m : Bool) (e : Entry) (he : t.entryOf k = some e) : Acts s (t.switchExisting x k kind off tag m e).1 := by
  unfold State.switchExisting
  split
  · exact h.accepted _ _
  · split
    · exact (h.complete _ _ _).switchPlace _ _ _ _ _ _ fun q => State.complete_entryOf he (h.distinct q) _ _
    · split
      · exact (h.complete _ _ _).accepted _ _
      · exact h

theorem Acts.switchAction (h : Acts s t) (x : Link) (k : Outlet) (kind : Kind) (off : Nat) (tag : Option Byte)
    (m : Bool) : Acts s (t.switchAction x k kind off tag m).1 := by
  unfold State.switchAction
  split
  · exact h
  · split
    · exact h
    · split
      · exact h
      · split
        · next e he => exact h.switchExisting x k kind off tag m e he
        · next he =>
          split
          · exact h.accepted _ _
          · exact h.switchPlace _ _ _ _ _ _ fun _ => he

theorem Acts.requestSwitch (h : Acts s t) (x : Link) (p : List Byte) : Acts s (requestSwitch x p t).1 := by
  unfold Machine.requestSwitch State.switchFields
  split
  · split
    · exact h.switchAction _ _ _ _ _ _
    · exact h
  · split
    · exact h.switchAction _ _ _ _ _ _
    · exact h
  · exact h

theorem Acts.requestCancel (h : Acts s t) (x : Link) (p : List Byte) : Acts s (requestCancel x p t).1 := by
  unfold Machine.requestCancel State.cancelEntry
  split
  · split
    · exact h
    · split
      · exact h
      · split
        · exact h
        · split
          · exact h.complete _ _ _
          · split
            · exact h.complete _ _ _
            · exact h
  · exact h

theorem Acts.requestHeartbeat (h : Acts s t) (x : Link) (p : List Byte) : Acts s (requestHeartbeat x p t).1 := by
  unfold Machine.requestHeartbeat
  split
  · exact Acts.foldl (fun u k => Acts.ite ((Acts.refl u).heartbeatAt k) (Acts.refl u)) _ h
  · exact h

theorem Acts.requestMonitorReset (h : Acts s t) (x : Link) (p : List Byte) :
    Acts s (requestMonitorReset x p t).1 := by
  unfold Machine.requestMonitorReset
  split
  · split
    · exact h
    · split
      · exact h
      · split
        · exact h
        · exact h.setMonitor _ _
  · exact h

theorem Acts.requestShed (h : Acts s t) (x : Link) (p : List Byte) : Acts s (requestShed x p t).1 := by
  unfold Machine.requestShed
  split
  · split
    · exact h
    · split
      · exact h
      · exact h.activate _ _
  · exact h

theorem Acts.clearRestore (h : Acts s t) (b : Branch) : Acts s (t.clearRestore b) :=
  Acts.ite (h.setProtection _ _) ((h.setProtection _ _).enterRestoring _ _)

theorem Acts.requestShedClear (h : Acts s t) (x : Link) (p : List Byte) : Acts s (requestShedClear x p t).1 := by
  unfold Machine.requestShedClear
  split
  · split
    · split
      · exact h
      · split
        · exact h
        · split
          · exact h.clearRestore _
          · exact (h.setProtection _ _).enterNormal _ _
    · exact h
  · exact h

theorem Acts.reread (h : Acts s t) (k : Outlet) : Acts s (t.reread k) :=
  Acts.ite (Acts.ite ((h.setContact _ _).post _ _) ((h.setContact _ _).post _ _)) (h.setContact _ _)

theorem Acts.clearFault (h : Acts s t) (k : Outlet) : Acts s (t.clearFault k) := by
  have g := h.setDriver k { (t.driver k).idle with fault := none } rfl
  unfold State.clearFault
  exact (g.reread _).firstStep _

theorem Acts.requestFaultClear (h : Acts s t) (x : Link) (p : List Byte) : Acts s (requestFaultClear x p t).1 := by
  unfold Machine.requestFaultClear
  split
  · split
    · exact h
    · split
      · exact h
      · split
        · exact h
        · exact h.clearFault _
  · exact h

end Sys2Proof.Machine
end

