-- ==== Sys2Proof/Laws/Ends.lean ====
section
/-! SUPPORT. The model's own operations at a contact's change, a completion and a step's end, in the words of Safety.lean, so
that a proof about a step's end need not unfold them. -/

namespace Sys2Proof.Machine

/-- The withdrawal of a pending verdict. -/
theorem Monitor.withdraw_eq (m : Monitor) : m.withdraw = m.withdrawn := rfl

/-- A completion at the monitor is R150's table. -/
theorem Monitor.completion_eq (m : Monitor) (kind : Kind) (origin : Origin) (result : ActionResult) (bootGrace : Nat) :
    m.completion kind origin result bootGrace = m.afterEnd kind origin result bootGrace := by
  unfold Monitor.completion Monitor.afterEnd
  cases h : m.state <;> cases kind <;> cases result <;> simp [Monitor.enterGrace, Monitor.closeDone]

/-- An event posted to both links. -/
theorem State.post_eq (s : State) (body : EventBody) (source : EventOrigin) : s.post body source = s.told body source := rfl

/-- A driver that drops its step. -/
theorem State.giveUp_eq (s : State) (k : Outlet) : s.giveUp k = s.driverFree k := rfl

/-- The commanded contact of a direction. -/
theorem Direction.contact_eq (d : Direction) : d.contact = d.target := by cases d <;> rfl

/-- A completion is what it does to the queue, the ports and the monitor, and then the sequencer's part. -/
theorem State.complete_eq (s : State) (e : Entry) (result : ActionResult) (detail : ResultDetail) :
    s.complete e result detail = (s.ended e result detail).sequencerCompletion (s.branchOf e.outlet) e.id := by
  unfold State.complete State.monitorCompletion
  rw [Monitor.completion_eq]
  rfl

/-- The sequencer's part of the completion of an entry that stands in no waiting line of its branch. -/
theorem State.closeEnds_of {s : State} {b : Branch} {id : Byte} (hs : s.resetHeld = false)
    (hline : id ∉ (s.sequencer b).line) : s.CloseEnds b id (s.sequencerCompletion b id) := by
  unfold State.CloseEnds State.sequencerCompletion
  by_cases h : (s.sequencer b).inProgress = some id
  · simp only [h, if_true]
    show Host.Outcome.next (State.running _ _) = _
    unfold State.running
    rw [show (s.setSequencer b _).resetHeld = false from hs]
    rfl
  · simp [h, hline]

/-- A change of contact where the head of the line is no entry of the outlet. -/
theorem State.setContact_eq {s : State} {k : Outlet} {c : Contact}
    (h : ((s.sequencer (s.branchOf k)).line.head?.bind s.entryById).map (·.outlet) ≠ some k) :
    s.setContact k c = s.moved k c := by
  have head : ∀ t : State, t.sequencers = s.sequencers → t.entries = s.entries → t.settings = s.settings →
      t.testHeadOf k = t := by
    intro t hq he hs
    have hb : t.branchOf k = s.branchOf k := by simp [State.branchOf, hs]
    have hl : t.sequencer (s.branchOf k) = s.sequencer (s.branchOf k) := by simp [State.sequencer, hq]
    unfold State.testHeadOf
    rw [hb, hl]
    cases hline : (s.sequencer (s.branchOf k)).line with
    | nil => rfl
    | cons id rest =>
      have : ¬(t.entryById id).map (·.outlet) = some k := by
        simpa [hline, State.entryById, he] using h
      simp [this]
  unfold State.setContact State.moved
  by_cases hc : c = s.contact k
  · subst hc
    simp [Monitor.afterMove, State.setDriver, State.monitor, put_look_self]
  · cases c <;> simp only [hc, Monitor.afterMove, if_false]
    · refine Eq.trans (head _ ?_ ?_ ?_) ?_ <;> try rfl
      rw [if_pos ⟨trivial, fun e => hc e.symm⟩, if_pos ⟨hc, by decide⟩]
      simp only [State.setMonitor, State.rememberLoad, State.setDriver, State.setMeter, State.meter, State.monitor,
        Monitor.withdraw_eq]
      cases (look s.meters k).windowResult <;> rfl
    · simp [State.setDriver, State.monitor, put_look_self]
    · rw [if_neg (by simp), if_pos ⟨hc, by decide⟩]
      rfl

end Sys2Proof.Machine
end

