-- ==== Sys2Proof/Laws/Links.lean ====
section
/-! SUPPORT. What the Link Port's operations do: a request from a ready link, and the outlets' record under a port's update. -/

namespace Sys2Proof.Machine

@[simp] theorem State.setPort_setPort (s : State) (x : Link) (v w : Port) : (s.setPort x v).setPort x w = s.setPort x w := by
  cases x <;> rfl

theorem State.setPort_self (s : State) (x : Link) : s.setPort x (s.port x) = s := by cases x <;> rfl

@[simp] theorem State.setPort_contact (s : State) (x : Link) (v : Port) (k : Outlet) :
    (s.setPort x v).contact k = s.contact k := rfl
@[simp] theorem State.setPort_branchOf (s : State) (x : Link) (v : Port) (k : Outlet) :
    (s.setPort x v).branchOf k = s.branchOf k := rfl
@[simp] theorem State.setPort_feedOf (s : State) (x : Link) (v : Port) (k : Outlet) :
    (s.setPort x v).feedOf k = s.feedOf k := rfl
@[simp] theorem State.setPort_entryOf (s : State) (x : Link) (v : Port) (k : Outlet) :
    (s.setPort x v).entryOf k = s.entryOf k := rfl
@[simp] theorem State.setPort_heldByOther (s : State) (x y : Link) (v : Port) (k : Outlet) :
    (s.setPort x v).heldByOther y k = s.heldByOther y k := rfl
@[simp] theorem State.setPort_hasRoom (s : State) (x : Link) (v : Port) : (s.setPort x v).hasRoom = s.hasRoom := rfl
@[simp] theorem State.setPort_branchShut (s : State) (x : Link) (v : Port) (b : Branch) :
    (s.setPort x v).branchShut b = s.branchShut b := rfl

/-- A request from a ready link is taken in the state whose port has taken the frame, and answered there. -/
theorem State.Ready.request_eq {s : State} {x : Link} (h : s.Ready x) {p : List Byte} (hp : p.length ≤ 32) (code : Byte)
    (take : State → State × Answer) :
    s.request x code p take =
      (take (s.setPort x (s.port x).took)).1.respond x (take (s.setPort x (s.port x).took)).2.status code
        (take (s.setPort x (s.port x).took)).2.payload := by
  have hlen : ¬32 < p.length := by omega
  have he : s.endTransaction x = s := by simp only [State.endTransaction, h.quiet]
  have hr : (s.port x).quiet.refusesCommand code = false := by simp [Port.refusesCommand, Port.quiet, h.latch, h.pendingMark]
  have hv : (s.setPort x { (s.port x).quiet with acked := true }).validFrame x = s.setPort x (s.port x).took := by
    have hp : ((s.setPort x { (s.port x).quiet with acked := true }).port x).presence = .present := by
      rw [State.setPort_port_self]; exact h.present
    unfold State.validFrame
    rw [if_pos hp, State.setPort_port_self, State.setPort_setPort]
    rfl
  have hf : s.request x code p take =
      (s.setPort x { (s.port x).quiet with acked := true }).answered x code take := by
    unfold State.request State.frameTransaction
    simp only [h.running, he, hr, hlen, if_false, Bool.false_eq_true]
  rw [hf, State.answered, hv]

/-- A request that leaves the state that has taken the frame as it is comes to its answer alone. -/
theorem State.answered_alone (s : State) (x : Link) (st : Status) (code : Byte) (payload : List Byte) :
    (s.setPort x (s.port x).took).respond x st code payload = s.answeredOnly x st code payload := by
  simp only [State.respond, State.answeredOnly, Port.after, State.setPort_port_self, State.setPort_setPort,
    State.setPort_generation]

/-- A request that answers without a change, from a ready link. -/
theorem State.Ready.request_alone {s : State} {x : Link} (h : s.Ready x) {p : List Byte} (hp : p.length ≤ 32) {code : Byte}
    {take : State → State × Answer} {st : Status} {payload : List Byte}
    (ht : take (s.setPort x (s.port x).took) = (s.setPort x (s.port x).took, { status := st, payload := payload })) :
    s.request x code p take = s.answeredOnly x st code payload := by
  rw [h.request_eq hp, ht]; exact State.answered_alone ..

/-! ### The numbers of a payload -/

theorem outletFrom_of {n : Byte} {k : Outlet} (h : n.toNat = k.val) : outletFrom n = some k := by
  have : n.toNat < 24 := by omega
  simp only [outletFrom, this, dite_true, Option.some.injEq]; exact Fin.ext h

theorem outletFrom_none {n : Byte} (h : 23 < n.toNat) : outletFrom n = none := dif_neg (by omega)

theorem branchFrom_of {n : Byte} {b : Branch} (h : n.toNat = b.val) : branchFrom n = some b := by
  have : n.toNat < 6 := by omega
  simp only [branchFrom, this, dite_true, Option.some.injEq]; exact Fin.ext h

theorem branchFrom_none {n : Byte} (h : 5 < n.toNat) : branchFrom n = none := dif_neg (by omega)

theorem feedFrom_of {n : Byte} {f : Feed} (h : n.toNat = f.val) : feedFrom n = some f := by
  have : n.toNat < 3 := by omega
  simp only [feedFrom, this, dite_true, Option.some.injEq]; exact Fin.ext h

theorem feedFrom_none {n : Byte} (h : 2 < n.toNat) : feedFrom n = none := dif_neg (by omega)

/-! ### The acts of the blocks in the terms of the statements -/

/-- What `Acts` says of everything that no act changes. -/
theorem Acts.sameOutside {s t : State} (h : Acts s t) : s.SameOutside t := by
  have f := h.fixed
  simp only [State.fixed, Fixed.mk.injEq] at f
  obtain ⟨h1, h2, h3, h4, h5, h6, h7, h8, h9, h10, h11, h12, h13, h14, h15, h16, h17⟩ := f
  exact ⟨h1, ⟨h2, h3, h4, h5⟩, ⟨h6, h7, h8⟩, ⟨h9, h10⟩, h11, ⟨h12, h13, h14⟩, ⟨h15, h16⟩, h17⟩

/-- The acts of the blocks change the ports by offering events alone. -/
theorem Acts.only {s t : State} (h : Acts s t) : s.ActsOnly t := ⟨h.sameOutside, h.ports⟩

end Sys2Proof.Machine
end

