-- ==== Sys2Proof/Tests/Slice0.lean ====
section
/-! SUPPORT. Small tests: the checks of WellFormed, the figures the spec works out, and for every statement with hypotheses a
state and operands that meet them, each clause at a boundary of its range. -/

namespace Sys2Proof.Tests

/- One theorem at a time: each kernel evaluation on a thread of its own takes more stack than the sandbox has. -/
set_option Elab.async false

open Sys2Proof.Machine

/-! ### Helpers -/

/-- The state that a command leads to. -/
def after (c : Instr) (s : State) : State :=
  match exec c s with
  | .next t => t
  | _ => s

/-- A state with both links PRESENT. -/
def State.linked (s : State) : State :=
  { s with ports := ⟨{ s.port .a with presence := .present }, { s.port .b with presence := .present }⟩ }

/-- The part after a power-on reset with both links PRESENT. -/
def live : State := State.linked State.reset

/-- An order of an arrival that names no turn first. -/
def plainOrder : ArrivalOrder :=
  { first := [] }

/-- A sample set with the voltage code `v` on every feed, no current, inactive sense lines and closed breakers. -/
def setOf (v : BitVec 16) : SampleSet :=
  { volts := fill 3 v, amps := fill 24 0, sense := fill 24 false, breaker := fill 6 false, sclLow := ⟨false, false⟩ }

/-- An entry of link A. -/
def entry (id : Byte) (k : Outlet) (kind : Kind) (phase : Phase) (begun : Bool) : Entry :=
  { id := id, outlet := k, kind := kind, origin := .linkA, sweep := false, tag := none, offTime := 5, phase := phase,
    offHold := 0, preempt := false, begun := begun }

/-- A step in hand on feed 0. -/
def stepOf (direction : Direction) (source : StepSource) : Step :=
  { direction := direction, source := source, feed := 0, sync := true, delay := 40, pulse := 80, retry := 0,
    metRising := false, metFalling := false, feedLeft := false }

/-- A state with outlet `k`'s driver changed. -/
def onDriver (k : Outlet) (f : Driver → Driver) (s : State) : State := s.setDriver k (f (s.driver k))

/-- A state with outlet `k`'s contact set. -/
def onContact (k : Outlet) (c : Contact) : State → State := onDriver k fun d => { d with contact := c }

/-- A state with branch `b`'s protection changed. -/
def onBranch (b : Branch) (f : Protection → Protection) (s : State) : State := s.setProtection b (f (s.protection b))

/-- A state with outlet `k`'s monitor changed. -/
def onMonitor (k : Outlet) (f : Monitor → Monitor) (s : State) : State := s.setMonitor k (f (s.monitor k))

/-- A state with feed `f`'s tracker changed. -/
def onTracker (f : Feed) (g : Tracker → Tracker) (s : State) : State := s.setTracker f (g (s.tracker f))

/-- A state with link `x`'s port changed. -/
def onPort (x : Link) (f : Port → Port) (s : State) : State := s.setPort x (f (s.port x))

/-- A meter's open cycle at its close. -/
def metered (k : Outlet) (sp : Int) (si : Nat) (skip : Bool) (s : State) : State :=
  s.setMeter k { Meter.initial with sp := sp, si := si, skip := skip }

/-- Feed 0 in TRACKING with its detector armed and `n` samples in its open cycle. -/
def armedAt (n sv : Nat) (t : Tracker) : Tracker :=
  { t with state := .tracking, armed := true, prevV := -900, tp := 128, phase := n - 1,
           cyc := { n := n, sv := sv, clip := false, began := .crossing } }

/-- The cycles of chapter 3 at their close: the loads of outlets 5, 6 and 7, and a skipped cycle of outlet 4. -/
def reference : State :=
  metered 4 3472883712 536870912 true (metered 5 3472883712 536870912 false (metered 6 (-1884160000) 128000000 false
    (metered 7 28262400 28800 false (onTracker 0 (armedAt 128 27734835200) live))))

/-- The checks of `State.Ready` give it. -/
theorem ready_of {s : State} {x : Link}
    (h : s.resetHeld = false ∧ (s.port x).trans = .none ∧ (s.port x).latch = false ∧ (s.port x).pendingMark = false ∧
      (s.port x).presence = .present) : s.Ready x := ⟨h.1, h.2.1, h.2.2.1, h.2.2.2.1, h.2.2.2.2⟩

/-- The checks of `State.LinesLive`, the close in progress taken as a list, give it. -/
theorem lines_of {s : State} (h : ∀ b, (s.sequencer b).line.Nodup ∧
    (∀ id, id ∈ (s.sequencer b).line →
      ∃ e, e ∈ s.entries ∧ e.id = id ∧ e.phase = .waitAdmit ∧ s.branchOf e.outlet = b) ∧
    ∀ id, id ∈ (s.sequencer b).inProgress.toList →
      ∃ e, e ∈ s.entries ∧ e.id = id ∧ e.phase = .closing ∧ s.branchOf e.outlet = b) : s.LinesLive :=
  fun b => ⟨(h b).1, (h b).2.1, fun id hid => (h b).2.2 id (by rw [hid]; exact List.mem_singleton.2 rfl)⟩

/-- Distinctness read from the two lists. -/
theorem distinct_of {s : State} (h : (s.entries.map (·.id)).Nodup ∧ (s.entries.map (·.outlet)).Nodup) :
    s.EntriesDistinct := h

/-! ### The checks of WellFormed -/

theorem test_wf_payload_too_long : (Instr.status .a (List.replicate 33 0)).wf = false ∧
    (Instr.status .a (List.replicate 32 0)).wf = true := by decide

theorem test_wf_bad_command : (Instr.badCommand .a 0x01 [0]).wf = false ∧ (Instr.badCommand .a 0x08 [0]).wf = true ∧
    (Instr.badCommand .a 0x08 (List.replicate 33 0)).wf = false := by decide

theorem test_wf_bad_frame : (Instr.badFrame .a []).wf = false ∧ (Instr.badFrame .a [0x01, 0x01, 0x00, 0x7E]).wf = false ∧
    (Instr.badFrame .a [0x01, 0x01, 0x00, 0x7F]).wf = true := by decide +kernel

theorem test_wf_turn_named_twice :
    (Instr.sampleArrival (setOf 0) { plainOrder with first := [.sweep .a, .stall .b, .sweep .a] }).wf = false ∧
      (Instr.sampleArrival (setOf 0) { plainOrder with first := [.sweep .a, .stall .b] }).wf = true := by decide

/-! ### The spec's worked figures -/

/-- The seven lines of the table of section 1.2. -/
theorem test_worked_corrections :
    (corrected 14000 20 17203, clipIndication 14000 20 17203) = (14679, false) ∧
      (corrected 32767 (-100) 19661, clipIndication 32767 (-100) 19661) = (32767, true) ∧
      (corrected (-32000) 0 16896, clipIndication (-32000) 0 16896) = (-32767, true) ∧
      (corrected 1 0 8192, clipIndication 1 0 8192) = (1, false) ∧
      (corrected (-1) 0 8192, clipIndication (-1) 0 8192) = (0, false) ∧
      (corrected (-3) 0 8192, clipIndication (-3) 0 8192) = (-1, false) ∧
      (corrected (-32768) 0 16384, clipIndication (-32768) 0 16384) = (-32767, true) := by decide

/-- Section 1.4: the 64th differing arrival changes the level, and a return restarts the count. -/
theorem test_worked_breaker :
    let closed := fun run => ({ level := some .closed, run := run } : Breaker)
    (closed 0).next true = closed 1 ∧ (closed 1).next false = closed 0 ∧ (closed 62).next true = closed 63 ∧
      (closed 63).next true = { level := some .opened, run := 0 } := by decide

/-- Section 2.1: the two crossing timestamps at sample 20,128. -/
theorem test_worked_crossings : crossingStamp 20128 (-9) 0 = 5152768 ∧ crossingStamp 20128 (-300) 900 = 5152576 := by decide

/-- Chapter 3, worked cycles: the reference cycle. -/
theorem test_reference_cycle :
    ((after (.sampleArrival (setOf 0) plainOrder) reference).meter 5).cycleResult =
      some { pmW := 414000, imA := 2000, smVA := 460000, pf := 900, n := 128, clip := false, noLoad := false,
             synthetic := false, stamp := { seconds := 0, sub := 1 } } := by decide +kernel

/-- Chapter 3, worked cycles: the reversed heater, PF by case 3, and the standby load, PF by case 1. -/
theorem test_heater_and_standby :
    (((after (.sampleArrival (setOf 0) plainOrder) reference).meter 6).cycleResult.map fun r =>
        (r.pmW, r.imA, r.smVA, r.pf)) = some (-224609, 976, 224480, -1000) ∧
      (((after (.sampleArrival (setOf 0) plainOrder) reference).meter 7).cycleResult.map fun r =>
        (r.pmW, r.imA, r.smVA, r.pf, r.noLoad)) = some (3369, 14, 3220, 0, true) := by decide +kernel

/-- Chapter 3, worked cycles: a current on a dead feed, and the tie of P. -/
theorem test_dead_feed_and_tie : imaOf 172800 192 = 29 ∧ noLoadOf 20 29 0 = true ∧ pmwOf (-524288) 128 = -63 ∧
    pmwOf 524288 128 = 63 ∧ pmwOf (-524287) 128 = -62 := by decide

/-- Chapter 4, worked energy: the carry at cycle 522, the mWh after cycle 521, and the count at its limit. -/
theorem test_worked_energy :
    (({ Energy.zero with importRem := 1809372413952 } : Energy).add 3472883712) =
        { Energy.zero with importWh := 1, importRem := 905969664 } ∧
      mwhOf 1809372413952 = 998 ∧
      (({ Energy.zero with importWh := 1099511627775, importRem := 1811000000000 } : Energy).add 3472883712) =
        { Energy.zero with importWh := 1099511627775, importRem := 2533555712 } := by decide

/-- Chapter 7, worked timing: delay 40 at Tp 128 has the fire phases 88 and 24. -/
theorem test_fire_phases : risingFire 128 40 = 88 ∧ fallingFire 128 40 = 24 := by decide

/-- R167: the STATUS frame of the worked exchange has the CRC 0x7E. -/
theorem test_status_frame : frameOf 0x01 [0x00] = [0x01, 0x01, 0x00, 0x7E] := by decide +kernel

/-- Chapter 4, worked snapshots, steps 3 and 7: sequence numbers 1 and 2, and the mWh 500 of outlet 5. -/
theorem test_worked_snapshot :
    let s := live.setEnergy 5 { Energy.zero with importWh := 11, importRem := 905969664000 }
    let t := after (.snapshot .a []) s
    (t.port .a).response.payload.take 2 = [0, 1] ∧
      (((after (.energyRead .a [1]) t).port .a).response.payload.drop 22).take 7 = [0, 0, 0, 0, 11, 1, 244] ∧
      ((after (.snapshot .a []) t).port .a).response.payload.take 2 = [0, 2] := by decide +kernel

/-! ### Witnesses: the machine as a whole and the arithmetic -/

/-- RESET_N low. -/
def low : State := live.setResetHeld true

theorem test_witness_StepTakesFrontCommand : State.reset.pending = [] := rfl

theorem test_witness_PinResetKeepsAndClears : low.resetHeld = true ∧ live.resetHeld = false ∧
    ((onDriver 3 (fun d => { d with state := .faulted, fault := some .stuckOpen }) low).driver 3).state = .faulted ∧
    ((onDriver 3 (fun d => { d with state := .pulse }) low).driver 3).state = .pulse := by decide +kernel

theorem test_witness_HeldPartTakesNothing : low.resetHeld = true := rfl

theorem test_witness_ArithmeticTermsMeanWhatTheySay :
    (0 < 2 ∧ 2 * |5 - roundedQuotient 5 2 * 2| = 2 ∧ 2 * |-5 - roundedQuotient (-5) 2 * 2| = 2) ∧ (-1 : Int) ≤ 1 ∧
      ((255 : BitVec 8).toNat = 2 ^ 8 - 1 ∧ (254 : BitVec 8).toNat < 2 ^ 8 - 1) ∧ 254 < 255 := by decide

theorem test_witness_EnergyAddCarriesWhole :
    let full : Energy := { importWh := Config.whMax, importRem := Config.whRaw - 1, exportWh := Config.whMax, exportRem := 0 }
    let free : Energy := { full with importWh := Config.whMax - 1, exportWh := 0 }
    (∀ sp : Int, sp ∈ [1, -1, 0] → sp.natAbs < Config.whRaw) ∧
      (∀ e : Energy, e ∈ [full, free] → e.importRem < Config.whRaw ∧ e.exportRem < Config.whRaw ∧ e.importWh ≤ Config.whMax ∧
        e.exportWh ≤ Config.whMax) ∧
      full.importWh = Config.whMax ∧ free.importWh < Config.whMax ∧ full.exportWh = Config.whMax ∧
      free.exportWh < Config.whMax := by decide +kernel

/-! ### Witnesses: sample arrivals -/

/-- The last arrival but one of a second. -/
def secondsEnd : State := live.setClock 4294967295 7 7679

/-- R4 and R14: an arrival while RESET_N is low moves the counters and leaves the timestamp of the last one handled. -/
theorem test_discarded_arrival_keeps_timestamp :
    let t := after (.sampleArrival (setOf 0) plainOrder) ((secondsEnd.setResetHeld true).setStamp ⟨7, 7678⟩)
    t.stamp = ⟨7, 7678⟩ ∧ t.subSecond = 0 ∧ (after (.sampleArrival (setOf 0) plainOrder) secondsEnd).stamp = ⟨8, 0⟩ := by
  decide +kernel

theorem test_witness_ArrivalAdvancesCounters : secondsEnd.subSecond < 7680 ∧ secondsEnd.subSecond + 1 = 7680 ∧
    live.subSecond + 1 < 7680 ∧ (secondsEnd.setResetHeld true).subSecond + 1 = 7680 := by decide +kernel

/-- Breaker 0 is shown closed as it stands; breakers 1 and 2 stand open at the runs 62 and 63; breaker 3 is not established. -/
def breakers : State :=
  ((live.setBreaker 0 { level := some .closed, run := 5 }).setBreaker 1 { level := some .opened, run := 62 }).setBreaker 2
    { level := some .opened, run := 63 }

theorem test_witness_ArrivalUpdatesInputs : breakers.resetHeld = false ∧ look (setOf 0).breaker 0 = false ∧
    (breakers.breaker 0).level = some .closed ∧ (breakers.breaker 3).level = none ∧
    (breakers.breaker 1).level = some .opened ∧ BreakerLevel.opened ≠ .closed ∧ (breakers.breaker 1).run + 1 < 64 ∧
    64 ≤ (breakers.breaker 2).run + 1 := by decide +kernel

theorem test_witness_ArrivalRunsTrackers : reference.resetHeld = false := rfl

theorem test_witness_TrackerPassClosesCycles :
    let t := fun n armed => ({ Tracker.initial with armed := armed, cyc := { OpenCycle.empty .crossing with n := n } } : Tracker)
    ((t 112 true).armed = true ∧ (0 : Int) ≤ 0 ∧ 112 ≤ (t 112 true).cyc.n) ∧ (t 112 false).armed = false ∧
      (¬((t 111 true).armed = true ∧ (0 : Int) ≤ 0 ∧ 112 ≤ (t 111 true).cyc.n) ∧ (t 111 true).cyc.n + 1 < 192) ∧
      (¬((t 191 false).armed = true ∧ (0 : Int) ≤ 0 ∧ 112 ≤ (t 191 false).cyc.n) ∧ 192 ≤ (t 191 false).cyc.n + 1) ∧
      (¬((t 191 true).armed = true ∧ (0 : Int) ≤ -1 ∧ 112 ≤ (t 191 true).cyc.n) ∧ 192 ≤ (t 191 true).cyc.n + 1) := by
  decide

theorem test_witness_TrackerPassClosesCycles_state_window_and_capture :
    let t := fun state acquired n count skip anchor inRange => ({ Tracker.initial with
      state := state, acquired := acquired, cyc := { OpenCycle.empty .crossing with n := n }, anchor := anchor,
      inRange := inRange, win := { OpenWindow.empty with count := count, skip := skip } } : Tracker)
    let low := t .acquiring 2 118 30 false (some 7) 2
    let high := t .acquiring 3 171 31 false (some 7) 3
    let off := t .tracking 0 117 0 true none 0
    (low.state = .acquiring ∧ low.cyc.began = .crossing ∧ 118 ≤ low.cyc.n ∧ low.cyc.n ≤ 171 ∧ low.acquired + 1 < 4 ∧
      low.win.skip = false ∧ low.win.count + 1 < 2 ^ 5 ∧ low.anchor = some 7 ∧ low.inRange + 1 < 4) ∧
      (high.state = .acquiring ∧ 118 ≤ high.cyc.n ∧ high.cyc.n ≤ 171 ∧ 4 ≤ high.acquired + 1 ∧ high.win.skip = false ∧
        2 ^ 5 ≤ high.win.count + 1 ∧ high.anchor = some 7 ∧ 4 ≤ high.inRange + 1) ∧
      (off.state = .tracking ∧ off.cyc.began = .crossing ∧ ¬(118 ≤ off.cyc.n ∧ off.cyc.n ≤ 171) ∧ 112 ≤ off.cyc.n ∧
        off.win.skip = true ∧ off.anchor = none) ∧
      Tracker.initial.state = .noLine ∧ (t .lost 0 0 0 false none 0).state = .lost := by decide

/-- Feed 0 with `n` samples in its open cycle, its detector armed, and outlet 5's meter in that cycle. -/
def openAt (n : Nat) : State := metered 5 1000 1000 false (onTracker 0 (armedAt n 1000000) live)

theorem test_witness_CycleCloseFormsResultsAndSums :
    let t := after (.sampleArrival (setOf 0) plainOrder) reference
    let result := fun k => (t.meter k).cycleResult
    reference.resetHeld = false ∧ (∀ f, (reference.tracker f).notice = Notice.quiet) ∧
      (reference.tracker 0).armed = true ∧ 0 ≤ look t.handed.volts 0 ∧
      112 ≤ (reference.tracker 0).cyc.n ∧ (reference.meter 4).skip = true ∧ (reference.meter 5).skip = false ∧
      (result 5).map (fun r => decide (r.noLoad = false ∧ r.pmW.natAbs ≤ r.smVA)) = some true ∧
      (result 6).map (fun r => decide (r.noLoad = false ∧ r.smVA < r.pmW.natAbs)) = some true ∧
      (result 7).map (·.noLoad) = some true := by decide +kernel

theorem test_witness_CycleCloseFormsResultsAndSums_open_and_synthetic :
    let down := setOf (-1)
    (openAt 190).resetHeld = false ∧ (∀ f, ((openAt 190).tracker f).notice = Notice.quiet) ∧
      ¬(0 ≤ look (after (.sampleArrival down plainOrder) (openAt 190)).handed.volts 0) ∧
      ((openAt 190).tracker 0).cyc.n + 1 < 192 ∧
      ¬(0 ≤ look (after (.sampleArrival down plainOrder) (openAt 191)).handed.volts 0) ∧
      192 ≤ ((openAt 191).tracker 0).cyc.n + 1 ∧ ((openAt 191).meter 5).skip = false := by decide +kernel

/-- The cycles of `reference` with `count` cycles in feed 0's window, its skip mark, and outlet 5's meter WAITING or not. -/
def windowAt (count : Nat) (skip waiting : Bool) : State :=
  let s := onTracker 0 (fun t => { t with win := { OpenWindow.empty with count := count, skip := skip } }) reference
  s.setMeter 5 { s.meter 5 with waiting := waiting }

theorem test_witness_CycleCloseFormsResultsAndSums_windows :
    let full := fun s : State => 2 ^ look s.settings.windowExp 0 ≤ (s.tracker 0).win.count + 1
    (¬full (windowAt 30 false false) ∧ full (windowAt 31 false false)) ∧
      (∀ s : State, s ∈ [windowAt 30 false false, windowAt 31 false false, windowAt 30 true false, windowAt 31 false true] →
        s.resetHeld = false ∧ (∀ f, (s.tracker f).notice = Notice.quiet) ∧ (s.meter 5).skip = false ∧
          (s.tracker 0).armed = true ∧ 112 ≤ (s.tracker 0).cyc.n) ∧
      ((windowAt 30 true false).tracker 0).win.skip = true ∧ ((windowAt 31 false true).meter 5).waiting = true := by
  decide +kernel

theorem test_witness_CycleCloseFormsResultsAndSums_sums :
    reference.resetHeld = false ∧ (reference.tracker (reference.branchFeedOf 1)).armed = true ∧
      0 ≤ look (after (.sampleArrival (setOf 0) plainOrder) reference).handed.volts (reference.branchFeedOf 1) ∧
      112 ≤ (reference.tracker (reference.branchFeedOf 1)).cyc.n ∧
      (live.tracker (live.branchFeedOf 1)).armed = false ∧ (live.tracker (live.branchFeedOf 1)).cyc.n + 1 < 192 := by
  decide +kernel

/-- Feed 0's tracker with a notice of a close, of an entry into TRACKING or of its leaving, at an arrival in hand. -/
def noticed (close entered leaving : Bool) (s : State) : State :=
  (onTracker 0 (fun t => { t with notice :=
    { close := if close then some { kind := .crossing, n := 128, window := .addAndClose } else none,
      left := if entered then some .acquiring else if leaving then some .tracking else none,
      enteredTracking := entered, leftTracking := leaving } }) s).setHandling (some { Handling.begun with formed := [1] })

theorem test_witness_ArrivalTakesEveryTurn_counts :
    let verifying := fun skip => onDriver 1 (fun d => { d with state := .verify, skip := skip, observe := 192 }) live
    (verifying 1).resetHeld = false ∧ ((verifying 1).driver 1).state = .verify ∧ ((verifying 1).driver 1).skip ≠ 0 ∧
      ((verifying 0).driver 1).skip = 0 ∧ (live.driver 1).state = .idle ∧
      ((onDriver 1 (fun d => { d with state := .pulse, pulseCount := 1 }) live).driver 1).state = .pulse ∧
      7680 ≤ secondsEnd.subSecond + 1 ∧ ¬7680 ≤ live.subSecond + 1 ∧ (live.driver 1).step = none ∧
      ((onDriver 1 (fun d => { d with step := some (stepOf .close .entry) }) (verifying 1)).driver 1).step =
        some (stepOf .close .entry) := by decide +kernel

/-- R110 and R113: at an arrival whose crossing closes an off-range cycle of feed 0, the feed leaves TRACKING; a waiting step
loses its synchronized mark and asks, and a pulse is marked. -/
theorem test_feed_leaving_reaches_steps :
    let s := fun state => onDriver 1 (fun d =>
        { d with state := state, step := some { stepOf .close .entry with metRising := true }, pulseCount := 9 })
      (onTracker 0 (armedAt 117 0) live)
    let d := fun state => ((s state).takeArrival (setOf 0)).driver 1
    ((d .waitPhase).state = .waitSlot ∧ (d .waitPhase).step = some { stepOf .close .entry with sync := false }) ∧
      ((d .pulse).pulseCount = 8 ∧ (d .pulse).step = some { stepOf .close .entry with feedLeft := true }) := by decide +kernel

/-- R170, R171: SCL low at an arrival that ends the second. -/
theorem test_arrival_counts_links :
    let s := onPort .a (fun p => { p with stall := 230, trans := .write, silence := 254 }) secondsEnd
    let t := s.takeArrival { setOf 0 with sclLow := ⟨true, false⟩ }
    (t.port .a).stall = 231 ∧ (t.port .a).stallDue = true ∧ (t.port .a).silence = 255 ∧ (t.port .b).stall = 0 ∧
      (t.port .b).silence = 1 := by decide +kernel

theorem test_witness_ArrivalTakesEveryTurn_evidence :
    let window : WindowResult := { pmW := 5, imA := 1, smVA := 1, pf := 0, total := 4096, length := 32, clip := false,
                                   noLoad := false, synthetic := false, stamp := ⟨0, 0⟩ }
    let u := fun state => noticed true false false (onMonitor 1 (fun m => { m with state := state, silence := 3840 })
      (onContact 1 .closed ((live.setSettings { live.settings with monWindow := fill 24 1 }).setMeter 1
        { Meter.initial with windowResult := some window })))
    let grown := { (u .suspect).monitor 1 with evidence := 1, spread := some ((5 : Int), (5 : Int)) }
    (u .suspect).resetHeld = false ∧ (u .suspect).handling ≠ none ∧ (u .suspect).formedNow 1 = true ∧
      (u .suspect).formedNow 2 = false ∧ ((u .suspect).monitor 1).state ≠ .off ∧ ((u .off).monitor 1).state = .off ∧
      ((u .suspect).meter 1).windowResult = some window ∧ look (u .suspect).settings.stallBand 1 = 0 ∧
      (grown.evidence ≠ 0 ∧ grown.spread = some ((5 : Int), (5 : Int)) ∧ (5 : Int) - 5 ≤ 0) ∧
      (u .suspect).contact 1 = .closed ∧ (u .suspect).entryOf 1 = none ∧ ((u .suspect).driver 1).fault = none ∧
      look (u .suspect).settings.monWindow 1 * 3840 ≤ ((u .suspect).monitor 1).silence ∧
      ((u .watching).monitor 1).state = .watching := by decide +kernel

theorem test_witness_ArrivalTakesEveryTurn_branches :
    let closing := noticed true false false live
    let exceeded := fun run => onBranch 0 (fun q => { q with overcurrent := true, overRun := run }) closing
    let breaker := fun level cause => (onBranch 0 (fun q => { q with breaker := cause }) live).setBreaker 0
      { level := some level, run := 0 }
    let waiting := fun n => onBranch 5 (fun q => { q with state := .restartWait, restartTimer := n }) live
    closing.resetHeld = false ∧ (closing.tracker (closing.branchFeedOf 0)).notice.close ≠ none ∧
      (live.tracker (live.branchFeedOf 0)).notice.close = none ∧ (closing.protection 0).overcurrent = false ∧
      ((exceeded 1).protection 0).overcurrent = true ∧ ((exceeded 1).protection 0).overRun ≠ 0 ∧
      ((exceeded 0).protection 0).overRun = 0 ∧ closing.branchOf 1 = 0 ∧ 0 < look closing.settings.tripCycles 1 ∧
      (live.breaker 0).level = none ∧ ((breaker .opened false).breaker 0).level = some .opened ∧
      ((breaker .opened false).protection 0).breaker = false ∧ ((breaker .closed true).breaker 0).level = some .closed ∧
      ((breaker .closed true).protection 0).breaker = true ∧ (live.protection 5).state ≠ .restoring ∧
      ¬((live.protection 5).state = .restartWait ∧ (live.protection 5).restartTimer = 0) ∧
      ((waiting 0).protection 5).state ≠ .restoring ∧ ((waiting 0).protection 5).restartTimer = 0 ∧
      (∀ e, e ∈ (waiting 0).entries → (waiting 0).branchOf e.outlet = 5 → e.phase = .offHold → e.offHold ≠ 0) ∧
      ((onBranch 5 (fun q => { q with state := .restoring }) live).protection 5).state = .restoring ∧
      (∃ k, look ((onBranch 5 (fun q => { q with victims := put q.victims 20 true }) live).protection 5).victims k = true) := by
  decide +kernel

theorem test_witness_ArrivalTakesEveryTurn_feeds :
    ((noticed false true false live).tracker 0).notice.left = some .acquiring ∧ FeedState.acquiring ≠ .noLine ∧
      (live.tracker 0).notice.left = none ∧
      ((onTracker 0 (fun t => { t with notice := { Notice.quiet with left := some .noLine } }) live).tracker 0).notice.left =
        some .noLine := by decide +kernel

theorem test_witness_ArrivalTakesEveryTurn_drivers_and_links :
    let entered := noticed false true false live
    let left := fun state => noticed false false true
      (onDriver 1 (fun d => { d with state := state, step := some (stepOf .close .entry) }) live)
    let stalledNow := onPort .a (fun p => { p with stallDue := true, stall := 231, trans := .write }) live
    ((left .waitSlot).driver 1).state = .waitSlot ∧ entered.resetHeld = false ∧ (entered.driver 1).state = .idle ∧
      (entered.tracker (entered.feedOf 1)).notice.enteredTracking = true ∧ entered.contact 1 = .unknown ∧
      ((left .waitPhase).driver 1).step = some (stepOf .close .entry) ∧
      ((left .waitPhase).tracker (stepOf .close .entry).feed).notice.leftTracking = true ∧
      ((left .waitPhase).driver 1).state = .waitPhase ∧ ((left .verify).driver 1).state = .verify ∧
      ((left .pulse).driver 1).state = .pulse ∧ live.subSecond = 0 ∧ secondsEnd.subSecond ≠ 0 ∧
      (live.port .a).stallDue = false ∧ (stalledNow.port .a).stallDue = true ∧ (stalledNow.port .a).stall = 231 ∧
      (stalledNow.port .a).trans ≠ .none := by decide +kernel

/-- Outlet 1's close step at the end of its verify window on feed 0, the close in progress with a pulse made. -/
def closingNow (state : DriverState) (st : Machine.Step) : State :=
  onTracker 0 (fun t => { t with state := .tracking, tp := 128, phase := 40 })
    (onDriver 1 (fun d => { d with state := state, step := some st, activeSeen := true })
      ((live.setEntries [entry 3 1 .closing .closing true]).setSequencer 0
        { Sequencer.initial with inProgress := some 3, pulseMark := true, stagger := 9 }))

theorem test_witness_ArrivalTakesEveryTurn_ends :
    let left := noticed false false true (closingNow .verify (stepOf .close .entry))
    let discovered := fun old phase kind line => (noticed false true false (State.setEntries { live with senseAge := fill 24 old }
      [entry 3 1 kind phase (decide (phase = .waitAdmit))])).setSequencer 0 { Sequencer.initial with line := line }
    (left.EntriesDistinct ∧ left.LinesLive ∧ (discovered 5 .waitAdmit .closing [3]).EntriesDistinct) ∧
      left.resetHeld = false ∧ (left.tracker (stepOf .close .entry).feed).notice.leftTracking = true ∧
      (left.driver 1).state = .verify ∧
      (discovered 5 .waitAdmit .closing [3]).age 1 < 192 ∧
      (discovered 5 .waitAdmit .closing [3]).entryOf 1 = some (entry 3 1 .closing .waitAdmit true) ∧
      ¬(discovered 192 .waitAdmit .closing [3]).age 1 < 192 ∧
      ((((discovered 192 .waitAdmit .closing [3]).sequencer 0).line.head?.bind
        (discovered 192 .waitAdmit .closing [3]).entryById).map (·.outlet)) = some 1 ∧
      (discovered 5 .queued .closing []).entryOf 1 = some (entry 3 1 .closing .queued false) :=
  ⟨⟨distinct_of (by decide +kernel), lines_of (by decide +kernel), distinct_of (by decide +kernel)⟩, by decide +kernel⟩

/-- Outlet 1's verdict waiting at an arrival in hand, its monitor's try made or not. -/
def waitingVerdict (tried : List Outlet) (state : BranchState) : State :=
  onBranch 0 (fun q => { q with state := state }) (onMonitor 1 (fun m =>
    { m with state := .expired, placementPending := true }) (onContact 1 .closed
      (live.setHandling (some { Handling.begun with tried := tried }))))

theorem test_witness_ArrivalTakesEveryTurn_monitors :
    let u := fun tried => waitingVerdict tried .normal
    let watching := onMonitor 1 (fun m => { m with state := .watching, silence := 3839 }) (u [])
    ((u [1]).monitor 1).state ≠ .watching ∧ 1 ∈ ((u [1]).handling.map (·.tried)).getD [] ∧
      1 ∉ ((u []).handling.map (·.tried)).getD [] ∧ 1 ∉ (live.handling.map (·.tried)).getD [] ∧
      (watching.monitor 1).state = .watching ∧ watching.contact 1 = .closed ∧ watching.resetHeld = false := by decide +kernel

/-- R148: a try that check 4 refuses at the verdict's turn is not made again by the monitor's turn of the same arrival, though
the branch has turned NORMAL in between; the next arrival makes it. -/
theorem test_refused_try_waits_for_next_arrival :
    let s := onMonitor 1 (fun m => { m with state := .suspect, silence := 3840 }) ((waitingVerdict [] .shed).setSettings
      { live.settings with monWindow := fill 24 1, monAction := fill 24 .cycle })
    let judged := s.evidence 1
    let normal := onBranch 0 (fun q => { q with state := .normal }) judged
    (judged.monitor 1).state = .expired ∧ (judged.monitor 1).placementPending = true ∧ judged.entries = [] ∧
      normal.turn (.monitor 1) = normal ∧
      (((normal.setHandling (some Handling.begun)).turn (.monitor 1)).entries.map fun e => (e.outlet, e.kind, e.origin)) =
        [(1, .cycle, .monitor)] := by decide +kernel

/-! ### Witnesses: rules of the whole part -/

/-- A sweep of link A over two outlets with the action OPEN. -/
def sweepContext : SweepContext :=
  { start := 0, direction := .up, metric := .contact, relation := .eq, value := 2, action := .opening, offTime := 0,
    stop := .all, clamped := false, cursor := 0, remaining := 2, matched := 0, accepted := 0, refused := 0, last := none,
    suspended := true }

/-- A tracker with its cycle and window at their fullest, its phase and acquisition count at their limits. -/
def fullFeed (t : Tracker) : Tracker :=
  { t with
    phase := 65535
    acquired := 3
    cyc := { OpenCycle.empty .crossing with n := 191, sv := 191 * 1073676289 }
    win := { OpenWindow.empty with count := 31, total := 192 * 31, sv := 192 * 31 * 1073676289 } }

/-- A meter whose sums are at the limits of that cycle and window. -/
def fullMeter : Meter :=
  { Meter.initial with
    sp := -(191 * 1073676289)
    si := 191 * 1073676289
    wsp := -(192 * 31 * 1073676289)
    wsi := 192 * 31 * 1073676289 }

/-- A busy part: two entries, a pulse under way in a slot, an event waiting, holds of both links, a sweep of link A, feed 1's
cycle and window at their fullest with outlet 9's sums and a verdict that waits at it, its runs and counts at their limits. -/
def busy : State :=
  let s1 := (live.setEntries [entry 3 1 .opening .opening true, entry 4 2 .cycle .queued false]).setSlots [1]
  let s2 := onDriver 1 (fun d => { d with state := .pulse, step := some (stepOf .opening .entry), pulseCount := 80,
                                          coil := .reset }) s1
  let s3 := (s2.setHold 7 (some .a)).setHold 8 (some .b)
  let s5 := onTracker 1 fullFeed (s3.setMeter 9 fullMeter)
  let s6 := onMonitor 9 (fun m => { m with state := .expired, placementPending := true, evidence := 255 })
    (onContact 9 .closed (onBranch 2 (fun q => { q with overRun := 255, restartCount := 255 }) (s5.setTripRun 9 255)))
  let s4 := s6.setSweep .a { context := some sweepContext, last := none }
  onPort .b (fun p => p.offer { body := .feedState 0 .acquiring .noLine, source := EventOrigin.nobody, stamp := ⟨1, 2⟩ })
    (onPort .a (fun p => { p with pendingMark := true, silence := 3, badFrames := 1, stall := 230 }) s4)

/-- The busy part with a sample arrival waiting. -/
def busyNext : State := busy.setPending [.sampleArrival (setOf 0) plainOrder]

/-- The step of the busy part takes the arrival. -/
theorem busy_steps : step busyNext = .next (after (.sampleArrival (setOf 0) plainOrder) busy) := by rfl

theorem test_witness_EnergyNeverFalls :
    exec (.sampleArrival (setOf 0) plainOrder) reference = .next (after (.sampleArrival (setOf 0) plainOrder) reference) ∧
      (∀ straps, Instr.sampleArrival (setOf 0) plainOrder ≠ .powerOnReset straps) ∧
      (reference.energyOf 5).importWh ≤ Config.whMax ∧ (reference.energyOf 5).exportWh ≤ Config.whMax := by
  exact ⟨rfl, nofun, by decide +kernel, by decide +kernel⟩

theorem test_witness_SettingsChangeWithGeneration :
    exec (.snapshot .a []) live = .next (after (.snapshot .a []) live) ∧
      (∀ straps, Instr.snapshot .a [] ≠ .powerOnReset straps) ∧ (after (.snapshot .a []) live).generation = live.generation := by
  exact ⟨rfl, nofun, rfl⟩

theorem busy_alerts : busyNext.AlertsFollow := by intro x; cases x <;> decide +kernel

theorem busy_queue : busyNext.QueueFits ∧ busyNext.EntriesDistinct := by
  unfold State.QueueFits State.EntriesDistinct; decide +kernel

theorem busy_slots : busyNext.SlotsFit ∧ busyNext.CoilsSlotted := by
  unfold State.SlotsFit State.CoilsSlotted; decide +kernel

theorem busy_presence : busyNext.HoldsPresent ∧ busyNext.SweepsPending ∧ busyNext.AbsentIsBare := by
  refine ⟨fun k x => ?_, fun x => ?_, fun x => ?_⟩
  · revert k; cases x <;> decide +kernel
  · cases x <;> decide +kernel
  · cases x <;> decide +kernel

theorem busy_settings : busyNext.SettingsInRange := by
  intro t
  cases t <;> simp only [Domain.admits, Setting.domain] <;>
    first | decide +kernel | (rename_i k; revert k; decide +kernel) | (rename_i x; cases x <;> decide +kernel)

theorem busy_counters : busyNext.CountersFit := by
  refine ⟨by decide +kernel, by decide +kernel, by decide +kernel, by decide +kernel, by decide +kernel, by decide +kernel,
    by decide +kernel, by decide +kernel, fun x => ?_⟩
  cases x <;> decide +kernel

theorem busy_sums : busyNext.MeterSumsFit :=
  ⟨by decide +kernel, by decide +kernel, by decide +kernel, by decide +kernel, by decide +kernel, by decide +kernel⟩

theorem busy_verdicts : busyNext.VerdictsWait := by unfold State.VerdictsWait; decide +kernel

theorem busy_hands : busyNext.NothingInHand :=
  ⟨by decide +kernel, by decide +kernel, fun x => by cases x <;> decide +kernel⟩

theorem busy_lines : busyNext.LinesLive := lines_of (by decide +kernel)

theorem test_witness_EveryStepKeeps : step busyNext = .next (after (.sampleArrival (setOf 0) plainOrder) busy) ∧
    busyNext.AlertsFollow ∧ (busyNext.QueueFits ∧ busyNext.EntriesDistinct) ∧
    (busyNext.SlotsFit ∧ busyNext.CoilsSlotted) ∧
    (busyNext.HoldsPresent ∧ busyNext.SweepsPending ∧ busyNext.AbsentIsBare) ∧ busyNext.SettingsInRange ∧
    busyNext.CountersFit ∧ busyNext.MeterSumsFit ∧ busyNext.NothingInHand ∧ busyNext.LinesLive ∧ busyNext.VerdictsWait ∧
    (busyNext.feedOf 9 = 1 ∧ (busyNext.monitor 9).state = .expired ∧ (busyNext.monitor 9).placementPending = true) :=
  ⟨busy_steps, busy_alerts, busy_queue, busy_slots, busy_presence, busy_settings, busy_counters, busy_sums, busy_hands,
    busy_lines, busy_verdicts, by decide +kernel⟩

/-! ### Witnesses: frames and transactions -/

/-- Link A of the part after a reset, PRESENT, is ready. -/
theorem live_ready : live.Ready .a := ready_of (by decide +kernel)

theorem test_witness_FrameDecodesAndChecks : (List.replicate 32 (7 : Byte)).length ≤ 32 ∧ 34 < 32 + 3 ∧ 34 ≠ 1 ∧
    (frameOf 0x55 (List.replicate 32 7))[34]? ≠ some 0 ∧ (frameOf 0x55 (List.replicate 32 7))[0]? ≠ some 0 := by
  decide +kernel

theorem test_witness_ByteTransactionEqualsRequest :
    (Instr.hold .b [1, 2, 3]).request = some (.b, 0x12, [1, 2, 3]) ∧
      (Instr.status .a (List.replicate 32 0)).request = some (.a, 0x01, List.replicate 32 0) ∧
      (List.replicate 32 (0 : Byte)).length ≤ 32 := by decide +kernel

theorem test_witness_BadCommandAndLengthAreAnswered :
    live.Ready .a ∧ (0x08 : Byte) ∉ requestCodes ∧ (List.replicate 32 (0 : Byte)).length ≤ 32 ∧
      (Instr.switch .a [1, 2, 0]).request = some (.a, 0x10, [1, 2, 0]) ∧ [(1 : Byte), 2, 0].length ∉ payloadLengths 0x10 ∧
      [(1 : Byte), 2, 0, 0, 0, 0].length ∉ payloadLengths 0x10 := ⟨live_ready, by decide +kernel⟩

/-- Link A with `n` bad frames counted. -/
def badAt (n : Nat) : State := onPort .a (fun p => { p with badFrames := n }) live

theorem test_witness_BadFrameIsAnsweredAndCounted :
    let t := fun n => after (.badFrame .a [0x01, 0x01, 0x00, 0x7F]) (badAt n)
    (badAt 2).Ready .a ∧ (badAt 3).Ready .a ∧ ((badAt 3).sweepEngine .a).context = none ∧
      parseFrame [0x01, 0x01, 0x00, 0x7F] = none ∧ parseFrame [0x10, 33] = none ∧
      ((t 2).port .a).badFrames < (badAt 2).settings.badLimit.get .a ∧
      (badAt 3).settings.badLimit.get .a ≤ ((t 3).port .a).badFrames :=
  ⟨ready_of (by decide +kernel), ready_of (by decide +kernel), by decide +kernel⟩

theorem test_witness_ReadAndStartTransactions : live.resetHeld = false ∧ (live.port .b).trans = .none ∧ 69 < 70 ∧
    (0x58 : BitVec 7) = live.targetAddress ∧ (0x59 : BitVec 7) ≠ live.targetAddress := by decide +kernel

/-- Link A in a transaction with the frame received so far. -/
def receiving (trans : Transaction) (frame : List Byte) : State :=
  onPort .a (fun p => { p with trans := trans, frame := frame }) live

theorem test_witness_FrameByteIsKeptOrRefused :
    (receiving .write []).resetHeld = false ∧ ((receiving .write []).port .a).trans = .write ∧
      ((receiving .write []).port .a).frame = [] ∧ ((receiving .write [0x10]).port .a).frame = [0x10] ∧
      (32 : Byte).toNat ≤ 32 ∧ 32 < (33 : Byte).toNat ∧ ((receiving .write [0x10]).sweepEngine .a).context = none ∧
      ((receiving .write [0x10]).port .a).badFrames < 255 ∧
      ((receiving .write [0x01, 0x00, 0x15]).port .a).frame = 0x01 :: 0x00 :: [0x15] ∧
      ((receiving .refusing []).port .a).trans = .refusing ∧ ((receiving .read []).port .a).trans = .read ∧
      (live.port .a).trans = .none := by decide +kernel

/-- Link A with a transaction in progress and its stall count, and its presence with the silence timer at its timeout. -/
def stalled (stall : Nat) (presence : Presence) (silence : Nat) : State :=
  onPort .a (fun p => { p with trans := .write, stall := stall, presence := presence, silence := silence }) live

theorem test_witness_StallAndTimeoutActOnTheLink :
    (stalled 231 .present 10).resetHeld = false ∧ ((stalled 231 .present 10).port .a).stall = 231 ∧
      ((stalled 231 .present 10).port .a).trans ≠ .none ∧ ((stalled 231 .present 10).sweepEngine .a).context = none ∧
      ((stalled 231 .present 10).port .a).badFrames < 255 ∧ ((stalled 230 .present 10).port .a).stall < 231 ∧
      ((stalled 231 .present 10).port .a).presence ≠ .absent ∧
      0 < (stalled 231 .present 10).settings.linkTimeout.get .a ∧
      (stalled 231 .present 10).settings.linkTimeout.get .a ≤ ((stalled 231 .present 10).port .a).silence ∧
      ((stalled 231 .degraded 10).port .a).presence = .degraded ∧
      ((stalled 231 .present 9).port .a).silence < (stalled 231 .present 9).settings.linkTimeout.get .a ∧
      ((stalled 0 .absent 0).port .a).presence = .absent := by decide +kernel

theorem test_witness_RefusedCommandOnlySetsLatch :
    let latched := onPort .a (fun p => { p with latch := true }) live
    let pending := onPort .a (fun p => { p with pendingMark := true }) live
    (Instr.sweepAbort .a []).request = some (.a, 0x1C, []) ∧ latched.resetHeld = false ∧ (latched.port .a).trans = .none ∧
      (latched.port .a).latch = true ∧ (Instr.eventsRead .a []).request = some (.a, 0x05, []) ∧
      (pending.port .a).pendingMark = true ∧ (0x05 : Byte) ≠ 0x1C ∧ (pending.port .a).trans = .none := by decide +kernel

theorem test_witness_FirstValidFrameMakesPresent :
    let degraded := onPort .a (fun p => { p with presence := .degraded, badFrames := 4 }) live
    (Instr.snapshot .a []).request = some (.a, 0x15, []) ∧ ([] : List Byte).length ≤ 32 ∧
      State.reset.resetHeld = false ∧ (State.reset.port .a).trans = .none ∧ (State.reset.port .a).latch = false ∧
      (State.reset.port .a).pendingMark = false ∧ (State.reset.port .a).presence ≠ .present ∧
      (degraded.port .a).presence ≠ .present ∧ (degraded.port .a).trans = .none := by decide +kernel

/-! ### Witnesses: reading requests and settings -/

theorem test_witness_ReadsReportAndChangeNothing : live.Ready .a ∧ 1 < (2 : Byte).toNat ∧
    (23 : Byte).toNat = (23 : Outlet).val ∧ 23 < (24 : Byte).toNat ∧ (2 : Byte).toNat = (2 : Feed).val ∧
    2 < (3 : Byte).toNat ∧ (5 : Byte).toNat = (5 : Branch).val ∧ 5 < (6 : Byte).toNat := ⟨live_ready, by decide⟩

theorem test_witness_EventsReadDrainsOldestFirst :
    let s := onPort .a (fun p => p.offer { body := .branchNormal 0 .cleared, source := EventOrigin.nobody, stamp := ⟨0, 0⟩ })
      live
    s.Ready .a ∧ (s.port .a).events ≠ [] ∧ live.Ready .a ∧ (live.port .a).events = [] :=
  ⟨ready_of (by decide +kernel), by decide +kernel, live_ready, by decide +kernel⟩

/-- Link A with a bank. -/
def banked : State := live.setBank .a
  { bank := some { sequence := 1, stamp := ⟨100, 0⟩, copies := fill 24 Energy.zero }, counter := 1 }

theorem test_witness_EnergyReadReturnsPage : live.Ready .a ∧ 5 < (6 : Byte).toNat ∧ (5 : Byte).toNat ≤ 5 ∧
    (live.bankPort .a).bank = none ∧ banked.Ready .a ∧
    (banked.bankPort .a).bank = some { sequence := 1, stamp := ⟨100, 0⟩, copies := fill 24 Energy.zero } ∧
    (20 : Outlet).val = 4 * (5 : Byte).toNat ∧ (21 : Outlet).val = 4 * (5 : Byte).toNat + 1 ∧
    (22 : Outlet).val = 4 * (5 : Byte).toNat + 2 ∧ (23 : Outlet).val = 4 * (5 : Byte).toNat + 3 :=
  ⟨live_ready, by decide, by decide, by decide +kernel, ready_of (by decide +kernel), by decide +kernel, by decide⟩

theorem test_witness_SettingReadReturnsStoredValue : live.Ready .a ∧ settingFrom 0x0A 23 = some (.iGain 23) ∧
    settingFrom 0x0A 24 = none ∧ settingFrom 0x03 0 = none := ⟨live_ready, by decide +kernel⟩

/-- What bars a change of a map setting (R181). -/
abbrev BarsChange (s : State) (t : Setting) : Prop :=
  (∃ k, t = .outletBranch k ∧ s.entryOf k ≠ none) ∨ ∃ b, t = .branchFeed b ∧
    ((s.protection b).state ≠ .normal ∨ ∃ k, s.branchOf k = b ∧ s.entryOf k ≠ none)

/-- Outlet 1's entry bars a change of its branch. -/
def mapped : State := live.setEntries [entry 3 1 .opening .queued false]

theorem test_witness_SettingWriteStoresOrRefuses :
    (live.Ready .a ∧ mapped.Ready .a) ∧ settingFrom 0x03 0 = none ∧ settingFrom 0x11 2 = some (.divider 2) ∧
      (Setting.divider 2).domain = .listed [1, 4, 16] ∧ number4 0 0 0 2 ∉ [1, 4, 16] ∧
      settingFrom 0x20 1 = some (.outletBranch 1) ∧
      (Setting.outletBranch 1).domain = .listed [0, 1, 2, 3, 4, 5] ∧ number4 0 0 0 5 ∈ [0, 1, 2, 3, 4, 5] ∧
      mapped.settings.read (.outletBranch 1) ≠ number4 0 0 0 5 ∧ BarsChange mapped (.outletBranch 1) ∧
      BarsChange mapped (.branchFeed 0) ∧ BarsChange (onBranch 0 (fun q => { q with state := .shed }) live) (.branchFeed 0) ∧
      (Setting.outletBranch 1).domain.fit (number4 0 0 0 0) = some (0, .ok) ∧
      mapped.settings.read (.outletBranch 1) = 0 ∧
      (Setting.noLoad).domain.fit (number4 0 0 3 0xE9) = some (1000, .clamped) ∧
      (Setting.noLoad).domain.fit (number4 0 0 3 0xE8) = some (1000, .ok) ∧ ¬BarsChange live .noLoad ∧
      (Setting.vOffset 0).domain.fit (number4 0xFF 0xFF 0xF7 0xFF) = some (-2048, .clamped) :=
  ⟨⟨live_ready, ready_of (by decide +kernel)⟩, by decide +kernel⟩

theorem test_witness_SettingWriteStoresOrRefuses_effects :
    let shed := onBranch 0 (fun q => { q with state := .shed }) live
    (live.Ready .a ∧ shed.Ready .a) ∧
      (∀ t : Setting × Int, t ∈ [(.windowExp 0, (7 : Int)), (.divider 0, 16), (.branchFeed 0, 2), (.outletBranch 1, 5),
          (.monWindow 1, 255), (.restartEnable 0, 1), (.branchLimit 0, 0), (.stagger 0, 0)] →
        t.1.domain.fit t.2 = some (t.2, .ok) ∧ live.settings.read t.1 ≠ t.2 ∧ ¬BarsChange live t.1) ∧
      (¬BarsChange shed (.outletBranch 1) ∧ (shed.protection (shed.branchOf 1)).state ≠ .normal) ∧
      (shed.protection 0).state = .shed ∧ (shed.protection 0).overcurrent = false ∧ (shed.protection 0).breaker = false ∧
      (shed.protection 0).manual = false ∧ (shed.protection 0).manualMark = false ∧
      (shed.protection 0).exhaustedMark = false ∧ live.settings.read (.windowExp 0) = 5 ∧
      (Setting.windowExp 0).domain.fit 5 = some (5, .ok) :=
  ⟨⟨live_ready, ready_of (by decide +kernel)⟩, by decide +kernel⟩

/-! ### Witnesses: switching requests -/

/-- A state with outlet 1's entry. -/
def withEntry (kind : Kind) (phase : Phase) (begun : Bool) : State := live.setEntries [entry 3 1 kind phase begun]

/-- Sixteen entries of the outlets 0 to 15. -/
def fullQueue : State :=
  live.setEntries ((allOutlets.take 16).map fun k => entry (byteOf k.val) k .opening .queued false)

/-- A busy driver of outlet 0. -/
def busyDriver : State := onDriver 0 (fun d => { d with state := .verify }) fullQueue

theorem test_witness_SwitchPlacesOneEntry :
    let fifteen := onDriver 20 (fun d => { d with state := .verify })
      (onContact 21 .opened (live.setEntries (fullQueue.entries.take 15)))
    fifteen.Ready .a ∧ fifteen.EntriesDistinct ∧ fifteen.LinesLive ∧ fifteen.entries.length < 16 ∧
      (∀ k : Outlet, k ∈ [20, 21, 22] → outletFrom (byteOf k.val) = some k ∧ fifteen.heldByOther .a k = false ∧
        (fifteen.driver k).fault = none ∧ (fifteen.protection (fifteen.branchOf k)).state = .normal ∧
        fifteen.entryOf k = none) ∧
      (kindFrom 0 = some .opening ∧ kindFrom 1 = some .closing ∧ kindFrom 2 = some .cycle) ∧
      (fifteen.driver 20).state ≠ .idle ∧ (fifteen.driver 21).state = .idle ∧ fifteen.contact 21 = .opened ∧
      (fifteen.driver 22).state = .idle ∧ fifteen.contact 22 ≠ .opened ∧ fifteen.contact 22 ≠ .closed ∧
      number2 0 0 = 0 ∧ number2 0 255 = 255 ∧ 255 < number2 1 0 :=
  ⟨ready_of (by decide +kernel), distinct_of (by decide +kernel), lines_of (by decide +kernel), by decide +kernel⟩

/-- Branch 5 with the outlets of a list among its victims. -/
def victimsOf (state : BranchState) (outlets : List Outlet) : State :=
  onBranch 5 (fun q => { q with state := state, manualMark := true, victims := tab24 fun k => outlets.contains k }) live

theorem test_witness_SwitchRequests_victims :
    let branches := [victimsOf .shed [20, 21], victimsOf .restoring [20], victimsOf .restoring [20, 21], victimsOf .shed []]
    (∀ s : State, s ∈ branches → s.Ready .a ∧ s.EntriesDistinct ∧ s.LinesLive ∧ s.branchOf 20 = 5 ∧
      (s.driver 20).fault = none ∧ s.hold 20 ≠ some Link.a.other ∧ s.heldByOther .a 20 = false ∧ s.entryOf 20 = none ∧
      (s.protection (s.branchOf 20)).state ≠ .normal) ∧
      look ((victimsOf .shed [20]).protection 5).victims 20 = true ∧
      look ((victimsOf .shed []).protection 5).victims 20 = false ∧
      (∀ j : Outlet, j ≠ 20 → look ((victimsOf .restoring [20]).protection 5).victims j = false) ∧
      look ((victimsOf .restoring [20, 21]).protection 5).victims 21 = true ∧
      (onContact 20 .opened (victimsOf .shed [20])).contact 20 = .opened ∧
      (victimsOf .shed [20]).contact 20 ≠ .opened := by
  refine ⟨fun s hs => ?_, by decide +kernel⟩
  simp only [List.mem_cons, List.not_mem_nil, or_false] at hs
  rcases hs with rfl | rfl | rfl | rfl <;>
    exact ⟨ready_of (by decide +kernel), distinct_of (by decide +kernel), lines_of (by decide +kernel), by decide +kernel⟩

theorem test_witness_SwitchMeetsExistingEntry_victims :
    ∀ s : State, s ∈ [entry 3 20 .opening .queued false, entry 3 20 .cycle .queued false, entry 3 20 .cycle .offHold true].map
        (fun e => (victimsOf .restoring [20]).setEntries [e]) →
      s.Ready .a ∧ s.EntriesDistinct ∧ outletFrom 20 = some 20 ∧ kindFrom 0 = some .opening ∧ s.heldByOther .a 20 = false ∧
        (s.driver 20).fault = none ∧ s.entries.length ≤ 16 ∧ look (s.protection (s.branchOf 20)).victims 20 = true ∧
        ∃ e, s.entryOf 20 = some e ∧ e.preempt = false := by
  intro s hs
  simp only [List.map_cons, List.map_nil, List.mem_cons, List.not_mem_nil, or_false] at hs
  rcases hs with rfl | rfl | rfl <;>
    exact ⟨ready_of (by decide +kernel), distinct_of (by decide +kernel), by decide +kernel, by decide +kernel,
      by decide +kernel, by decide +kernel, by decide +kernel, by decide +kernel, _, rfl, by decide +kernel⟩

/-- R132 and R136: an OPEN that is ALREADY takes the last victim of a branch in RESTORING, which is then NORMAL. -/
theorem test_already_open_ends_restoration :
    let t := after (.switch .a [20, 0, 0, 0]) (onContact 20 .opened (victimsOf .restoring [20]))
    (t.port .a).response.status = .already ∧ (t.protection 5).state = .normal ∧ (t.protection 5).manualMark = false ∧
      look (t.protection 5).victims 20 = false ∧
      look ((after (.switch .a [20, 0, 0, 0]) (victimsOf .restoring [20, 21])).protection 5).victims 20 = false ∧
      ((after (.switch .a [20, 0, 0, 0]) (victimsOf .restoring [20, 21])).protection 5).state = .restoring := by
  decide +kernel

theorem test_witness_SwitchRefusesInOrder :
    (live.Ready .a ∧ fullQueue.Ready .a) ∧ outletFrom 24 = none ∧ kindFrom 3 = none ∧ outletFrom 23 = some 23 ∧
      kindFrom 1 = some .closing ∧
      (live.setHold 23 (some .b)).hold 23 = some Link.a.other ∧ live.hold 23 ≠ some Link.a.other ∧
      ((onDriver 23 (fun d => { d with state := .faulted, fault := some .stuckOpen }) live).driver 23).fault ≠ none ∧
      ((onBranch 5 (fun q => { q with state := .restoring }) live).protection (live.branchOf 23)).state ≠ .normal ∧
      (live.protection (live.branchOf 23)).state = .normal ∧ (live.driver 23).fault = none ∧ live.entryOf 23 = none ∧
      (onContact 23 .opened live).contact 23 = .opened ∧ (onContact 23 .closed live).contact 23 = .closed ∧
      ((onContact 23 .closed live).driver 23).state = .idle ∧ 16 ≤ fullQueue.entries.length ∧
      fullQueue.entryOf 23 = none ∧ fullQueue.contact 23 ≠ .opened :=
  ⟨⟨live_ready, ready_of (by decide +kernel)⟩, by decide +kernel⟩

theorem test_witness_SwitchMeetsExistingEntry :
    ∀ s : State, s ∈ [withEntry .opening .queued false, withEntry .cycle .offHold true, withEntry .cycle .waitAdmit true,
        withEntry .closing .waitAdmit true] →
      s.Ready .a ∧ s.EntriesDistinct ∧ outletFrom 1 = some 1 ∧ s.heldByOther .a 1 = false ∧ (s.driver 1).fault = none ∧
        (s.protection (s.branchOf 1)).state = .normal ∧ s.entries.length ≤ 16 ∧
        ∃ e, s.entryOf 1 = some e ∧ e.preempt = false ∧
          ((e.kind = .opening ∧ e.begun = false) ∨
            (e.kind = .cycle ∧ e.begun = true ∧ (e.phase = .offHold ∨ e.phase = .waitAdmit)) ∨
            (e.kind = .closing ∧ e.begun = true)) := by
  intro s hs
  simp only [List.mem_cons, List.not_mem_nil, or_false] at hs
  rcases hs with rfl | rfl | rfl | rfl <;>
    exact ⟨ready_of (by decide +kernel), distinct_of (by decide +kernel), by decide +kernel, by decide +kernel,
      by decide +kernel, by decide +kernel, by decide +kernel, _, rfl, by decide +kernel⟩

theorem test_witness_CancelEndsOrRefuses :
    live.Ready .a ∧ (withEntry .closing .queued false).Ready .a ∧ (withEntry .closing .queued false).EntriesDistinct ∧
      23 < (24 : Byte).toNat ∧ (1 : Byte).toNat = (1 : Outlet).val ∧ (live.setHold 1 (some .b)).hold 1 = some Link.a.other ∧
      live.hold 1 ≠ some Link.a.other ∧ live.entryOf 1 = none ∧
      (withEntry .closing .queued false).entryOf 1 = some (entry 3 1 .closing .queued false) ∧
      (entry 3 1 .closing .queued false).begun = false ∧
      (withEntry .cycle .offHold true).entryOf 1 = some (entry 3 1 .cycle .offHold true) ∧
      (withEntry .closing .waitAdmit true).entryOf 1 = some (entry 3 1 .closing .waitAdmit true) ∧
      (entry 3 1 .closing .waitAdmit true).begun = true :=
  ⟨live_ready, ready_of (by decide +kernel), distinct_of (by decide +kernel), by decide +kernel⟩

/-- R80 and R150: a CANCEL of the monitor's own CYCLE in its off hold cuts it and returns the monitor to WATCHING. -/
theorem test_cancel_returns_monitor :
    let s := onMonitor 1 (fun m => { m with state := .expired, silence := 7, retries := 2 })
      (live.setEntries [{ entry 3 1 .cycle .offHold true with origin := .monitor }])
    let t := after (.cancel .a [1]) s
    t.monitor 1 = { s.monitor 1 with state := .watching } ∧ t.entries = [] ∧
      (t.port .b).events.map (·.body) = [.actionEnded 1 3 .cycle .cut .none] := by decide +kernel

theorem test_witness_HoldReservesUnheldOutlets : live.Ready .a := live_ready

theorem test_witness_ReleaseFreesOwnHolds : (live.setHold 0 (some .a)).Ready .a ∧ (live.setHold 0 (some .a)).hold 0 = some .a :=
  ⟨ready_of (by decide +kernel), by decide +kernel⟩

theorem test_witness_HeartbeatAndResetClearMonitors :
    let watched := onMonitor 23 (fun m => { m with state := .watching, silence := 5 }) live
    watched.Ready .a ∧ (watched.monitor 23).state ≠ .off ∧ (live.monitor 23).state = .off ∧ 23 < (24 : Byte).toNat ∧
      (23 : Byte).toNat = (23 : Outlet).val ∧ (watched.setHold 23 (some .b)).hold 23 = some Link.a.other ∧
      watched.hold 23 ≠ some Link.a.other := ⟨ready_of (by decide +kernel), by decide +kernel⟩

theorem test_witness_SnapshotCopiesEveryRegister : live.Ready .a ∧ [(0 : Byte)] ≠ [] ∧ (List.replicate 32 (0 : Byte)).length ≤ 32 :=
  ⟨live_ready, by decide⟩

/-! ### Witnesses: protection requests and sweeps -/

/-- Branch 5 in a state of chapter 8. -/
def branchIn (state : BranchState) (manual exceeded : Bool) : State :=
  onBranch 5 (fun q => { q with state := state, manual := manual, overcurrent := exceeded }) live

theorem test_witness_ShedMakesManualActive :
    live.Ready .a ∧ (branchIn .shed true false).Ready .a ∧ live.EntriesDistinct ∧ 5 < (6 : Byte).toNat ∧
      (5 : Byte).toNat = (5 : Branch).val ∧ ((branchIn .shed true false).protection 5).manual = true ∧
      ((branchIn .shed false true).protection 5).manual = false ∧ ((branchIn .shed false true).protection 5).state = .shed ∧
      (live.protection 5).manual = false ∧ (live.protection 5).state ≠ .shed ∧ (live.protection 5).state ≠ .restoring ∧
      live.branchOf 20 = 5 ∧ look live.settings.shedMode 20 = .openSync ∧ live.isTripped 20 = false ∧
      live.contact 20 ≠ .opened ∧ (live.driver 20).state = .idle ∧
      look { live.settings with shedMode := fill 24 .openNow }.shedMode 20 = .openNow ∧ live.branchOf 19 ≠ 5 ∧
      look { live.settings with shedMode := fill 24 .keep }.shedMode 20 = .keep ∧
      ((onContact 20 .opened live).contact 20 = .opened ∧ (onContact 20 .opened live).entryOf 20 = none) :=
  ⟨live_ready, ready_of (by decide +kernel), distinct_of (by decide +kernel), by decide +kernel⟩

theorem test_witness_ShedClearBringsBranchBack :
    live.Ready .a ∧ (branchIn .restoring true false).Ready .a ∧ 5 < (6 : Byte).toNat ∧ 1 < (2 : Byte).toNat ∧
      (5 : Byte).toNat = (5 : Branch).val ∧ (1 : Byte).toNat ≤ 1 ∧ (live.protection 5).state = .normal ∧
      ((branchIn .shed true true).protection 5).state ≠ .normal ∧ ((branchIn .shed true true).protection 5).overcurrent = true ∧
      (∀ st : BranchState, st ∈ [.shed, .restartWait, .restoring] → ((branchIn st true false).protection 5).state ≠ .normal ∧
        ((branchIn st true false).protection 5).overcurrent = false ∧ ((branchIn st true false).protection 5).breaker = false) :=
  ⟨live_ready, ready_of (by decide +kernel), by decide +kernel⟩

/-- Outlet 23 with a relay fault. -/
def faulted : State := onDriver 23 (fun d => { d with state := .faulted, fault := some .stuckOpen, contact := .opened }) live

/-- That outlet with an OPEN in QUEUED. -/
def faultedQueue : State := faulted.setEntries [entry 3 23 .opening .queued false]

theorem test_witness_FaultClearReReadsContact :
    faulted.Ready .a ∧ live.Ready .a ∧ 23 < (24 : Byte).toNat ∧ (23 : Byte).toNat = (23 : Outlet).val ∧
      (faulted.setHold 23 (some .b)).hold 23 = some Link.a.other ∧ faulted.hold 23 ≠ some Link.a.other ∧
      (live.driver 23).fault = none ∧ (faulted.driver 23).fault ≠ none ∧
      ((faultedQueue.EntriesDistinct ∧ faultedQueue.LinesLive) ∧
        faultedQueue.entryOf 23 = some (entry 3 23 .opening .queued false)) :=
  ⟨ready_of (by decide +kernel), live_ready, by decide, by decide, by decide +kernel, by decide +kernel, by decide +kernel,
    by decide +kernel, ⟨distinct_of (by decide +kernel), lines_of (by decide +kernel)⟩, by decide +kernel⟩

/-- R119 and R50: a fault STUCK_CLOSED cleared on a tracking feed with the sense line inactive re-reads OPEN and sets the
remembered load. -/
theorem test_reread_sets_remembered_load :
    let window : WindowResult := { pmW := 5, imA := 700, smVA := 1, pf := 0, total := 4096, length := 32, clip := false,
                                   noLoad := false, synthetic := false, stamp := ⟨0, 0⟩ }
    let s := onDriver 1 (fun d => { d with state := .faulted, fault := some .stuckClosed, contact := .closed })
      (onTracker 0 (fun t => { t with state := .tracking }) (live.setMeter 1
        { Meter.initial with windowResult := some window, remembered := 9 }))
    let t := after (.faultClear .a [1]) s
    t.contact 1 = .opened ∧ (t.meter 1).remembered = 700 ∧ (t.driver 1).state = .idle ∧
      (t.port .a).events.map (·.body) = [.outletSwitched 1 .opened .reread] := by decide +kernel

/-- The sweep of `sweepContext` under way on link A. -/
def sweeping (c : SweepContext) (s : State) : State := s.setSweep .a { context := some c, last := none }

theorem test_witness_SweepsStartExamineAndEnd :
    live.Ready .a ∧ (sweeping sweepContext live).Ready .a ∧ 23 < (24 : Byte).toNat ∧ 1 < (2 : Byte).toNat ∧
      6 < (7 : Byte).toNat ∧ 3 < (4 : Byte).toNat ∧ (23 : Byte).toNat ≤ 23 ∧ (6 : Byte).toNat ≤ 6 ∧ (3 : Byte).toNat ≤ 3 ∧
      (1 : Byte).toNat ≤ 1 ∧ (live.sweepEngine .a).context = none ∧ (live.sweepEngine .a).last = none ∧
      ((sweeping sweepContext live).sweepEngine .a).context = some sweepContext ∧
      ((live.setSweep .a { context := none, last := some (sweepContext.result .countDone) }).sweepEngine .a).last =
        some (sweepContext.result .countDone) := ⟨live_ready, ready_of (by decide +kernel), by decide +kernel⟩

theorem test_witness_SweepsStartExamineAndEnd_waits :
    live.resetHeld = false ∧ (live.sweepEngine .a).context = none ∧ 16 ≤ fullQueue.entries.length ∧
      ((sweeping sweepContext fullQueue).sweepEngine .a).context = some sweepContext ∧ sweepContext.suspended = true ∧
      { sweepContext with suspended := false }.suspended = false := by decide +kernel

theorem test_witness_SweepsStartExamineAndEnd_examination :
    let fifteen := live.setEntries (fullQueue.entries.take 15)
    let running := { sweepContext with suspended := false }
    (∀ c : SweepContext, c ∈ [sweepContext, running] → ((sweeping c fifteen).sweepEngine .a).context = some c) ∧
      (sweeping sweepContext fifteen).resetHeld = false ∧ fifteen.entries.length < 16 ∧ 1 < sweepContext.remaining ∧
      { sweepContext with remaining := 1 }.remaining ≤ 1 ∧ ((fifteen.contact 0).code : Int) = sweepContext.value ∧
      ((fifteen.contact 0).code : Int) ≠ { sweepContext with value := 1 }.value ∧ sweepContext.action = .opening ∧
      (fifteen.setHold 0 (some .b)).hold 0 = some Link.a.other ∧ fifteen.hold 0 ≠ some Link.a.other ∧
      (fifteen.monitor 0).state = .off ∧
      ((onMonitor 0 (fun m => { m with state := .watching }) fifteen).monitor 0).state ≠ .off ∧
      (sweeping { running with cursor := 20, value := 2 } fullQueue).entries.length = 16 := by decide +kernel

/-- R158 and R159: a sweep DOWN that opens its cursor outlet, whose entry carries the sweep mark and link A's origin. -/
theorem test_sweep_places_and_passes :
    let c := { sweepContext with direction := .down, cursor := 5, suspended := false }
    let t := (sweeping c live).turn (.sweep .a)
    ((t.sweepEngine .a).context.map (·.cursor)) = some 4 ∧
      t.entries.map (fun e => (e.outlet, e.kind, e.sweep, e.tag, e.origin)) = [(5, .opening, true, none, .linkA)] ∧
      (live.switchAction .a 5 .opening 0 none true).2.status = .ok := by decide +kernel

theorem test_witness_LinkResetClearsOwnLink :
    live.Ready .a ∧ (live.setHold 4 (some .a)).Ready .a ∧ (live.setHold 4 (some .a)).hold 4 = some .a :=
  ⟨live_ready, ready_of (by decide +kernel), by decide +kernel⟩

/-! ### Witnesses: happenings inside the part -/

theorem test_witness_SecondTickMovesEveryTimer :
    secondsEnd.resetHeld = false ∧ secondsEnd.subSecond = 7679 ∧ live.subSecond < 7679 := by decide +kernel

/-- Feed 0 with its counts at their limits: 192 samples, 32 cycles in the window and 4 cycles since the anchor. -/
def counted : State :=
  onTracker 0 (fun t => { t with
    cyc := { OpenCycle.empty .crossing with n := 192 }, win := { OpenWindow.empty with count := 32, total := 4096 },
    anchor := some 256, lastCrossing := some 131328, inRange := 4 }) live

theorem test_witness_TrackersCloseAndMeasure :
    counted.resetHeld = false ∧ 192 ≤ (counted.tracker 0).cyc.n ∧ (live.tracker 0).cyc.n < 192 ∧
      (counted.tracker 0).anchor = some 256 ∧ (counted.tracker 0).lastCrossing = some 131328 ∧
      look counted.settings.divider 0 ≤ (counted.tracker 0).inRange ∧
      2 ^ look counted.settings.windowExp 0 ≤ (counted.tracker 0).win.count ∧ counted.feedOf 5 = 0 ∧
      (live.tracker 0).anchor = none ∧ (onTracker 0 (fun t => { t with inRange := 3 }) counted |>.tracker 0).inRange <
        look counted.settings.divider 0 ∧ (live.tracker 0).win.count < 2 ^ look live.settings.windowExp 0 ∧
      (counted.meter 5).waiting = false ∧ counted.feedOf 8 ≠ 0 := by decide +kernel

theorem test_witness_CausesShedTheBranch :
    let opening := (live.setBreaker 2 { level := some .closed, run := 63 }).setHanded
      { live.handed with breaker := fill 6 true }
    let closing := (live.setBreaker 2 { level := some .opened, run := 63 })
    let exceeded := onBranch 2 (fun q => { q with overRun := 30 }) live
    opening.resetHeld = false ∧ (opening.breaker 2).level = some .closed ∧
      (look opening.handed.breaker 2 = true ↔ BreakerLevel.closed = .closed) ∧ 63 ≤ (opening.breaker 2).run ∧
      (opening.protection 2).breaker = false ∧ (closing.breaker 2).level = some .opened ∧
      (look closing.handed.breaker 2 = true ↔ BreakerLevel.opened = .closed) ∧ 63 ≤ (closing.breaker 2).run ∧
      (exceeded.protection 2).overcurrent = false ∧ look exceeded.settings.overCycles 2 ≤ (exceeded.protection 2).overRun ∧
      (live.protection 2).overRun < look live.settings.overCycles 2 ∧ (live.breaker 2).level = none ∧
      (closing.setHanded { live.handed with breaker := fill 6 true }).breaker 2 =
        { level := some (if look (fill 6 true : Vector Bool 6) 2 = true then .opened else .closed), run := 63 } ∧
      ((live.setBreaker 2 { level := some .opened, run := 62 }).breaker 2).run < 63 := by decide +kernel

theorem test_witness_OutletTripOpensNow :
    let s := (live.setSettings { live.settings with tripLevel := fill 24 5000 }).setTripRun 9 6
    s.resetHeld = false ∧ look s.settings.tripLevel 9 ≠ 0 ∧ (s.driver 9).fault = none ∧
      ¬(s.isTripped 9 = true ∧ s.contact 9 = .opened) ∧ look s.settings.tripCycles 9 ≤ s.tripRun 9 ∧
      (s.driver 9).state = .idle ∧ s.contact 9 ≠ .opened ∧ s.entries = [] ∧ s.entryOf 9 = none ∧
      look live.settings.tripLevel 9 = 0 ∧ (s.setTripRun 9 5).tripRun 9 < look s.settings.tripCycles 9 := by decide +kernel

theorem test_witness_OutletTripOpensNow_drivers :
    let trip := fun (state : DriverState) (st : Machine.Step) (kind : Kind) (phase : Phase) =>
      onDriver 1 (fun d => { d with state := state, step := some st })
        (((withEntry kind phase true).setSettings { live.settings with tripLevel := fill 24 5000 }).setTripRun 1 6)
    let close := stepOf .close .entry
    let opening := stepOf .opening .entry
    let urgent := stepOf .opening (.urgent .openSync)
    let pulsed := trip .pulse close .closing .closing
    let cases := [pulsed, trip .verify close .closing .closing, trip .waitPhase close .closing .closing,
      trip .waitSlot opening .opening .opening, trip .pulse opening .opening .opening, trip .verify opening .cycle .opening]
    (∀ s : State, s ∈ cases → s.resetHeld = false ∧ look s.settings.tripLevel 1 ≠ 0 ∧ (s.driver 1).fault = none ∧
      ¬(s.isTripped 1 = true ∧ s.contact 1 = .opened) ∧ look s.settings.tripCycles 1 ≤ s.tripRun 1 ∧
      (s.entries.map (·.id)).Nodup ∧ (s.entries.map (·.outlet)).Nodup ∧ s.entryOf 1 ≠ none) ∧
      (pulsed.driver 1).step = some close ∧ close.source = .entry ∧ close.direction = .close ∧
      ((pulsed.monitor 1).state = .off ∧
        ((onMonitor 1 (fun m => { m with state := .expired }) pulsed).monitor 1).state = .expired) ∧
      ((trip .waitPhase urgent .opening .queued).driver 1).step = some urgent ∧ urgent.source = .urgent .openSync := by
  decide +kernel

/-- R120: an outlet trip at a close in VERIFY abandons it with the contact UNKNOWN and takes the open as a new step. R149: a
verdict that waits there is withdrawn. -/
theorem test_trip_abandons_verified_close :
    let s := onMonitor 1 (fun m => { m with state := .expired, placementPending := true }) <| onContact 1 .closed <|
      onDriver 1 (fun d => { d with state := .verify, step := some (stepOf .close .entry), skip := 3 })
      (((withEntry .closing .closing true).setSettings { live.settings with tripLevel := fill 24 5000 }).setTripRun 1 6)
    let t := after (.outletTrip 1) s
    t.contact 1 = .unknown ∧ (t.driver 1).state = .waitSlot ∧ t.entryOf 1 = none ∧
      t.monitor 1 = { s.monitor 1 with state := .watching, placementPending := false } ∧
      (t.port .a).events.map (·.body) = [.actionEnded 1 3 .closing .preempted .none, .outletTrip 1 0 5000] := by
  decide +kernel

theorem test_witness_RestartAndRestorationFollowRules :
    let enabled := (branchIn .shed false false).setSettings { live.settings with restartEnable := fill 6 true }
    let waiting := fun count => onBranch 5 (fun q => { q with restartCount := count }) (branchIn .restartWait false false)
    let restoring := onBranch 5 (fun q => { q with victims := put q.victims 20 true })
      ((branchIn .restoring false false).setEntries (fullQueue.entries.take 15))
    enabled.resetHeld = false ∧ (enabled.protection 5).state = .shed ∧ look enabled.settings.restartEnable 5 = true ∧
      (enabled.protection 5).overcurrent = false ∧ (enabled.protection 5).breaker = false ∧
      (enabled.protection 5).manual = false ∧ (enabled.protection 5).manualMark = false ∧
      (enabled.protection 5).exhaustedMark = false ∧ ((waiting 2).protection 5).state = .restartWait ∧
      ((waiting 2).protection 5).restartTimer = 0 ∧
      ((waiting 2).protection 5).restartCount < look (waiting 2).settings.restartLimit 5 ∧
      look (waiting 3).settings.restartLimit 5 ≠ 0 ∧
      look (waiting 3).settings.restartLimit 5 ≤ ((waiting 3).protection 5).restartCount ∧
      (restoring.protection 5).state = .restoring ∧
      restoring.entries.length + (allOutlets.filter fun k => look (restoring.protection 5).victims k).length ≤ 16 ∧
      (live.protection 5).state ≠ .shed ∧ look live.settings.restartEnable 5 = false ∧
      ((branchIn .shed true true).protection 5).overcurrent = true ∧ ((branchIn .shed true true).protection 5).manual = true ∧
      (live.protection 5).state ≠ .restartWait ∧ (live.protection 5).state ≠ .restoring ∧
      ((onBranch 5 (fun q => { q with restartTimer := 1 }) (waiting 2)).protection 5).restartTimer ≠ 0 := by
  decide +kernel

theorem test_witness_RestartAndRestorationFollowRules_pass :
    let restoring := fun s : State => onBranch 5 (fun q => { q with state := .restoring, victims := put q.victims 20 true }) s
    let some20 := restoring live
    some20.resetHeld = false ∧ (some20.protection 5).state = .restoring ∧ look (some20.protection 5).victims 20 = true ∧
      (∀ j : Outlet, j < 20 → look (some20.protection 5).victims j = false) ∧ some20.hold 20 = none ∧
      (some20.driver 20).fault = none ∧ some20.entryOf 20 = none ∧ some20.entries.length < 16 ∧
      (some20.setHold 20 (some .b)).hold 20 = some .b ∧
      ((onDriver 20 (fun d => { d with state := .faulted, fault := some .stuckOpen }) some20).driver 20).fault ≠ none ∧
      (some20.setEntries [entry 3 20 .opening .queued false]).entryOf 20 ≠ none ∧
      16 ≤ (restoring fullQueue).entries.length ∧ (restoring fullQueue).entryOf 20 = none ∧
      (∀ k, look ((branchIn .restoring false false).protection 5).victims k = false) := by decide +kernel

/-- R136: BREAKER, taken right behind the pass that places the last victim, pre-empts its CLOSE, which has not begun, from
RESTORING, and the outlet rejoins the set. -/
theorem test_cause_behind_pass_preempts_its_entries :
    let s := onDriver 20 (fun d => { d with state := .verify }) ((onBranch 5 (fun q =>
      { q with state := .restoring, victims := put q.victims 20 true }) live).setBreaker 5 { level := some .opened, run := 0 })
    let u := s.turn (.returns 5)
    let t := (u.turn (.breakerCause 5)).turn (.settles 5)
    ((s.turnsOf { first := [.returns 5, .breakerCause 5] }).take 3 = [.returns 5, .breakerCause 5, .settles 5]) ∧
      (u.protection 5).state = .restoring ∧ (u.entries.map (·.outlet)) = [20] ∧ look (u.protection 5).victims 20 = false ∧
      (t.protection 5).state = .shed ∧ t.entries = [] ∧ look (t.protection 5).victims 20 = true ∧
      ((u.turn (.settles 5)).protection 5).state = .normal := by decide +kernel

theorem test_witness_RestartAndRestorationFollowRules_exhausted :
    let s := onBranch 5 (fun q => { q with restartCount := 3 }) (branchIn .restartWait false false)
    s.EntriesDistinct ∧ s.branchOf 20 = 5 ∧ look s.settings.shedMode 20 ≠ .keep ∧ s.isTripped 20 = false ∧
      s.contact 20 ≠ .opened ∧ (s.driver 20).state = .idle ∧ s.branchOf 19 ≠ 5 ∧
      look { s.settings with shedMode := fill 24 .openNow }.shedMode 20 = .openNow :=
  ⟨distinct_of (by decide +kernel), by decide +kernel⟩

/-- Outlet 1's close at the head of branch 0's line, the stagger count at its setting. -/
def waitingHead (stagger : Nat) : State :=
  (withEntry .closing .waitAdmit true).setSequencer 0 { Sequencer.initial with line := [3], stagger := stagger }

/-- R94: an off hold of outlet 9 joins ahead of outlet 10's of the same arrival, a sweep's CLOSE of outlet 9 behind it. -/
theorem test_only_returns_are_kept_ascending :
    let s := ((live.setEntries [entry 3 10 .cycle .waitAdmit true, entry 4 9 .cycle .offHold true]).setHandling
      (some { Handling.begun with returned := [3] })).setSequencer 2 { Sequencer.initial with line := [7, 3] }
    (((s.noteReturn 4).joinLine (entry 4 9 .cycle .offHold true)).sequencer 2).line = [7, 4, 3] ∧
      ((s.joinLine (entry 4 9 .closing .queued false)).sequencer 2).line = [7, 3, 4] := by decide +kernel

theorem test_witness_EveryStepKeepsHandsLinesAndVerdicts :
    let s := (waitingHead 30).setPending [.admission 0]
    step s = .next (after (.admission 0) (waitingHead 30)) ∧ s.EntriesDistinct ∧ s.LinesLive ∧ (s.sequencer 0).line = [3] :=
  ⟨by rfl, distinct_of (by decide +kernel), lines_of (by decide +kernel), by decide +kernel⟩

theorem test_witness_EntriesMoveThroughPhases_admission :
    let shut := onBranch 0 (fun q => { q with state := .shed }) (waitingHead 30)
    let closing := (waitingHead 30).setSequencer 0 { (waitingHead 30).sequencer 0 with inProgress := some 4 }
    let loaded := onBranch 0 (fun q => { q with sum := some 16001 }) (waitingHead 30)
    (waitingHead 30).resetHeld = false ∧ ((waitingHead 30).sequencer 0).line = 3 :: [] ∧
      (waitingHead 30).entryById 3 = some (entry 3 1 .closing .waitAdmit true) ∧
      ((waitingHead 30).protection 0).state = .normal ∧ ((waitingHead 30).sequencer 0).inProgress = none ∧
      look (waitingHead 30).settings.staggerSet 0 ≤ ((waitingHead 30).sequencer 0).stagger ∧
      ((waitingHead 30).protection 0).sum.getD 0 + ((waitingHead 30).meter 1).remembered ≤
        look (waitingHead 30).settings.branchLimit 0 ∧
      ((waitingHead 29).sequencer 0).stagger < look (waitingHead 29).settings.staggerSet 0 ∧
      ¬((shut.protection 0).state = .normal ∨ (shut.protection 0).state = .restoring) ∧
      (closing.sequencer 0).inProgress ≠ none ∧ look loaded.settings.branchLimit 0 ≠ 0 ∧
      look loaded.settings.branchLimit 0 < (loaded.protection 0).sum.getD 0 + (loaded.meter 1).remembered ∧
      (live.sequencer 0).line = [] := by decide +kernel

theorem test_witness_EntriesMoveThroughPhases_first_step :
    let cycle := withEntry .cycle .queued false
    let close := withEntry .closing .queued false
    let off := fun n => live.setEntries [{ entry 3 1 .cycle .offHold true with offHold := n }]
    (cycle.EntriesDistinct ∧ close.EntriesDistinct ∧ (onContact 1 .closed close).LinesLive ∧ (off 0).EntriesDistinct) ∧
      cycle.resetHeld = false ∧
      cycle.entryOf 1 = some (entry 3 1 .cycle .queued false) ∧ (entry 3 1 .cycle .queued false).phase = .queued ∧
      (cycle.driver 1).state = .idle ∧ cycle.contact 1 ≠ .opened ∧ (onContact 1 .opened cycle).contact 1 = .opened ∧
      close.entryOf 1 = some (entry 3 1 .closing .queued false) ∧ close.contact 1 ≠ .closed ∧
      (onContact 1 .closed close).contact 1 = .closed ∧
      (off 0).entryOf 1 = some { entry 3 1 .cycle .offHold true with offHold := 0 } ∧
      (off 1).entryOf 1 = some { entry 3 1 .cycle .offHold true with offHold := 1 } ∧ 0 < 1 ∧
      ((onDriver 1 (fun d => { d with state := .verify }) cycle).driver 1).state ≠ .idle ∧ live.entryOf 1 = none ∧
      (entry 3 1 .cycle .queued false).phase ≠ .offHold ∧ (entry 3 1 .cycle .offHold true).phase ≠ .queued :=
  ⟨⟨distinct_of (by decide +kernel), distinct_of (by decide +kernel), lines_of (by decide +kernel),
    distinct_of (by decide +kernel)⟩, by decide +kernel⟩

/-- R75 and R150: a CLOSE whose contact is closed ends DONE NO_PULSE, and its outlet's monitor is IDLE. -/
theorem test_close_without_pulse_ends :
    let s := onMonitor 1 (fun m => { m with state := .reported, silence := 7, retries := 2 })
      (onContact 1 .closed (withEntry .closing .queued false))
    let t := after (.firstStep 1) s
    t.monitor 1 = { s.monitor 1 with state := .idle, silence := 0 } ∧ t.entries = [] ∧
      (t.port .a).events.map (·.body) = [.actionEnded 1 3 .closing .done .noPulse] := by decide +kernel

/-- Outlet 1's open step of feed 0, whose Tp is 128 and phase `phase`. -/
def atPhase (phase : Nat) (state : DriverState) (st : Machine.Step) (s : State) : State :=
  onTracker 0 (fun t => { t with state := .tracking, tp := 128, phase := phase })
    (onDriver 1 (fun d => { d with state := state, step := some st }) s)

theorem test_witness_StepsMeetSlotsAndPulse_fire :
    let st := stepOf .opening .entry
    let s := fun n => atPhase n .waitPhase st live
    (s 88).resetHeld = false ∧ ((s 88).driver 1).state = .waitPhase ∧ ((s 88).driver 1).step = some st ∧
      ((s 88).tracker st.feed).phase =
        (((s 88).tracker st.feed).tp - st.delay % ((s 88).tracker st.feed).tp) % ((s 88).tracker st.feed).tp ∧
      st.metRising = false ∧
      (((s 24).tracker st.feed).phase : Int) =
        (((s 24).tracker st.feed).tp / 2 : Nat) - (st.delay : Int) ∧
      ((s 24).tracker st.feed).phase ≠ risingFire ((s 24).tracker st.feed).tp st.delay ∧ st.metFalling = false ∧
      0 < ((s 24).tracker st.feed).tp ∧ ((s 87).tracker st.feed).phase ≠ risingFire ((s 87).tracker st.feed).tp st.delay ∧
      ((s 87).tracker st.feed).phase ≠ fallingFire ((s 87).tracker st.feed).tp st.delay ∧
      { st with metRising := true, metFalling := true }.metRising = true ∧
      { st with metRising := true, metFalling := true }.metFalling = true ∧ (live.driver 1).state ≠ .waitPhase := by
  decide +kernel

theorem test_witness_StepsMeetSlotsAndPulse_slots :
    let st := stepOf .opening .entry
    let two := (atPhase 88 .waitSlot st (onDriver 2 (fun d => { d with state := .waitSlot, step := some st }) live)).setSlots
      [5, 6, 7]
    let pulse := fun n st' => onDriver 1 (fun d => { d with pulseCount := n }) (atPhase 40 .pulse st' live)
    let urgent := onDriver 2 (fun d => { d with step := some (stepOf .opening (.urgent .openNow)) }) two
    let t := after .slotGrant two
    two.resetHeld = false ∧ (two.driver 1).state = .waitSlot ∧ (two.driver 2).state = .waitSlot ∧
      (two.driver 1).step = some st ∧ (two.driver 2).step = some st ∧ (two.driver 3).state ≠ .waitSlot ∧
      two.slots.length = 3 ∧ (urgent.driver 2).step = some (stepOf .opening (.urgent .openNow)) ∧
      (t.slots = [5, 6, 7, 1] ∧ (t.driver 1).state = .pulse ∧ (t.driver 2).state = .waitPhase) ∧
      (after .slotGrant urgent).slots = [5, 6, 7, 2] ∧ ((after .slotGrant urgent).driver 1).state = .waitPhase ∧
      ((pulse 0 st).driver 1).state = .pulse ∧ ((pulse 0 st).driver 1).pulseCount = 0 ∧ (pulse 0 st).entryOf 1 = none ∧
      st.sync = true ∧ st.feedLeft = false ∧ 0 < ((pulse 1 st).driver 1).pulseCount ∧
      ((pulse 0 { st with sync := false }).driver 1).step = some { st with sync := false } ∧
      (live.driver 1).state ≠ .pulse := by decide +kernel

/-- R113: a close pulse that ends with the entry's pre-emption mark set. -/
theorem test_witness_StepsMeetSlotsAndPulse_marked :
    let close := stepOf .close .entry
    let s := onDriver 1 (fun d => { d with waitingUrgent := some .openNow, coil := .set })
      (atPhase 40 .pulse close ((live.setEntries [{ entry 3 1 .closing .closing true with preempt := true }]).setSlots [1]))
    let t := after (.pulseEnd 1) s
    (s.EntriesDistinct ∧ s.LinesLive) ∧
      (s.resetHeld = false ∧ (s.driver 1).state = .pulse ∧ (s.driver 1).step = some close ∧
      close.source = .entry ∧ (s.driver 1).pulseCount = 0 ∧
      s.entryOf 1 = some { entry 3 1 .closing .closing true with preempt := true } ∧
      { entry 3 1 .closing .closing true with preempt := true }.preempt = true ∧
      (s.driver 1).waitingUrgent = some .openNow) ∧
      t.contact 1 = .unknown ∧ t.entryOf 1 = none ∧ (t.driver 1).state = .waitSlot ∧ t.slots = [] :=
  ⟨⟨distinct_of (by decide +kernel), lines_of (by decide +kernel)⟩, by decide +kernel⟩

/-- What `State.StepEnds` supposes of a step's end: an entry's close in progress, a CYCLE in OPENING, an urgent open without an
entry, and one with an entry in QUEUED. -/
theorem test_witness_StepEnds :
    let unsync := fun st : Machine.Step => { st with sync := false }
    let close := closingNow .pulse (unsync (stepOf .close .entry))
    let cycle := atPhase 40 .pulse (unsync (stepOf .opening .entry)) (withEntry .cycle .opening true)
    let alone := atPhase 40 .pulse (unsync (stepOf .opening (.urgent .openNow))) live
    let queued := atPhase 40 .pulse (unsync (stepOf .opening (.urgent .openNow))) (withEntry .closing .queued false)
    (∀ s : State, s ∈ [close, cycle, alone, queued] → s.EntriesDistinct ∧ s.LinesLive ∧ s.resetHeld = false ∧
      (s.driver 1).state = .pulse ∧ (s.driver 1).pulseCount = 0 ∧ ∃ st, (s.driver 1).step = some st ∧ st.sync = false) ∧
      close.entryOf 1 = some (entry 3 1 .closing .closing true) ∧
      cycle.entryOf 1 = some (entry 3 1 .cycle .opening true) ∧ alone.entryOf 1 = none ∧
      queued.entryOf 1 = some (entry 3 1 .closing .queued false) ∧ queued.triedNow 3 = false ∧
      (close.sequencer (close.branchOf 1)).inProgress = some 3 := by
  refine ⟨fun s hs => ?_, by decide +kernel⟩
  simp only [List.mem_cons, List.not_mem_nil, or_false] at hs
  rcases hs with rfl | rfl | rfl | rfl <;>
    exact ⟨distinct_of (by decide +kernel), lines_of (by decide +kernel), by decide +kernel, by decide +kernel,
      by decide +kernel, _, rfl, rfl⟩

/-- Outlet 1 at the end of its verify window. -/
def verified (st : Machine.Step) (seen : Bool) (s : State) : State :=
  onDriver 1 (fun d => { d with activeSeen := seen }) (atPhase 40 .verify st s)

theorem test_witness_VerifyWindowDecidesTheStep :
    let close := stepOf .close .entry
    let again := { close with retry := 1 }
    let s := verified close true (withEntry .closing .closing true)
    let failed := verified again false (withEntry .closing .closing true)
    let shed := onBranch 0 (fun q => { q with state := .shed }) (verified close false (withEntry .closing .closing true))
    (s.EntriesDistinct ∧ failed.EntriesDistinct ∧ shed.EntriesDistinct) ∧ s.resetHeld = false ∧
      (s.driver 1).state = .verify ∧ (s.driver 1).step = some close ∧ (s.driver 1).skip = 0 ∧ (s.driver 1).observe = 0 ∧
      close.direction = .close ∧ (s.driver 1).activeSeen = true ∧ (failed.driver 1).activeSeen = false ∧
      (failed.driver 1).step = some again ∧ again.retry ≠ 0 ∧ close.retry = 0 ∧
      (s.protection (s.branchOf 1)).state = .normal ∧ close.source = .entry ∧
      (shed.protection (shed.branchOf 1)).state = .shed ∧
      (live.driver 1).state ≠ .verify ∧ ((onDriver 1 (fun d => { d with skip := 1 }) s).driver 1).skip ≠ 0 ∧
      ((onDriver 1 (fun d => { d with observe := 1 }) s).driver 1).observe ≠ 0 ∧
      failed.entryOf 1 = some (entry 3 1 .closing .closing true) ∧ (3 : Byte) ∉ (failed.sequencer (failed.branchOf 1)).line :=
  ⟨⟨distinct_of (by decide +kernel), distinct_of (by decide +kernel), distinct_of (by decide +kernel)⟩, by decide +kernel⟩

theorem test_witness_VerifyWindowDecidesTheStep_ends :
    let s := closingNow .verify (stepOf .close .entry)
    let failed := onDriver 1 (fun d => { d with activeSeen := false })
      (closingNow .verify { stepOf .close .entry with retry := 1 })
    let urgent := verified { stepOf .opening (.urgent .openNow) with retry := 1 } true live
    (s.EntriesDistinct ∧ s.LinesLive ∧ failed.EntriesDistinct ∧ urgent.EntriesDistinct) ∧
      (s.driver 1).state = .verify ∧ (s.driver 1).activeSeen = true ∧ (s.sequencer (s.branchOf 1)).pulseMark = true ∧
      failed.entryOf 1 = some (entry 3 1 .closing .closing true) ∧ (failed.driver 1).activeSeen = false ∧
      (failed.sequencer (failed.branchOf 1)).inProgress = some 3 ∧ (3 : Byte) ∉ (failed.sequencer (failed.branchOf 1)).line ∧
      urgent.entryOf 1 = none ∧ (urgent.driver 1).activeSeen = true :=
  ⟨⟨distinct_of (by decide +kernel), lines_of (by decide +kernel), distinct_of (by decide +kernel),
    distinct_of (by decide +kernel)⟩, by decide +kernel⟩

/-- R116, R79, R98, R150: a VERIFIED close ends its entry DONE and the close in progress, the stagger count 0, the monitor
IDLE. R118, R149: a second failure leaves the contact OPEN, a waiting verdict withdrawn and the entry FAILED. -/
theorem test_verify_window_ends :
    let judged := fun (seen : Bool) (m : MonitorState) => after (.verifyWindowEnd 1) (onDriver 1 (fun d =>
        { d with activeSeen := seen, contact := .closed }) (onMonitor 1 (fun q => { q with state := m, placementPending := true })
      (closingNow .verify { stepOf .close .entry with retry := 1 })))
    let t := judged true .watching
    let u := judged false .expired
    ((t.driver 1).state = .idle ∧ (t.driver 1).step = none ∧ t.entries = [] ∧ (t.sequencer 0).inProgress = none ∧
      (t.sequencer 0).stagger = 0 ∧ (t.monitor 1).state = .idle ∧ (t.port .a).events.map (·.body) =
        [.outletSwitched 1 .closed .verified, .actionEnded 1 3 .closing .done .none]) ∧
      u.contact 1 = .opened ∧ (u.driver 1).state = .faulted ∧ (u.monitor 1).state = .watching ∧
      (u.sequencer 0).stagger = 0 ∧ (u.port .a).events.map (·.body) =
        [.relayFault 1 .stuckOpen false, .actionEnded 1 3 .closing .failed .stuckOpen] := by decide +kernel

/-- R77, R50: a VERIFIED open of a CYCLE enters OFF_HOLD with its off time, the remembered load set. -/
theorem test_cycle_enters_off_hold :
    let s := verified (stepOf .opening .entry) false (onContact 1 .closed ((withEntry .cycle .opening true).setMeter 1
      { Meter.initial with remembered := 9 }))
    let t := after (.verifyWindowEnd 1) s
    t.contact 1 = .opened ∧ (t.meter 1).remembered = 0 ∧
      t.entries = [{ entry 3 1 .cycle .offHold true with offHold := 5 }] ∧
      (t.port .b).events.map (·.body) = [.outletSwitched 1 .opened .verified] := by decide +kernel

/-- Outlet 1 CLOSED with a monitor window of one unit, its silence at the window's length. -/
def silent (action : MonitorAction) (band : Nat) (retries : Nat) : State :=
  onMonitor 1 (fun m => { m with state := .watching, silence := 3840, retries := retries })
    (onContact 1 .closed (live.setSettings { live.settings with
      monWindow := fill 24 1, monAction := fill 24 action, stallBand := fill 24 band }))

theorem test_witness_MonitorsJudgeAndPlace_verdict :
    let s := silent .report 0 0
    let spread := { (silent .report 5 0).monitor 1 with evidence := 1, spread := some ((10 : Int), (15 : Int)) }
    s.resetHeld = false ∧ (s.monitor 1).state = .watching ∧ look s.settings.monWindow 1 * 3840 ≤ (s.monitor 1).silence ∧
      s.contact 1 = .closed ∧ s.entryOf 1 = none ∧ (s.driver 1).fault = none ∧
      (look (silent .report 5 0).settings.stallBand 1 = 5 ∧ ((silent .report 5 0).monitor 1).evidence = 0) ∧
      (spread.evidence ≠ 0 ∧ spread.spread = some ((10 : Int), (15 : Int)) ∧ (15 : Int) - 10 ≤ 5 ∧ ¬((16 : Int) - 10 ≤ 5)) ∧
      look s.settings.stallBand 1 = 0 ∧ look s.settings.monAction 1 = .report ∧
      (live.monitor 1).state ≠ .watching ∧
      ((onMonitor 1 (fun m => { m with silence := 3839 }) s).monitor 1).silence < look s.settings.monWindow 1 * 3840 ∧
      (onContact 1 .opened s).contact 1 ≠ .closed ∧
      look (silent .cycle 0 3).settings.monAction 1 = .cycle ∧ (silent .cycle 0 3).hold 1 = none ∧
      look (silent .cycle 0 3).settings.retryLimit 1 ≤ ((silent .cycle 0 3).monitor 1).retries ∧
      ((silent .cycle 0 2).monitor 1).retries < look (silent .cycle 0 2).settings.retryLimit 1 ∧
      ((silent .cycle 0 2).setHold 1 (some .b)).hold 1 ≠ none := by decide +kernel

theorem test_witness_MonitorsJudgeAndPlace_placement :
    let s := onMonitor 20 (fun m => { m with state := .expired, placementPending := true })
      (live.setEntries (fullQueue.entries.take 15))
    let grace := fun n => onMonitor 20 (fun m => { m with state := .grace, grace := n }) live
    s.EntriesDistinct ∧ s.resetHeld = false ∧ (s.monitor 20).state = .expired ∧ (s.monitor 20).placementPending = true ∧
      s.entryOf 20 = none ∧ s.entries.length < 16 ∧ s.hold 20 = none ∧ (s.driver 20).fault = none ∧
      (s.protection (s.branchOf 20)).state = .normal ∧ ((grace 0).monitor 20).state = .grace ∧
      ((grace 0).monitor 20).grace = 0 ∧ 0 < ((grace 1).monitor 20).grace ∧ (live.monitor 20).state ≠ .expired ∧
      (live.monitor 20).placementPending = false ∧ (live.monitor 20).state ≠ .grace ∧
      (s.setHold 20 (some .b)).hold 20 ≠ none ∧ 16 ≤ fullQueue.entries.length ∧
      ((onBranch 5 (fun q => { q with state := .shed }) s).protection (s.branchOf 20)).state ≠ .normal :=
  ⟨distinct_of (by decide +kernel), by decide +kernel⟩

end Sys2Proof.Tests
end

/-! PROOF. The integer terms of R1: one lemma for each, and the statement put together from them (O7). -/

namespace Sys2Proof.Machine

/-! ### The rounded quotient -/

theorem roundedQuotient_natCast (n b : Nat) :
    roundedQuotient n b = ((2 * n + b) / (2 * b) : Nat) := by
  have nonneg : ¬ (n : Int) < 0 := by omega
  simp only [roundedQuotient, if_neg nonneg, Int.natAbs_natCast]

theorem roundedQuotient_neg_natCast {n : Nat} (pos : 0 < n) (b : Nat) :
    roundedQuotient (-n) b = -((2 * n + b) / (2 * b) : Nat) := by
  have neg : (-n : Int) < 0 := by omega
  simp only [roundedQuotient, if_pos neg, Int.natAbs_neg, Int.natAbs_natCast]

/-- The half divisor added before the division makes it round to the nearest, with a tie (the first bound met) going up. -/
theorem nearest_quotient_bounds (n : Nat) {b : Nat} (pos : 0 < b) :
    2 * ((2 * n + b) / (2 * b) * b) ≤ 2 * n + b ∧ 2 * n < 2 * ((2 * n + b) / (2 * b) * b) + b := by
  have division := Nat.div_add_mod (2 * n + b) (2 * b)
  have rest := Nat.mod_lt (2 * n + b) (Nat.mul_pos two_pos pos)
  rw [Nat.mul_assoc, Nat.mul_comm b] at division
  omega

theorem roundedQuotient_natCast_nearest (n : Nat) {b : Nat} (pos : 0 < b) :
    2 * |(n : Int) - roundedQuotient n b * b| ≤ b ∧
      (2 * |(n : Int) - roundedQuotient n b * b| = b → |(n : Int)| < |roundedQuotient n b * b|) := by
  obtain ⟨above, below⟩ := nearest_quotient_bounds n pos
  rw [roundedQuotient_natCast, ← Nat.cast_mul]
  simp only [Int.abs_eq_natAbs]
  omega

/-- A negative dividend is the mirror image of its absolute value: both distances stay the same. -/
theorem roundedQuotient_nearest (a : Int) {b : Nat} (pos : 0 < b) :
    2 * |a - roundedQuotient a b * b| ≤ b ∧
      (2 * |a - roundedQuotient a b * b| = b → |a| < |roundedQuotient a b * b|) := by
  obtain ⟨n, rfl | rfl⟩ := a.eq_nat_or_neg
  · exact roundedQuotient_natCast_nearest n pos
  · obtain rfl | npos := n.eq_zero_or_pos
    · exact roundedQuotient_natCast_nearest 0 pos
    · have mirror : roundedQuotient (-n) b = -roundedQuotient n b := by
        rw [roundedQuotient_neg_natCast npos, roundedQuotient_natCast]
      have distance : (-n : Int) - -roundedQuotient n b * b = -(n - roundedQuotient n b * b) := by ring
      rw [mirror, distance, neg_mul, abs_neg, abs_neg, abs_neg]
      exact roundedQuotient_natCast_nearest n pos

/-! ### The floored quotient -/

theorem floorQuotient_bounds (a : Int) {b : Nat} (pos : 0 < b) :
    floorQuotient a b * b ≤ a ∧ a < (floorQuotient a b + 1) * b :=
  have bpos : 0 < (b : Int) := Int.natCast_pos.mpr pos
  ⟨Int.ediv_mul_le a bpos.ne', Int.lt_ediv_add_one_mul_self a bpos⟩

/-! ### The integer square root -/

/-- The loop's invariant: the root lies at or above `r` and below `r + 2 ^ bits`. With no bit left the two meet. -/
theorem isqrtFrom_bounds {x : Nat} : ∀ {bits r : Nat}, r * r ≤ x → x < (r + 2 ^ bits) * (r + 2 ^ bits) →
    isqrtFrom bits x r * isqrtFrom bits x r ≤ x ∧ x < (isqrtFrom bits x r + 1) * (isqrtFrom bits x r + 1)
  | 0, _, low, high => ⟨low, high⟩
  | bits + 1, r, low, high => by
    rw [isqrtFrom]
    split
    next fits =>
      have halves : r + 2 ^ (bits + 1) = r + 2 ^ bits + 2 ^ bits := by rw [pow_succ]; omega
      exact isqrtFrom_bounds fits (halves ▸ high)
    next tooLarge => exact isqrtFrom_bounds low (Nat.lt_of_not_le tooLarge)

/-- The bits that `isqrt` tries are enough for every argument. -/
theorem lt_isqrt_start_sq (x : Nat) : x < 2 ^ (x.log2 / 2 + 1) * 2 ^ (x.log2 / 2 + 1) := by
  calc x < 2 ^ (x.log2 + 1) := Nat.lt_log2_self
    _ ≤ 2 ^ (x.log2 / 2 + 1 + (x.log2 / 2 + 1)) := Nat.pow_le_pow_right two_pos (by omega)
    _ = _ := Nat.pow_add ..

theorem isqrt_bounds (x : Nat) : isqrt x * isqrt x ≤ x ∧ x < (isqrt x + 1) * (isqrt x + 1) :=
  isqrtFrom_bounds (Nat.zero_le x) (by simpa only [Nat.zero_add] using lt_isqrt_start_sq x)

/-! ### Saturation, wrapping and holding -/

theorem saturate_eq_upper_first {lo hi : Int} (range : lo ≤ hi) (v : Int) :
    saturate lo hi v = if hi < v then hi else if v < lo then lo else v := by
  rw [saturate]
  by_cases above : hi < v
  · have notBelow : ¬ v < lo := by omega
    rw [if_neg notBelow, if_pos above, if_pos above]
  · rw [if_neg above, if_neg above]

theorem toNat_add_one_eq_mod {k : Nat} (x : BitVec k) : (x + 1).toNat = (x.toNat + 1) % 2 ^ k := by
  simp [BitVec.toNat_add]

theorem add_one_eq_zero_of_last {k : Nat} {x : BitVec k} (last : x.toNat = 2 ^ k - 1) : x + 1 = 0 := by
  apply BitVec.eq_of_toNat_eq
  rw [toNat_add_one_eq_mod, last, Nat.sub_add_cancel Nat.one_le_two_pow, Nat.mod_self]
  exact BitVec.toNat_zero.symm

theorem toNat_add_one_of_lt {k : Nat} {x : BitVec k} (below : x.toNat < 2 ^ k - 1) : (x + 1).toNat = x.toNat + 1 := by
  rw [toNat_add_one_eq_mod, Nat.mod_eq_of_lt (by omega)]

theorem holdUp_of_lt {limit n : Nat} (below : n < limit) : holdUp limit n = n + 1 :=
  if_neg (Nat.not_le.mpr below)

@[simp] theorem holdUp_self (limit : Nat) : holdUp limit limit = limit :=
  if_pos le_rfl

/-- Settles O7: each term of R1 by its own lemma above. -/
theorem arithmeticTermsMeanWhatTheySay : Obligations.ArithmeticTermsMeanWhatTheySay :=
  ⟨fun a _ pos => roundedQuotient_nearest a pos,
    fun a _ pos => floorQuotient_bounds a pos,
    isqrt_bounds,
    fun _ _ v range => saturate_eq_upper_first range v,
    fun _ _ => ⟨add_one_eq_zero_of_last, toNat_add_one_of_lt⟩,
    fun limit _ => ⟨holdUp_of_lt, holdUp_self limit⟩⟩

end Sys2Proof.Machine

/-! PROOF. HOLD and RELEASE from a ready link (O42, O43): which outlets each reaches, and what becomes of the holds. -/

namespace Sys2Proof.Machine

/-! ### The sets of outlets of a mask -/

@[simp] theorem look_maskFrom (a b c : Byte) (k : Outlet) :
    look (maskFrom a b c) k = (a ++ b ++ c : BitVec 24).getLsbD k.val := look_tab24 ..

@[simp] theorem State.look_holdable (s : State) (mask : Vector Bool 24) (k : Outlet) :
    look (s.holdable mask) k = (look mask k && (s.hold k).isNone) := look_tab24 ..

@[simp] theorem State.look_heldElsewhere (s : State) (x : Link) (mask : Vector Bool 24) (k : Outlet) :
    look (s.heldElsewhere x mask) k = (look mask k && decide (s.hold k = some x.other)) :=
  (look_tab24 ..).trans (congrArg _ (beq_eq_decide ..))

@[simp] theorem State.look_heldHere (s : State) (x : Link) (mask : Vector Bool 24) (k : Outlet) :
    look (s.heldHere x mask) k = (look mask k && decide (s.hold k = some x)) :=
  (look_tab24 ..).trans (congrArg _ (beq_eq_decide ..))

/-! ### Giving holds -/

theorem State.giveHolds_hold (s : State) (set : Vector Bool 24) (holder : Option Link) (k : Outlet) :
    (s.giveHolds set holder).hold k = if look set k then holder else s.hold k := look_tab24 ..

@[simp] theorem State.answeredOnly_hold (s : State) (x : Link) (st : Status) (code : Byte) (payload : List Byte) (k : Outlet) :
    (s.answeredOnly x st code payload).hold k = s.hold k := rfl

/-- A request that gives holds, from a ready link, answers and changes the holds: the port and the holds are apart. -/
theorem State.Ready.request_giveHolds {s : State} {x : Link} (ready : s.Ready x) {p : List Byte} (short : p.length ≤ 32)
    {code : Byte} {take : State → State × Answer} {set : Vector Bool 24} {holder : Option Link} {st : Status}
    {payload : List Byte}
    (taken : take (s.setPort x (s.port x).took) =
      ((s.setPort x (s.port x).took).giveHolds set holder, { status := st, payload := payload })) :
    s.request x code p take = (s.answeredOnly x st code payload).giveHolds set holder := by
  rw [ready.request_eq short, taken, ← State.answered_alone]
  rfl

theorem State.Ready.exec_hold {s : State} {x : Link} (ready : s.Ready x) (a b c : Byte) :
    exec (.hold x [a, b, c]) s = .next
      ((s.answeredOnly x .ok 0x12
        (maskBytes (s.holdable (maskFrom a b c)) ++ maskBytes (s.heldElsewhere x (maskFrom a b c)))).giveHolds
          (s.holdable (maskFrom a b c)) (some x)) :=
  congrArg _ (ready.request_giveHolds (by simp) rfl)

theorem State.Ready.exec_release {s : State} {x : Link} (ready : s.Ready x) (a b c : Byte) :
    exec (.release x [a, b, c]) s = .next
      ((s.answeredOnly x .ok 0x13 (maskBytes (s.heldHere x (maskFrom a b c)))).giveHolds
        (s.heldHere x (maskFrom a b c)) none) :=
  congrArg _ (ready.request_giveHolds (by simp) rfl)

/-- Settles O42: the state after a HOLD is the answer's with the holdable outlets given to the link. -/
theorem holdReservesUnheldOutlets : Obligations.HoldReservesUnheldOutlets := by
  intro x a b c s ready
  refine ⟨_, s.holdable (maskFrom a b c), s.heldElsewhere x (maskFrom a b c), ready.exec_hold a b c, ?newly, ?refused,
    ?holds, rfl⟩
  case newly => intro k; rw [State.look_holdable, look_maskFrom]
  case refused => intro k; rw [State.look_heldElsewhere, look_maskFrom]
  case holds => intro k; rw [State.giveHolds_hold, State.answeredOnly_hold]

/-- Settles O43: the state after a RELEASE is the answer's with the link's own outlets of the mask given to no link. -/
theorem releaseFreesOwnHolds : Obligations.ReleaseFreesOwnHolds := by
  intro x a b c s ready
  refine ⟨_, s.heldHere x (maskFrom a b c), ready.exec_release a b c, ?freed, ?holds, rfl⟩
  case freed => intro k; rw [State.look_heldHere, look_maskFrom]
  case holds => intro k; rw [State.giveHolds_hold, State.answeredOnly_hold]

end Sys2Proof.Machine

/-! PROOF. What the blocks do among themselves, in small moves. `Move s t` is one update that an act of a block is made of, with
what is true where it is made; every operation of the blocks is a chain of moves (`Moves`), so that an invariant of the blocks
is proved once for each kind of move. -/

namespace Sys2Proof.Machine

/-! ### The moves -/

/-- Whether a monitor waits with a verdict whose placement is pending (R147, R148). -/
def Monitor.waits (m : Monitor) : Prop := m.state = .expired ∧ m.placementPending = true

/-- What a move may make of a monitor of window length `w`: its counts as they were or within their bounds. -/
def Monitor.CountsFrom (old m : Monitor) (w : Nat) : Prop :=
  (m.evidence = old.evidence ∨ m.evidence ≤ 255) ∧ (m.silence = old.silence ∨ m.silence ≤ w)

/-- No two live entries share an id (R69). -/
def State.IdsDistinct (s : State) : Prop := (s.entries.map (·.id)).Nodup

/-- One move of a block. -/
inductive Move (s : State) : State → Prop
  /-- A remembered load (section 3.5). -/
  | remember (k : Outlet) (n : Nat) : Move s (s.setMeter k { s.meter k with remembered := n })
  | tripped (k : Outlet) (v : Bool) : Move s (s.setTripped k v)
  | note (f : Handling → Handling) : Move s (s.note f)
  | nextId (v : Byte) : Move s (s.setNextId v)
  | post (body : EventBody) (source : EventOrigin) : Move s (s.post body source)
  | tripRun (k : Outlet) (n : Nat) (bound : n ≤ 255) : Move s (s.setTripRun k n)
  /-- A branch's protection, its sum and its over-limit run as they were. -/
  | protection (b : Branch) (p : Protection) (sum : p.sum = (s.protection b).sum) (overRun : p.overRun = (s.protection b).overRun)
      (restarts : p.restartCount = (s.protection b).restartCount ∨ p.restartCount ≤ 255) : Move s (s.setProtection b p)
  /-- An outlet's driver and monitor: the coil as it was, and no verdict left waiting where the contact has moved or the
  relay has failed. -/
  | outlet (k : Outlet) (d : Driver) (m : Monitor) (coil : d.coil = (s.driver k).coil)
      (counts : (s.monitor k).CountsFrom m (s.windowLength k))
      (waits : m.waits → (d.contact = .closed ∧ d.fault = none) ∨ ((s.monitor k).waits ∧
        (d.contact = .closed ∨ d.contact = (s.driver k).contact) ∧ (d.fault = none ∨ d.fault = (s.driver k).fault))) :
      Move s ((s.setDriver k d).setMonitor k m)
  | grant (k : Outlet) (d : Driver) (room : s.slots.length + 1 ≤ Config.coilSlots)
      (contact : d.contact = (s.driver k).contact) (fault : d.fault = (s.driver k).fault) :
      Move s ((s.setDriver k d).setSlots (s.slots ++ [k]))
  | release (k : Outlet) (d : Driver) (coil : d.coil = .released)
      (contact : d.contact = (s.driver k).contact) (fault : d.fault = (s.driver k).fault) :
      Move s ((s.setDriver k d).setSlots (s.slots.erase k))
  /-- A sequencer's counts and marks, its line and its close in progress as they were. -/
  | sequencer (b : Branch) (q : Sequencer) (line : q.line = (s.sequencer b).line)
      (progress : q.inProgress = (s.sequencer b).inProgress)
      (stagger : q.stagger = (s.sequencer b).stagger ∨ q.stagger ≤ 255) : Move s (s.setSequencer b q)
  /-- Entries changed in place; an entry that waits for admission or closes keeps its phase. -/
  | entry (id : Byte) (f : Entry → Entry) (ids : ∀ e, (f e).id = e.id) (outlets : ∀ e, (f e).outlet = e.outlet)
      (phase : s.IdsDistinct → ∀ e, e ∈ s.entries → e.id = id → (f e).phase = e.phase ∨ (e.phase ≠ .waitAdmit ∧ e.phase ≠ .closing)) :
      Move s (s.modEntry id f)
  | place (e : Entry) (room : s.hasRoom = true) (id : e.id = s.freeId) (phase : e.phase = .queued) :
      Move s (s.setEntries (s.entries ++ [e]))
  /-- The head of a line becomes the close in progress (R98). -/
  | admission (b : Branch) (id : Byte) (q : Sequencer) (line : (s.sequencer b).line = id :: q.line)
      (free : (s.sequencer b).inProgress = none) (progress : q.inProgress = some id)
      (stagger : q.stagger = (s.sequencer b).stagger) :
      Move s ((s.setSequencer b q).modEntry id fun e => { e with phase := .closing, begun := true })
  /-- An entry joins its branch's line (R94). -/
  | join (e : Entry) (q : Sequencer) (live : e ∈ s.entries) (waitAdmit : e.phase ≠ .waitAdmit) (closing : e.phase ≠ .closing)
      (line : q.line.Perm (e.id :: (s.sequencer (s.branchOf e.outlet)).line))
      (progress : q.inProgress = (s.sequencer (s.branchOf e.outlet)).inProgress)
      (stagger : q.stagger = (s.sequencer (s.branchOf e.outlet)).stagger) :
      Move s ((s.modEntry e.id fun x => { x with phase := .waitAdmit }).setSequencer (s.branchOf e.outlet) q)
  /-- An entry leaves the queue, and its branch's line or close in progress with it (R81, R95, R98). -/
  | leave (e : Entry) (q : Sequencer) (live : e ∈ s.entries)
      (line : q.line = (s.sequencer (s.branchOf e.outlet)).line.erase e.id ∨
        (q.line = (s.sequencer (s.branchOf e.outlet)).line ∧ (s.sequencer (s.branchOf e.outlet)).inProgress = some e.id))
      (progress : q.inProgress = none ∨ (q.inProgress = (s.sequencer (s.branchOf e.outlet)).inProgress ∧
        (s.sequencer (s.branchOf e.outlet)).inProgress ≠ some e.id))
      (stagger : q.stagger = (s.sequencer (s.branchOf e.outlet)).stagger ∨ q.stagger ≤ 255) :
      Move s ((s.setEntries (s.entries.filter fun x => x.id != e.id)).setSequencer (s.branchOf e.outlet) q)
  /-- A close withdrawn to the head of its branch's line (R102). -/
  | withdraw (e : Entry) (q : Sequencer) (live : e ∈ s.entries)
      (line : q.line = e.id :: (s.sequencer (s.branchOf e.outlet)).line.erase e.id) (progress : q.inProgress = none)
      (stagger : q.stagger = (s.sequencer (s.branchOf e.outlet)).stagger ∨ q.stagger ≤ 255) :
      Move s ((s.modEntry e.id fun x => { x with phase := .waitAdmit }).setSequencer (s.branchOf e.outlet) q)

/-- Moves one after another. -/
def Moves : State → State → Prop := Relation.ReflTransGen Move

/-! ### A record replaced by itself -/

theorem State.setDriver_self (s : State) (k : Outlet) : s.setDriver k (s.driver k) = s := by
  simp only [State.setDriver, State.driver, put_look_self]

theorem State.setMonitor_self (s : State) (k : Outlet) : s.setMonitor k (s.monitor k) = s := by
  simp only [State.setMonitor, State.monitor, put_look_self]

theorem State.setSequencer_self (s : State) (b : Branch) : s.setSequencer b (s.sequencer b) = s := by
  simp only [State.setSequencer, State.sequencer, put_look_self]

theorem put_put {α : Type} {n : Nat} (v : Vector α n) (k : Fin n) (x y : α) : put (put v k x) k y = put v k y :=
  ext_look fun j => by simp only [look_put]; split <;> rfl

theorem State.setDriver_setDriver (s : State) (k : Outlet) (v w : Driver) :
    (s.setDriver k v).setDriver k w = s.setDriver k w := by simp only [State.setDriver, put_put]

theorem State.setSequencer_setSequencer (s : State) (b : Branch) (v w : Sequencer) :
    (s.setSequencer b v).setSequencer b w = s.setSequencer b w := by simp only [State.setSequencer, put_put]

theorem State.setProtection_setProtection (s : State) (b : Branch) (v w : Protection) :
    (s.setProtection b v).setProtection b w = s.setProtection b w := by simp only [State.setProtection, put_put]

/-! ### Lookups of the queue -/

theorem State.mem_of_entryOf {s : State} {k : Outlet} {e : Entry} (h : s.entryOf k = some e) : e ∈ s.entries :=
  List.mem_of_find?_eq_some h

theorem State.outlet_of_entryOf {s : State} {k : Outlet} {e : Entry} (h : s.entryOf k = some e) : e.outlet = k := by
  simpa using List.find?_some h

theorem State.mem_of_entryById {s : State} {id : Byte} {e : Entry} (h : s.entryById id = some e) : e ∈ s.entries :=
  List.mem_of_find?_eq_some h

theorem State.id_of_entryById {s : State} {id : Byte} {e : Entry} (h : s.entryById id = some e) : e.id = id := by
  simpa using List.find?_some h

theorem State.IdsDistinct.eq_of_id {s : State} (h : s.IdsDistinct) {e e' : Entry} (he : e ∈ s.entries)
    (he' : e' ∈ s.entries) (hid : e.id = e'.id) : e = e' := List.inj_on_of_nodup_map h he he' hid

theorem State.EntriesDistinct.eq_of_id {s : State} (h : s.EntriesDistinct) {e e' : Entry} (he : e ∈ s.entries)
    (he' : e' ∈ s.entries) (hid : e.id = e'.id) : e = e' := State.IdsDistinct.eq_of_id h.1 he he' hid

theorem State.EntriesDistinct.eq_of_outlet {s : State} (h : s.EntriesDistinct) {e e' : Entry} (he : e ∈ s.entries)
    (he' : e' ∈ s.entries) (hk : e.outlet = e'.outlet) : e = e' := List.inj_on_of_nodup_map h.2 he he' hk

theorem State.mem_modEntry {s : State} {id : Byte} {f : Entry → Entry} {e : Entry} :
    e ∈ (s.modEntry id f).entries ↔ ∃ x ∈ s.entries, (if x.id = id then f x else x) = e := by
  simp only [State.modEntry, State.setEntries_entries, List.mem_map, beq_iff_eq]

theorem State.mem_modEntry_of_ne {s : State} {id : Byte} {f : Entry → Entry} {e : Entry} (he : e ∈ s.entries)
    (hne : e.id ≠ id) : e ∈ (s.modEntry id f).entries := State.mem_modEntry.mpr ⟨e, he, if_neg hne⟩

theorem State.mem_modEntry_of_eq {s : State} {id : Byte} {f : Entry → Entry} {e : Entry} (he : e ∈ s.entries)
    (hid : e.id = id) : f e ∈ (s.modEntry id f).entries := State.mem_modEntry.mpr ⟨e, he, if_pos hid⟩

/-! ### What every move keeps -/

theorem Move.fixed {s t : State} (move : Move s t) : t.fixed = s.fixed := by cases move <;> rfl

/-- The ports are offered events and nothing else. -/
theorem Move.ports {s t : State} (move : Move s t) (x : Link) : ∃ es, t.port x = (s.port x).offers es := by
  cases move with
  | post body source => exact ⟨[{ body := body, source := source, stamp := s.stamp }], s.post_port body source x⟩
  | _ => exact ⟨[], rfl⟩

theorem State.modEntry_ids (s : State) (id : Byte) {f : Entry → Entry} (ids : ∀ e, (f e).id = e.id) :
    (s.modEntry id f).entries.map (·.id) = s.entries.map (·.id) := by
  simp only [State.modEntry, State.setEntries_entries, List.map_map]
  refine List.map_congr_left fun e _ => ?_
  simp only [Function.comp]
  split
  · exact ids e
  · rfl

theorem State.freeId_fresh {s : State} (room : s.hasRoom = true) : s.freeId ∉ s.entries.map (·.id) := by
  have short : s.entries.length < Config.queueSize := by simpa [State.hasRoom] using room
  exact freeIdFrom_free (by simp only [List.length_map]; simp only [Config.queueSize] at short; omega) _

theorem State.IdsDistinct.modEntry {s : State} (h : s.IdsDistinct) (id : Byte) {f : Entry → Entry}
    (ids : ∀ e, (f e).id = e.id) : (s.modEntry id f).IdsDistinct := by
  unfold State.IdsDistinct
  rw [State.modEntry_ids s id ids]
  exact h

theorem Move.ids {s t : State} (move : Move s t) (h : s.IdsDistinct) : t.IdsDistinct := by
  cases move with
  | entry id f ids => exact h.modEntry id ids
  | place e room id =>
    unfold State.IdsDistinct
    simp only [State.setEntries_entries, List.map_append, List.map_cons, List.map_nil]
    exact h.append (List.nodup_singleton _) (by simpa [id] using State.freeId_fresh room)
  | admission b id q => exact State.IdsDistinct.modEntry (s := s.setSequencer b q) h id fun _ => rfl
  | join e q | withdraw e q =>
    exact h.modEntry (f := fun x => { x with phase := .waitAdmit }) e.id fun _ => rfl
  | leave e q => exact h.sublist (List.filter_sublist.map _)
  | _ => exact h

/-! ### Lines hold live entries -/

/-- Whether id `id` names a live entry of branch `b` in a phase. -/
def State.HasLive (s : State) (b : Branch) (phase : Phase) (id : Byte) : Prop :=
  ∃ e, e ∈ s.entries ∧ e.id = id ∧ e.phase = phase ∧ s.branchOf e.outlet = b

/-- Lines stay live where the records of one branch alone change and the other branches' waiting and closing entries stay. -/
theorem State.LinesLive.of_branch {s t : State} (h : s.LinesLive) (b : Branch) (settings : t.settings = s.settings)
    (others : ∀ b', b' ≠ b → (t.sequencer b').line = (s.sequencer b').line ∧
      (t.sequencer b').inProgress = (s.sequencer b').inProgress)
    (kept : ∀ e, e ∈ s.entries → s.branchOf e.outlet ≠ b → e ∈ t.entries)
    (here : (t.sequencer b).line.Nodup ∧ (∀ id, id ∈ (t.sequencer b).line → t.HasLive b .waitAdmit id) ∧
      ∀ id, (t.sequencer b).inProgress = some id → t.HasLive b .closing id) : t.LinesLive := by
  have same : ∀ e : Entry, t.branchOf e.outlet = s.branchOf e.outlet := fun e => by simp only [State.branchOf, settings]
  intro b'
  by_cases hb : b' = b
  · subst hb; exact here
  · obtain ⟨nodup, line, progress⟩ := h b'
    obtain ⟨hl, hp⟩ := others b' hb
    rw [hl, hp]
    refine ⟨nodup, fun id hid => ?_, fun id hid => ?_⟩
    · obtain ⟨e, he, hei, hph, hbr⟩ := line id hid
      exact ⟨e, kept e he (hbr ▸ hb), hei, hph, (same e).trans hbr⟩
    · obtain ⟨e, he, hei, hph, hbr⟩ := progress id hid
      exact ⟨e, kept e he (hbr ▸ hb), hei, hph, (same e).trans hbr⟩

/-- Lines stay live where they stay as they are and the entries that wait or close keep what makes them live. -/
theorem State.LinesLive.of_same {s t : State} (h : s.LinesLive) (settings : t.settings = s.settings)
    (same : ∀ b, (t.sequencer b).line = (s.sequencer b).line ∧ (t.sequencer b).inProgress = (s.sequencer b).inProgress)
    (kept : ∀ e, e ∈ s.entries → e.phase = .waitAdmit ∨ e.phase = .closing →
      ∃ e', e' ∈ t.entries ∧ e'.id = e.id ∧ e'.phase = e.phase ∧ e'.outlet = e.outlet) : t.LinesLive := by
  have branch : ∀ k, t.branchOf k = s.branchOf k := fun k => by simp only [State.branchOf, settings]
  intro b
  obtain ⟨nodup, line, progress⟩ := h b
  obtain ⟨hl, hp⟩ := same b
  rw [hl, hp]
  refine ⟨nodup, fun id hid => ?_, fun id hid => ?_⟩
  · obtain ⟨e, he, hei, hph, hbr⟩ := line id hid
    obtain ⟨e', he', hid', hph', hk'⟩ := kept e he (.inl hph)
    exact ⟨e', he', hid'.trans hei, hph'.trans hph, by rw [branch, hk', hbr]⟩
  · obtain ⟨e, he, hei, hph, hbr⟩ := progress id hid
    obtain ⟨e', he', hid', hph', hk'⟩ := kept e he (.inr hph)
    exact ⟨e', he', hid'.trans hei, hph'.trans hph, by rw [branch, hk', hbr]⟩

/-- An update that touches neither the lines nor the entries. -/
theorem State.LinesLive.of_apart {s t : State} (h : s.LinesLive) (settings : t.settings = s.settings)
    (sequencers : t.sequencers = s.sequencers) (entries : t.entries = s.entries) : t.LinesLive :=
  h.of_same settings (fun b => by simp only [State.sequencer, sequencers, and_self])
    fun e he _ => ⟨e, entries ▸ he, rfl, rfl, rfl⟩

/-- An entry in a line is in no close in progress, of its own branch or another, and in no other branch's line. -/
theorem State.LinesLive.apart {s : State} (h : s.LinesLive) (hd : s.IdsDistinct) {b b' : Branch} {id : Byte}
    (hl : id ∈ (s.sequencer b).line) : (s.sequencer b').inProgress ≠ some id := by
  intro hp
  obtain ⟨e, he, hei, hph, -⟩ := (h b).2.1 id hl
  obtain ⟨e', he', hei', hph', -⟩ := (h b').2.2 id hp
  rw [hd.eq_of_id he he' (hei.trans hei'.symm), hph'] at hph
  cases hph

theorem Move.lines {s t : State} (move : Move s t) (hd : s.IdsDistinct) (h : s.LinesLive) : t.LinesLive := by
  have others (b : Branch) (q : Sequencer) (u : State) : ∀ b', b' ≠ b →
      ((u.setSequencer b q).sequencer b').line = (u.sequencer b').line ∧
        ((u.setSequencer b q).sequencer b').inProgress = (u.sequencer b').inProgress := fun b' hb => by
    simp only [State.setSequencer_sequencer, if_neg hb, and_self]
  -- an entry of another branch than `e`'s has another id
  have elsewhere {e x : Entry} (he : e ∈ s.entries) (hx : x ∈ s.entries) (hb : s.branchOf x.outlet ≠ s.branchOf e.outlet) :
      x.id ≠ e.id := fun hid => hb (by rw [hd.eq_of_id hx he hid])
  cases move with
  | remember | tripped | note | nextId | post | tripRun | protection | outlet | grant | release =>
    exact h.of_apart rfl rfl rfl
  | sequencer b q line progress =>
    refine h.of_same rfl (fun b' => ?_) fun e he _ => ⟨e, he, rfl, rfl, rfl⟩
    rw [State.setSequencer_sequencer]
    split
    · next hb => subst hb; exact ⟨line, progress⟩
    · exact ⟨rfl, rfl⟩
  | entry id f ids outlets phase =>
    refine h.of_same rfl (fun _ => ⟨rfl, rfl⟩) fun e he hph => ?_
    by_cases hid : e.id = id
    · refine ⟨f e, State.mem_modEntry_of_eq he hid, ids e, ?_, outlets e⟩
      rcases phase hd e he hid with hf | ⟨h1, h2⟩
      · exact hf
      · exact absurd hph (by simp [h1, h2])
    · exact ⟨e, State.mem_modEntry_of_ne he hid, rfl, rfl, rfl⟩
  | place e =>
    exact h.of_same rfl (fun _ => ⟨rfl, rfl⟩) fun x hx _ => ⟨x, List.mem_append_left _ hx, rfl, rfl, rfl⟩
  | admission b id q line free progress =>
    obtain ⟨nodup, waits, -⟩ := h b
    rw [line] at nodup waits
    obtain ⟨e, he, hei, hph, hbr⟩ := waits id List.mem_cons_self
    subst hei hbr
    refine h.of_branch (s.branchOf e.outlet) rfl (others _ q _) (fun x hx hb =>
      State.mem_modEntry_of_ne (s := s.setSequencer _ q) hx (elsewhere he hx hb)) ?_
    have here : (((s.setSequencer (s.branchOf e.outlet) q).modEntry e.id fun e =>
        { e with phase := .closing, begun := true }).sequencer (s.branchOf e.outlet)) = q :=
      State.setSequencer_sequencer_self ..
    rw [here]
    refine ⟨(List.nodup_cons.mp nodup).2, fun id hid => ?_, fun id hid => ?_⟩
    · obtain ⟨x, hx, hxi, hxp, hxb⟩ := waits id (List.mem_cons_of_mem _ hid)
      refine ⟨x, State.mem_modEntry_of_ne (s := s.setSequencer _ q) hx fun hxe => ?_, hxi, hxp, hxb⟩
      exact (List.nodup_cons.mp nodup).1 (by rw [← hxe, hxi]; exact hid)
    · obtain rfl : e.id = id := Option.some.inj (progress.symm.trans hid)
      exact ⟨{ e with phase := .closing, begun := true },
        State.mem_modEntry_of_eq (s := s.setSequencer _ q) he rfl, rfl, rfl, rfl⟩
  | join e q live waitAdmit closing line progress =>
    obtain ⟨nodup, waits, close⟩ := h (s.branchOf e.outlet)
    have absent {id : Byte} {p : Phase} (hp : e.phase ≠ p)
        (hl : s.HasLive (s.branchOf e.outlet) p id) : id ≠ e.id := by
      rintro rfl
      obtain ⟨x, hx, hxi, hxp, -⟩ := hl
      exact hp (hd.eq_of_id hx live hxi ▸ hxp)
    refine h.of_branch (s.branchOf e.outlet) rfl (others _ q _) (fun x hx hb =>
      State.mem_modEntry_of_ne hx (elsewhere live hx hb)) ?_
    rw [State.setSequencer_sequencer_self]
    refine ⟨line.nodup_iff.mpr (List.nodup_cons.mpr ⟨fun hin => absent waitAdmit (waits _ hin) rfl, nodup⟩),
      fun id hid => ?_, fun id hid => ?_⟩
    · rcases List.mem_cons.mp (line.mem_iff.mp hid) with rfl | hin
      · exact ⟨{ e with phase := .waitAdmit }, State.mem_modEntry_of_eq live rfl, rfl, rfl, rfl⟩
      · obtain ⟨x, hx, rfl, hxp, hxb⟩ := waits id hin
        exact ⟨x, State.mem_modEntry_of_ne hx (absent waitAdmit (waits _ hin)), rfl, hxp, hxb⟩
    · have hl := close id (progress ▸ hid)
      obtain ⟨x, hx, rfl, hxp, hxb⟩ := hl
      exact ⟨x, State.mem_modEntry_of_ne hx (absent closing (close _ (progress ▸ hid))), rfl, hxp, hxb⟩
  | leave e q live line progress =>
    obtain ⟨nodup, waits, close⟩ := h (s.branchOf e.outlet)
    have survives {x : Entry} (hx : x ∈ s.entries) (hne : x.id ≠ e.id) :
        x ∈ s.entries.filter fun y => y.id != e.id := List.mem_filter.mpr ⟨hx, by simpa using hne⟩
    have inLine : ∀ id, id ∈ q.line → id ∈ (s.sequencer (s.branchOf e.outlet)).line ∧ id ≠ e.id := by
      intro id hid
      rcases line with hl | ⟨hl, hp⟩
      · rw [hl] at hid
        exact ⟨List.mem_of_mem_erase hid, fun heq => nodup.not_mem_erase (heq ▸ hid)⟩
      · rw [hl] at hid
        exact ⟨hid, fun heq => h.apart hd (b' := s.branchOf e.outlet) hid (heq ▸ hp)⟩
    refine h.of_branch (s.branchOf e.outlet) rfl (others _ q _) (fun x hx hb => survives hx (elsewhere live hx hb)) ?_
    rw [State.setSequencer_sequencer_self]
    refine ⟨?_, fun id hid => ?_, fun id hid => ?_⟩
    · rcases line with hl | ⟨hl, -⟩ <;> rw [hl]
      · exact nodup.erase _
      · exact nodup
    · obtain ⟨hin, hne⟩ := inLine id hid
      obtain ⟨x, hx, rfl, hxp, hxb⟩ := waits id hin
      exact ⟨x, survives hx hne, rfl, hxp, hxb⟩
    · rcases progress with hn | ⟨hs, hne⟩
      · rw [hn] at hid; cases hid
      · obtain ⟨x, hx, rfl, hxp, hxb⟩ := close id (hs ▸ hid)
        exact ⟨x, survives hx fun heq => hne (heq ▸ hs ▸ hid), rfl, hxp, hxb⟩
  | withdraw e q live line progress =>
    obtain ⟨nodup, waits, -⟩ := h (s.branchOf e.outlet)
    refine h.of_branch (s.branchOf e.outlet) rfl (others _ q _) (fun x hx hb =>
      State.mem_modEntry_of_ne hx (elsewhere live hx hb)) ?_
    rw [State.setSequencer_sequencer_self, line, progress]
    refine ⟨List.nodup_cons.mpr ⟨nodup.not_mem_erase, nodup.erase _⟩, fun id hid => ?_, nofun⟩
    rcases List.mem_cons.mp hid with rfl | hin
    · exact ⟨{ e with phase := .waitAdmit }, State.mem_modEntry_of_eq live rfl, rfl, rfl, rfl⟩
    · obtain ⟨x, hx, rfl, hxp, hxb⟩ := waits id (List.mem_of_mem_erase hin)
      exact ⟨x, State.mem_modEntry_of_ne hx fun heq => nodup.not_mem_erase (heq ▸ hin), rfl, hxp, hxb⟩

theorem Moves.ids {s t : State} (h : Moves s t) (hd : s.IdsDistinct) : t.IdsDistinct := by
  induction h with
  | refl => exact hd
  | tail _ move ih => exact move.ids ih

theorem Moves.lines {s t : State} (h : Moves s t) (hd : s.IdsDistinct) (hl : s.LinesLive) : t.LinesLive := by
  induction h with
  | refl => exact hl
  | tail moves move ih => exact move.lines (Moves.ids moves hd) ih

/-! ### Verdicts, counts and the record of an arrival -/

theorem Move.verdicts {s t : State} (move : Move s t) (h : s.VerdictsWait) : t.VerdictsWait := by
  cases move with
  | outlet k d m coil counts waits =>
    intro j hs hp
    rw [State.setMonitor_monitor] at hs hp
    simp only [State.contact, State.setMonitor_driver, State.setDriver_driver]
    by_cases hj : j = k
    · subst hj
      rw [if_pos rfl] at hs hp
      rw [if_pos rfl]
      rcases waits ⟨hs, hp⟩ with hc | ⟨old, hc, hf⟩
      · exact hc
      · obtain ⟨contact, fault⟩ := h j old.1 old.2
        exact ⟨hc.elim id (·.trans contact), hf.elim id (·.trans fault)⟩
    · rw [if_neg hj] at hs hp
      rw [if_neg hj]; exact h j hs hp
  | grant k d room contact fault | release k d coil contact fault =>
    intro j hs hp
    simp only [State.contact, State.setSlots_driver, State.setDriver_driver]
    split
    · next hj => subst hj; rw [contact, fault]; exact h j hs hp
    · exact h j hs hp
  | _ => exact h

theorem Moves.verdicts {s t : State} (h : Moves s t) (hv : s.VerdictsWait) : t.VerdictsWait := by
  induction h with
  | refl => exact hv
  | tail _ move ih => exact move.verdicts ih

theorem Move.handling {s t : State} (move : Move s t) (h : s.handling = none) : t.handling = none := by
  cases move with
  | note f => show s.handling.map f = none; rw [h]; rfl
  | _ => exact h

theorem Moves.handling {s t : State} (h : Moves s t) (hn : s.handling = none) : t.handling = none := by
  induction h with
  | refl => exact hn
  | tail _ move ih => exact move.handling ih

theorem Port.offers_cons (p : Port) (e : Event) (es : List Event) : p.offers (e :: es) = (p.offer e).offers es := rfl

theorem Port.offer_eq (p : Port) (e : Event) :
    ∃ events overflow alert, p.offer e = { p with events := events, overflow := overflow, alert := alert } := by
  unfold Port.offer
  split
  · exact ⟨_, p.overflow, _, rfl⟩
  · exact ⟨p.events, true, p.alert, rfl⟩

/-- Events that are offered touch a port's queue, its overflow flag and its alert line. -/
theorem Port.offers_eq (p : Port) (es : List Event) :
    ∃ events overflow alert, p.offers es = { p with events := events, overflow := overflow, alert := alert } := by
  induction es generalizing p with
  | nil => exact ⟨p.events, p.overflow, p.alert, rfl⟩
  | cons e es ih =>
    obtain ⟨_, _, _, h⟩ := p.offer_eq e
    obtain ⟨ev, ov, al, h'⟩ := ih (p.offer e)
    exact ⟨ev, ov, al, by rw [Port.offers_cons, h', h]⟩

/-- Counts are in bounds where the part outside the blocks and the links' own counts stay and the blocks' counts are. -/
theorem State.CountersFit.of_blocks {s t : State} (h : s.CountersFit) (fixed : t.fixed = s.fixed)
    (ports : ∀ x, ∃ es, t.port x = (s.port x).offers es)
    (staggers : ∀ b, (t.sequencer b).stagger ≤ 255)
    (branches : ∀ b, (t.protection b).overRun ≤ 255 ∧ (t.protection b).restartCount ≤ 255)
    (trips : ∀ k, t.tripRun k ≤ 255)
    (monitors : ∀ k, (t.monitor k).evidence ≤ 255 ∧ (t.monitor k).silence ≤ look s.settings.monWindow k * 3840) :
    t.CountersFit where
  clock := by rw [show t.subSecond = s.subSecond from congrArg Fixed.subSecond fixed]; exact h.clock
  ages k := by rw [State.age, show t.senseAge = s.senseAge from congrArg Fixed.senseAge fixed]; exact h.ages k
  breakers b := by rw [State.breaker, show t.breakers = s.breakers from congrArg Fixed.breakers fixed]; exact h.breakers b
  feeds f := by rw [State.tracker, show t.trackers = s.trackers from congrArg Fixed.trackers fixed]; exact h.feeds f
  staggers := staggers
  branches := branches
  trips := trips
  monitors k := by rw [show t.settings = s.settings from congrArg Fixed.settings fixed]; exact monitors k
  links x := by
    obtain ⟨es, he⟩ := ports x
    obtain ⟨_, _, _, hp⟩ := (s.port x).offers_eq es
    rw [he, hp]
    exact h.links x

theorem Move.counters {s t : State} (move : Move s t) (h : s.CountersFit) : t.CountersFit := by
  have all (staggers : ∀ b, (t.sequencer b).stagger ≤ 255)
    (branches : ∀ b, (t.protection b).overRun ≤ 255 ∧ (t.protection b).restartCount ≤ 255)
    (trips : ∀ k, t.tripRun k ≤ 255)
    (monitors : ∀ k, (t.monitor k).evidence ≤ 255 ∧ (t.monitor k).silence ≤ look s.settings.monWindow k * 3840) :=
    h.of_blocks move.fixed move.ports staggers branches trips monitors
  have stagger (u : State) (b : Branch) (q : Sequencer) (hu : u.sequencers = s.sequencers)
      (hq : q.stagger = (s.sequencer b).stagger ∨ q.stagger ≤ 255) : ∀ b', ((u.setSequencer b q).sequencer b').stagger ≤ 255 := by
    intro b'
    rw [State.setSequencer_sequencer, State.sequencer, hu]
    split
    · exact hq.elim (fun e => e ▸ h.staggers b) id
    · exact h.staggers b'
  cases move with
  | tripRun k n bound =>
    refine all h.staggers h.branches (fun j => ?_) h.monitors
    rw [State.setTripRun_tripRun]
    split
    · exact bound
    · exact h.trips j
  | protection b p sum overRun restarts =>
    refine all h.staggers (fun b' => ?_) h.trips h.monitors
    rw [State.setProtection_protection]
    split
    · exact ⟨overRun ▸ (h.branches b).1, restarts.elim (fun e => e ▸ (h.branches b).2) id⟩
    · exact h.branches b'
  | outlet k d m coil counts =>
    refine all h.staggers h.branches h.trips fun j => ?_
    rw [State.setMonitor_monitor]
    split
    · next hj =>
      subst hj
      exact ⟨counts.1.elim (fun e => e ▸ (h.monitors j).1) id, counts.2.elim (fun e => e ▸ (h.monitors j).2) id⟩
    · exact h.monitors j
  | sequencer b q _ _ hq => exact all (stagger s b q rfl hq) h.branches h.trips h.monitors
  | admission b id q _ _ _ hq => exact all (stagger s b q rfl (.inl hq)) h.branches h.trips h.monitors
  | join e q _ _ _ _ _ hq =>
    exact all (stagger (s.modEntry e.id _) _ q rfl (.inl hq)) h.branches h.trips h.monitors
  | leave e q _ _ _ hq => exact all (stagger (s.setEntries _) _ q rfl hq) h.branches h.trips h.monitors
  | withdraw e q _ _ _ hq => exact all (stagger (s.modEntry e.id _) _ q rfl hq) h.branches h.trips h.monitors
  | _ => exact all h.staggers h.branches h.trips h.monitors

theorem Moves.counters {s t : State} (h : Moves s t) (hc : s.CountersFit) : t.CountersFit := by
  induction h with
  | refl => exact hc
  | tail _ move ih => exact move.counters ih

end Sys2Proof.Machine

/-! PROOF. Every operation of the blocks is a chain of moves: one lemma for each, in the order of the definitions. -/

namespace Sys2Proof.Machine

variable {s t : State}

/-! ### Small facts about what the moves ask for -/

theorem holdUp_le (limit n : Nat) : holdUp limit n ≤ limit := by
  unfold holdUp
  split
  · exact le_rfl
  · omega

theorem Monitor.CountsFrom.rfl {m : Monitor} {w : Nat} : m.CountsFrom m w := ⟨.inl (Eq.refl _), .inl (Eq.refl _)⟩

@[simp] theorem Monitor.withdraw_evidence (m : Monitor) : m.withdraw.evidence = m.evidence := by
  unfold Monitor.withdraw; split <;> rfl

@[simp] theorem Monitor.withdraw_silence (m : Monitor) : m.withdraw.silence = m.silence := by
  unfold Monitor.withdraw; split <;> rfl

theorem Monitor.not_waits_withdraw (m : Monitor) : ¬m.withdraw.waits := by
  unfold Monitor.withdraw Monitor.waits
  split
  · simp
  · next h => exact h

theorem Monitor.countsFrom_withdraw (m : Monitor) (w : Nat) : m.CountsFrom m.withdraw w :=
  ⟨.inl m.withdraw_evidence, .inl m.withdraw_silence⟩

theorem Monitor.countsFrom_completion (m : Monitor) (kind : Kind) (o : Origin) (r : ActionResult) (g w : Nat) :
    m.CountsFrom (m.completion kind o r g) w := by
  unfold Monitor.completion Monitor.CountsFrom
  split
  · simp
  · split
    · cases kind <;> simp [Monitor.enterGrace, Monitor.closeDone]
    · split <;> simp

theorem Monitor.waits_of_completion {m : Monitor} {kind : Kind} {o : Origin} {r : ActionResult} {g : Nat}
    (h : (m.completion kind o r g).waits) : m.waits := by
  unfold Monitor.completion at h
  split at h
  · exact h
  · split at h
    · cases kind
      · exact h
      · exact absurd h.1 (by simp [Monitor.closeDone])
      · exact absurd h.1 (by simp [Monitor.enterGrace])
    · split at h
      · exact absurd h.1 (by simp)
      · exact h

theorem State.paused_eq_false {s : State} {k : Outlet} :
    s.paused k = false ↔ s.contact k = .closed ∧ s.entryOf k = none ∧ (s.driver k).fault = none := by
  simp [State.paused, and_assoc]

theorem State.blockReason_none {s : State} {b : Branch} {k : Outlet} (h : s.blockReason b k = .none) :
    (s.sequencer b).inProgress = none := by
  unfold State.blockReason at h
  split at h
  · cases h
  · split at h
    · cases h
    · next hp => simpa using hp

theorem Sequencer.endClose_stagger (q : Sequencer) : q.endClose.stagger = q.stagger ∨ q.endClose.stagger ≤ 255 := by
  unfold Sequencer.endClose
  dsimp only
  split
  · exact .inr (Nat.zero_le _)
  · exact .inl rfl

theorem insertReturned_perm (outletOf : Byte → Option Outlet) (returned : List Byte) (k : Outlet) (id : Byte)
    (line : List Byte) : (insertReturned outletOf returned k id line).Perm (id :: line) := by
  induction line with
  | nil => exact List.Perm.refl _
  | cons h rest ih =>
    unfold insertReturned
    split
    · exact List.Perm.refl _
    · exact (ih.cons h).trans (List.Perm.swap ..)

theorem State.lineWith_perm (s : State) (e : Entry) (line : List Byte) : (s.lineWith e line).Perm (e.id :: line) := by
  unfold State.lineWith
  split
  · exact insertReturned_perm ..
  · exact List.perm_append_singleton ..

theorem nextOverRun_le (limit sum run : Nat) : nextOverRun limit sum run ≤ 255 := by
  unfold nextOverRun
  split
  · exact Nat.zero_le _
  · split
    · exact holdUp_le ..
    · exact Nat.zero_le _

theorem State.nextTripRun_le (s : State) (k : Outlet) : s.nextTripRun k ≤ 255 := by
  unfold State.nextTripRun
  split
  · exact Nat.zero_le _
  · split
    · exact holdUp_le ..
    · exact Nat.zero_le _

/-! The driver's own moves leave its contact and its fault. -/

@[simp] theorem Driver.joinUrgentOpen_contact (d : Driver) (i m : UrgentMode) : (d.joinUrgentOpen i m).contact = d.contact := by
  unfold Driver.joinUrgentOpen; split <;> rfl

@[simp] theorem Driver.joinUrgentOpen_fault (d : Driver) (i m : UrgentMode) : (d.joinUrgentOpen i m).fault = d.fault := by
  unfold Driver.joinUrgentOpen; split <;> rfl

@[simp] theorem Driver.feedLeaves_contact (d : Driver) : d.feedLeaves.contact = d.contact := by
  unfold Driver.feedLeaves; split <;> rfl

@[simp] theorem Driver.feedLeaves_fault (d : Driver) : d.feedLeaves.fault = d.fault := by
  unfold Driver.feedLeaves; split <;> rfl

@[simp] theorem Driver.counts_contact (d : Driver) (a : Bool) : (d.counts a).contact = d.contact := by
  unfold Driver.counts; split
  · rfl
  · split <;> rfl
  · rfl

@[simp] theorem Driver.counts_fault (d : Driver) (a : Bool) : (d.counts a).fault = d.fault := by
  unfold Driver.counts; split
  · rfl
  · split <;> rfl
  · rfl

@[simp] theorem Driver.takeNotice_contact (d : Driver) (a b : Bool) : (d.takeNotice a b).contact = d.contact := by
  cases a <;> cases b <;> simp [Driver.takeNotice, Driver.clearMet]

@[simp] theorem Driver.takeNotice_fault (d : Driver) (a b : Bool) : (d.takeNotice a b).fault = d.fault := by
  cases a <;> cases b <;> simp [Driver.takeNotice, Driver.clearMet]

/-! ### Chains -/

theorem Moves.refl (s : State) : Moves s s := Relation.ReflTransGen.refl

theorem Moves.trans {u : State} (h : Moves s t) (g : Moves t u) : Moves s u := Relation.ReflTransGen.trans h g

theorem Moves.move {u : State} (h : Moves s t) (g : Move t u) : Moves s u := Relation.ReflTransGen.tail h g

theorem Moves.foldl {α : Type} {f : State → α → State} (hf : ∀ s a, Moves s (f s a)) (l : List α) {s t : State}
    (h : Moves s t) : Moves s (l.foldl f t) := by
  induction l generalizing t with
  | nil => exact h
  | cons a l ih => exact ih (h.trans (hf t a))

theorem Moves.ite {s t u : State} {p : Prop} [Decidable p] (h : p → Moves s t) (g : ¬p → Moves s u) :
    Moves s (if p then t else u) := by
  split
  · next hp => exact h hp
  · next hp => exact g hp

/-! ### The updates -/

theorem Moves.remember (h : Moves s t) (k : Outlet) (n : Nat) : Moves s (t.setMeter k { t.meter k with remembered := n }) :=
  h.move (.remember k n)

theorem Moves.setTripped (h : Moves s t) (k : Outlet) (v : Bool) : Moves s (t.setTripped k v) := h.move (.tripped k v)

theorem Moves.note (h : Moves s t) (f : Handling → Handling) : Moves s (t.note f) := h.move (.note f)

theorem Moves.noteReturn (h : Moves s t) (id : Byte) : Moves s (t.noteReturn id) := h.note _

theorem Moves.noteTry (h : Moves s t) (k : Outlet) : Moves s (t.noteTry k) := h.note _

theorem Moves.setNextId (h : Moves s t) (v : Byte) : Moves s (t.setNextId v) := h.move (.nextId v)

theorem Moves.post (h : Moves s t) (body : EventBody) (source : EventOrigin) : Moves s (t.post body source) :=
  h.move (.post body source)

theorem Moves.setTripRun (h : Moves s t) (k : Outlet) {n : Nat} (bound : n ≤ 255) : Moves s (t.setTripRun k n) :=
  h.move (.tripRun k n bound)

theorem Moves.setProtection (h : Moves s t) (b : Branch) {p : Protection} (sum : p.sum = (t.protection b).sum)
    (overRun : p.overRun = (t.protection b).overRun)
    (restarts : p.restartCount = (t.protection b).restartCount ∨ p.restartCount ≤ 255) :
    Moves s (t.setProtection b p) := h.move (.protection b p sum overRun restarts)

/-- A protection's other fields replaced. -/
theorem Moves.setProtection_counts (h : Moves s t) (b : Branch) {p : Protection} (sum : p.sum = (t.protection b).sum)
    (overRun : p.overRun = (t.protection b).overRun) (restarts : p.restartCount = (t.protection b).restartCount) :
    Moves s (t.setProtection b p) := h.setProtection b sum overRun (.inl restarts)

/-- A driver replaced by one with the same coil, contact and fault. -/
theorem Moves.setDriver (h : Moves s t) (k : Outlet) {d : Driver} (coil : d.coil = (t.driver k).coil)
    (contact : d.contact = (t.driver k).contact) (fault : d.fault = (t.driver k).fault ∨ d.fault = none) :
    Moves s (t.setDriver k d) := by
  have g := h.move (.outlet k d (t.monitor k) coil .rfl fun w => .inr ⟨w, .inr contact, fault.symm⟩)
  rwa [show (t.setDriver k d).setMonitor k (t.monitor k) = t.setDriver k d from State.setMonitor_self (t.setDriver k d) k] at g

/-- A monitor replaced by one that waits only where it waited, or where its outlet is closed and its relay sound. -/
theorem Moves.setMonitor (h : Moves s t) (k : Outlet) {m : Monitor}
    (counts : (t.monitor k).CountsFrom m (t.windowLength k))
    (waits : m.waits → (t.monitor k).waits ∨ t.contact k = .closed ∧ (t.driver k).fault = none) :
    Moves s (t.setMonitor k m) := by
  have g := h.move (.outlet k (t.driver k) m rfl counts fun w =>
    (waits w).elim (fun old => .inr ⟨old, .inr rfl, .inr rfl⟩) .inl)
  rwa [State.setDriver_self] at g

/-- A monitor replaced by one that does not wait. -/
theorem Moves.setMonitor_calm (h : Moves s t) (k : Outlet) {m : Monitor}
    (counts : (t.monitor k).CountsFrom m (t.windowLength k)) (calm : ¬m.waits) : Moves s (t.setMonitor k m) :=
  h.setMonitor k counts fun w => absurd w calm

theorem Moves.setSequencer (h : Moves s t) (b : Branch) {q : Sequencer} (line : q.line = (t.sequencer b).line)
    (progress : q.inProgress = (t.sequencer b).inProgress)
    (stagger : q.stagger = (t.sequencer b).stagger ∨ q.stagger ≤ 255) : Moves s (t.setSequencer b q) :=
  h.move (.sequencer b q line progress stagger)

/-- An entry that neither waits nor closes changed in place. -/
theorem Moves.modEntry (h : Moves s t) {e : Entry} (live : e ∈ t.entries) (free : e.phase ≠ .waitAdmit ∧ e.phase ≠ .closing)
    {f : Entry → Entry} (ids : ∀ e, (f e).id = e.id) (outlets : ∀ e, (f e).outlet = e.outlet) :
    Moves s (t.modEntry e.id f) :=
  h.move (.entry e.id f ids outlets fun hd _ hx hid => .inr (hd.eq_of_id hx live hid ▸ free))

/-- Entries changed in place that keep their phase. -/
theorem Moves.modEntry_phase (h : Moves s t) (id : Byte) {f : Entry → Entry} (ids : ∀ e, (f e).id = e.id)
    (outlets : ∀ e, (f e).outlet = e.outlet) (phase : ∀ e, (f e).phase = e.phase) : Moves s (t.modEntry id f) :=
  h.move (.entry id f ids outlets fun _ e _ _ => .inl (phase e))


/-! ### Close Sequencer -/

theorem Moves.handOver (h : Moves s t) (k : Outlet) (d : Direction) : Moves s (t.handOver k d) :=
  h.setDriver k rfl rfl (.inl rfl)

theorem Moves.testHead (h : Moves s t) (b : Branch) : Moves s (t.testHead b) := by
  unfold State.testHead
  split
  · exact h.setSequencer b rfl rfl (.inl rfl)
  · next id rest hline =>
    split
    · exact h
    · split
      · next e _ _ hreason =>
        have g := h.move (.admission b id
          { t.sequencer b with line := rest, inProgress := some id, pulseMark := false, reason := reasonBehind rest }
          hline (State.blockReason_none hreason) rfl rfl)
        exact g.handOver _ _
      · exact h.setSequencer b rfl rfl (.inl rfl)

/-- An entry that does not wait or close yet joins its line. -/
theorem Moves.joinLine (h : Moves s t) {e : Entry} (live : e ∈ t.entries) (free : e.phase ≠ .waitAdmit ∧ e.phase ≠ .closing) :
    Moves s (t.joinLine e) := by
  have g := h.move (.join e { t.sequencer (t.branchOf e.outlet) with
    line := t.lineWith e (t.sequencer (t.branchOf e.outlet)).line } live free.1 free.2 (t.lineWith_perm ..) rfl rfl)
  unfold State.joinLine
  exact Moves.ite (fun _ => g.testHead _) fun _ => g

theorem Moves.sequencerStage (h : Moves s t) (b : Branch) : Moves s (t.sequencerStage b) := by
  have g : Moves s (t.setSequencer b
      { t.sequencer b with stagger := holdUp Config.byteMax (t.sequencer b).stagger }) :=
    h.setSequencer b rfl rfl (.inr (holdUp_le ..))
  exact g.testHead b

theorem Moves.pulseStarted (h : Moves s t) (b : Branch) : Moves s (t.pulseStarted b) :=
  h.setSequencer b rfl rfl (.inl rfl)

/-! ### Monitor core and Action Queue -/

theorem Moves.heartbeatAt (h : Moves s t) (k : Outlet) : Moves s (t.heartbeatAt k) :=
  Moves.ite (fun _ => h) fun _ => h.setMonitor_calm k ⟨.inr (Nat.zero_le _), .inr (Nat.zero_le _)⟩
    (by simp [Monitor.waits, Monitor.heartbeat])

theorem Moves.graceTurn (h : Moves s t) (k : Outlet) : Moves s (t.graceTurn k) :=
  Moves.ite (fun _ => h.setMonitor_calm k ⟨.inr (Nat.zero_le _), .inr (Nat.zero_le _)⟩
    (by simp [Monitor.waits, Monitor.expireGrace])) fun _ => h

theorem Moves.monitorCompletion (h : Moves s t) (k : Outlet) (kind : Kind) (o : Origin) (r : ActionResult) :
    Moves s (t.monitorCompletion k kind o r) :=
  h.setMonitor k (Monitor.countsFrom_completion ..) fun w => .inl (Monitor.waits_of_completion w)

/-- A live entry completes: it leaves the queue and its branch's sequencer at once, whatever is told in between. -/
theorem Moves.complete (h : Moves s t) {e : Entry} (live : e ∈ t.entries) (r : ActionResult) (d : ResultDetail) :
    Moves s (t.complete e r d) := by
  have after (q : Sequencer) (line) (progress) (stagger) :
      Moves s (((((t.setEntries (t.entries.filter fun x => x.id != e.id)).post
        (.actionEnded e.outlet e.id e.kind r d) e.eventOrigin).monitorCompletion e.outlet e.kind e.origin r)).setSequencer
          (t.branchOf e.outlet) q) :=
    ((h.move (.leave e q live line progress stagger)).post (.actionEnded e.outlet e.id e.kind r d)
      e.eventOrigin).monitorCompletion e.outlet e.kind e.origin r
  by_cases progress : (t.sequencer (t.branchOf e.outlet)).inProgress = some e.id
  · have ended := (after (t.sequencer (t.branchOf e.outlet)).endClose (.inr ⟨rfl, progress⟩) (.inl rfl)
      (Sequencer.endClose_stagger _)).testHead (t.branchOf e.outlet)
    unfold State.complete State.sequencerCompletion
    exact (if_pos progress).symm ▸ ended
  · have left := after { t.sequencer (t.branchOf e.outlet) with
      line := (t.sequencer (t.branchOf e.outlet)).line.erase e.id } (.inl rfl) (.inr ⟨rfl, progress⟩) (.inl rfl)
    have stays (absent : e.id ∉ (t.sequencer (t.branchOf e.outlet)).line) :=
      after (t.sequencer (t.branchOf e.outlet)) (.inl (List.erase_of_not_mem absent).symm) (.inr ⟨rfl, progress⟩) (.inl rfl)
    unfold State.complete State.sequencerCompletion
    split
    · next contra => exact absurd contra progress
    · split
      · exact Moves.ite (fun _ => left.testHead _) fun _ => left
      · next absent =>
        have kept := stays fun mem => absent (List.contains_iff_mem.mpr mem)
        exact Eq.mp (congrArg (Moves s) (State.setSequencer_self _ (t.branchOf e.outlet))) kept

theorem Moves.startOpening (h : Moves s t) {e : Entry} (live : e ∈ t.entries)
    (free : e.phase ≠ .waitAdmit ∧ e.phase ≠ .closing) : Moves s (t.startOpening e) :=
  (h.modEntry live free (by exact fun _ => rfl) (by exact fun _ => rfl)).handOver _ _

theorem Moves.startOffHold (h : Moves s t) {e : Entry} (live : e ∈ t.entries)
    (free : e.phase ≠ .waitAdmit ∧ e.phase ≠ .closing) : Moves s (t.startOffHold e) :=
  h.modEntry live free (by exact fun _ => rfl) (by exact fun _ => rfl)

theorem Moves.stepEntry (h : Moves s t) {e : Entry} (live : e ∈ t.entries)
    (free : e.phase ≠ .waitAdmit ∧ e.phase ≠ .closing) : Moves s (t.stepEntry e) := by
  unfold State.stepEntry
  split
  · exact h.complete live _ _
  · exact h.startOpening live free
  · exact h.complete live _ _
  · exact h.joinLine live free
  · exact h.startOffHold live free
  · exact h.startOpening live free

theorem Moves.firstStep (h : Moves s t) (k : Outlet) : Moves s (t.firstStep k) := by
  unfold State.firstStep
  split
  · exact h
  · next e he => exact Moves.ite (fun hq => h.stepEntry (State.mem_of_entryOf he) (by simp [hq.1])) fun _ => h

theorem Moves.answerTrip (h : Moves s t) (k : Outlet) (kind : Kind) : Moves s (t.answerTrip k kind) :=
  Moves.ite (fun _ => h) fun _ => h.setTripped _ _

theorem Moves.offHoldTurn (h : Moves s t) (k : Outlet) : Moves s (t.offHoldTurn k) := by
  unfold State.offHoldTurn
  split
  · exact h
  · next e he =>
    exact Moves.ite (fun hq => (h.noteReturn e.id).joinLine (State.mem_of_entryOf he) (by simp [hq.1])) fun _ => h

/-! ### Placement: the id taken is free -/

theorem Moves.place (h : Moves s t) (k : Outlet) (kind : Kind) (o : Origin) (m : Bool) (tag : Option Byte) (off : Nat)
    (hroom : t.hasRoom = true) : Moves s (t.place k kind o m tag off) :=
  (((h.move (.place (t.newEntry k kind o m tag off) hroom rfl rfl)).setNextId _).answerTrip _ _).firstStep _

/-! ### Relay Driver -/

theorem Moves.testHeadOf (h : Moves s t) (k : Outlet) : Moves s (t.testHeadOf k) := by
  unfold State.testHeadOf
  split
  · exact h
  · exact Moves.ite (fun _ => h.testHead _) fun _ => h

/-- A driver that drops or changes its step, and whose contact then moves. -/
theorem Moves.setContact_after (h : Moves s t) (k : Outlet) {d : Driver} (coil : d.coil = (t.driver k).coil)
    (contact : d.contact = (t.driver k).contact) (fault : d.fault = (t.driver k).fault ∨ d.fault = none) (c : Contact) :
    Moves s ((t.setDriver k d).setContact k c) := by
  have shown {m : Monitor} (counts : (t.monitor k).CountsFrom m (t.windowLength k))
      (waits : m.waits → (t.monitor k).waits ∧ (c = .closed ∨ c = (t.driver k).contact)) :
      Moves s (((t.setDriver k d).setDriver k { (t.setDriver k d).driver k with contact := c }).setMonitor k m) := by
    rw [State.setDriver_setDriver, State.setDriver_driver_self]
    exact h.move (.outlet k { d with contact := c } m coil counts fun w => .inr ⟨(waits w).1, (waits w).2, fault.symm⟩)
  have kept (stays : c = .closed ∨ c = (t.driver k).contact) :
      Moves s ((t.setDriver k d).setDriver k { (t.setDriver k d).driver k with contact := c }) :=
    State.setMonitor_self ((t.setDriver k d).setDriver k { (t.setDriver k d).driver k with contact := c }) k ▸
      shown .rfl fun w => ⟨w, stays⟩
  have moved := shown ((t.monitor k).countsFrom_withdraw _) fun w => absurd w (Monitor.not_waits_withdraw _)
  have old : (t.setDriver k d).contact k = (t.driver k).contact := by
    rw [State.contact, State.setDriver_driver_self, contact]
  unfold State.setContact
  dsimp only
  rw [old]
  split
  · next same => exact kept (.inr same)
  · split
    · exact kept (.inl rfl)
    · exact moved
    · exact (moved.remember k (((t.meter k).windowResult.map (·.imA)).getD 0)).testHeadOf k

theorem Moves.setContact (h : Moves s t) (k : Outlet) (c : Contact) : Moves s (t.setContact k c) := by
  have g := h.setContact_after k (d := t.driver k) rfl rfl (.inl rfl) c
  rwa [State.setDriver_self] at g

theorem Moves.reportEnd (h : Moves s t) (k : Outlet) (source : StepSource) (how : HowSet) :
    Moves s (t.reportEnd k source how) := by
  unfold State.reportEnd
  split
  · next e he =>
    have live := State.mem_of_entryOf he
    exact Moves.ite (fun hq => h.startOffHold live (by simp [hq.2])) fun _ => h.complete live _ _
  · next e he => exact Moves.ite (fun _ => h.complete (State.mem_of_entryOf he) _ _) fun _ => h
  · exact h

theorem Moves.endStep (h : Moves s t) (k : Outlet) (step : Step) (how : HowSet) : Moves s (t.endStep k step how) := by
  have g := h.setContact_after k (d := (t.driver k).idle) rfl rfl (.inl rfl) step.direction.contact
  unfold State.endStep
  exact ((g.post _ _).reportEnd _ _ _).firstStep _

theorem Moves.failEntry (h : Moves s t) (k : Outlet) (f : RelayFault) : Moves s (t.failEntry k f) := by
  unfold State.failEntry
  split
  · exact h
  · next e he => exact h.complete (State.mem_of_entryOf he) _ _

/-- A relay fault with the contact it shows: no verdict is left waiting (R118, R149). -/
theorem Moves.faultContact (h : Moves s t) (k : Outlet) {d : Driver} (coil : d.coil = (t.driver k).coil) (c : Contact) :
    Moves s (((t.setDriver k d).setContact k c).setMonitor k
      (((t.setDriver k d).setContact k c).monitor k).withdraw) := by
  have shown : Moves s (((t.setDriver k d).setDriver k { (t.setDriver k d).driver k with contact := c }).setMonitor k
      (t.monitor k).withdraw) := by
    rw [State.setDriver_setDriver, State.setDriver_driver_self]
    exact h.move (.outlet k { d with contact := c } _ coil ((t.monitor k).countsFrom_withdraw _) fun w =>
      absurd w (Monitor.not_waits_withdraw _))
  unfold State.setContact
  dsimp only
  split
  · exact shown
  · split
    · exact shown
    · have g := shown.setMonitor_calm k (Monitor.countsFrom_withdraw _ _) (Monitor.not_waits_withdraw _)
      exact g
    · have g := (shown.remember k (((t.meter k).windowResult.map (·.imA)).getD 0)).testHeadOf k
      exact g.setMonitor_calm k (Monitor.countsFrom_withdraw _ _) (Monitor.not_waits_withdraw _)

theorem Moves.declareFault (h : Moves s t) (k : Outlet) (step : Step) : Moves s (t.declareFault k step) := by
  have g := h.faultContact k (d := { (t.driver k).idle with state := .faulted, fault := some step.direction.fault }) rfl
    step.direction.fault.contact
  unfold State.declareFault
  exact (g.post _ _).failEntry _ _

theorem Moves.giveUp (h : Moves s t) (k : Outlet) : Moves s (t.giveUp k) := h.setDriver k rfl rfl (.inl rfl)

theorem State.setSequencer_endClose (s : State) (b : Branch) (q : Sequencer) :
    (s.setSequencer b q).endClose b = (s.setSequencer b q.endClose).testHead b := by
  rw [State.endClose, State.setSequencer_sequencer_self, State.setSequencer_setSequencer]

theorem Moves.withdrawClose (h : Moves s t) (k : Outlet) : Moves s (t.withdrawClose k) := by
  unfold State.withdrawClose
  split
  · exact h.giveUp _
  · next e he =>
    obtain rfl := State.outlet_of_entryOf he
    have withdrawn := (h.giveUp e.outlet).move (.withdraw e
      { t.sequencer (t.branchOf e.outlet) with
        line := e.id :: (t.sequencer (t.branchOf e.outlet)).line.erase e.id, inProgress := none,
        stagger := if (t.sequencer (t.branchOf e.outlet)).pulseMark then 0
          else (t.sequencer (t.branchOf e.outlet)).stagger } (State.mem_of_entryOf he) rfl rfl
      (Sequencer.endClose_stagger (t.sequencer (t.branchOf e.outlet))))
    have g := (withdrawn.note fun h => { h with returned := h.returned.erase e.id }).testHead (t.branchOf e.outlet)
    dsimp only
    rw [State.setSequencer_endClose]
    exact g

theorem Moves.retry (h : Moves s t) (k : Outlet) (step : Step) : Moves s (t.retry k step) :=
  h.setDriver k rfl rfl (.inl rfl)

theorem Moves.endVerify (h : Moves s t) (k : Outlet) (step : Step) : Moves s (t.endVerify k step) :=
  Moves.ite (fun _ => h.endStep _ _ _) fun _ =>
    Moves.ite (fun _ => Moves.ite (fun _ => h.withdrawClose _) fun _ => h.retry _ _) fun _ => h.declareFault _ _

theorem Moves.preemptEntry (h : Moves s t) (k : Outlet) : Moves s (t.preemptEntry k) := by
  unfold State.preemptEntry
  split
  · exact h
  · next e he =>
    exact Moves.ite
      (fun _ => h.modEntry_phase _ (by exact fun _ => rfl) (by exact fun _ => rfl) (by exact fun _ => rfl))
      fun _ => h.complete (State.mem_of_entryOf he) _ _

theorem Moves.takeUrgent (h : Moves s t) (k : Outlet) (m : UrgentMode) : Moves s (t.takeUrgent k m) :=
  h.setDriver k rfl rfl (.inl rfl)

theorem Moves.urgentAtDriver (h : Moves s t) (k : Outlet) (m : UrgentMode) : Moves s (t.urgentAtDriver k m) := by
  unfold State.urgentAtDriver
  dsimp only
  split
  · split
    · exact h
    · exact h.post _ _
  · exact Moves.ite (fun _ => h) fun _ => h.takeUrgent _ _
  · exact h.takeUrgent _ _
  · split
    · exact h.setDriver k (by simp) (by simp) (by simp)
    · split
      · exact h.setDriver k rfl rfl (.inl rfl)
      · exact h.setDriver k rfl rfl (.inl rfl)
      · exact h.setDriver k rfl rfl (.inl rfl)
      · exact (h.setContact _ _).takeUrgent _ _
      · exact h.takeUrgent _ _

theorem Moves.urgentOpen (h : Moves s t) (k : Outlet) (m : UrgentMode) : Moves s (t.urgentOpen k m) :=
  (h.preemptEntry _).urgentAtDriver _ _

theorem Moves.releaseCoil (h : Moves s t) (k : Outlet) : Moves s (t.releaseCoil k) := h.move (.release k _ rfl rfl rfl)

/-- The contact's change to UNKNOWN leaves the queue. -/
theorem State.setContact_unknown_entries (s : State) (k : Outlet) : (s.setContact k .unknown).entries = s.entries := by
  unfold State.setContact
  dsimp only
  split <;> rfl

theorem Moves.endPreempted (h : Moves s t) (k : Outlet) {e : Entry} (live : e ∈ t.entries) :
    Moves s (t.endPreempted k e) := by
  have g := (h.setContact_after k (d := (t.driver k).idle) rfl rfl (.inl rfl) .unknown).complete (e := e)
    (by rw [State.setContact_unknown_entries]; exact live) .preempted .none
  unfold State.endPreempted
  dsimp only
  split
  · exact g.firstStep _
  · exact g.takeUrgent _ _

theorem Moves.judgePulse (h : Moves s t) (k : Outlet) (step : Step) : Moves s (t.judgePulse k step) :=
  Moves.ite (fun _ => h.endStep _ _ _) fun _ => h.setDriver k rfl rfl (.inl rfl)

theorem Moves.afterPulse (h : Moves s t) (k : Outlet) (step : Step) : Moves s (t.afterPulse k step) := by
  unfold State.afterPulse
  split
  · next e he =>
    exact Moves.ite (fun _ => h.endPreempted _ (State.mem_of_entryOf he)) fun _ => h.judgePulse _ _
  · exact h.judgePulse _ _

theorem Moves.endPulse (h : Moves s t) (k : Outlet) (step : Step) : Moves s (t.endPulse k step) :=
  (h.releaseCoil _).afterPulse _ _

theorem Moves.driverNotice (h : Moves s t) (k : Outlet) : Moves s (t.driverNotice k) :=
  h.setDriver k (by simp) (by simp) (by simp)

theorem Moves.driverHears (h : Moves s t) (k : Outlet) : Moves s (t.driverHears k) :=
  h.setDriver k (by simp) (by simp) (by simp)

theorem Moves.discoveredClosed (h : Moves s t) (k : Outlet) : Moves s (t.discoveredClosed k) := by
  unfold State.discoveredClosed
  split
  · exact h
  · next e he => exact Moves.ite (fun _ => h.complete (State.mem_of_entryOf he) _ _) fun _ => h

theorem Moves.discover (h : Moves s t) (k : Outlet) : Moves s (t.discover k) :=
  Moves.ite (fun _ => ((h.setContact _ _).post _ _).discoveredClosed _) fun _ => (h.setContact _ _).post _ _

theorem Moves.leavingTurn (h : Moves s t) (k : Outlet) : Moves s (t.leavingTurn k) := by
  unfold State.leavingTurn
  split
  · split
    · exact h.endStep _ _ _
    · exact h.setDriver k (by simp) (by simp) (by simp)
  · exact h

theorem Moves.verifyTurn (h : Moves s t) (k : Outlet) : Moves s (t.verifyTurn k) := by
  unfold State.verifyTurn
  split
  · exact Moves.ite (fun _ => h.endVerify _ _) fun _ => h
  · exact h

theorem Moves.pulseTurn (h : Moves s t) (k : Outlet) : Moves s (t.pulseTurn k) := by
  unfold State.pulseTurn
  split
  · exact Moves.ite (fun _ => h.endPulse _ _) fun _ => h
  · exact h

theorem Moves.driverTurn (h : Moves s t) (k : Outlet) : Moves s (t.driverTurn k) := by
  unfold State.driverTurn
  split
  · exact h.pulseTurn _
  · exact h.verifyTurn _
  · exact Moves.ite (fun _ => h.discover _) fun _ => h
  · exact h

theorem Moves.meetPhase (h : Moves s t) (k : Outlet) : Moves s (t.meetPhase k) := by
  unfold State.meetPhase
  split
  · split
    · exact h
    · exact h.setDriver k rfl rfl (.inl rfl)
  · exact h

theorem Moves.slip (h : Moves s t) (k : Outlet) : Moves s (t.slip k) := by
  unfold State.slip
  split
  · exact h
  · exact Moves.ite (fun _ => h.setDriver k rfl rfl (.inl rfl)) fun _ => h

/-- A grant where a slot is free. -/
theorem Moves.grant (h : Moves s t) (k : Outlet) (room : t.slots.length + 1 ≤ Config.coilSlots) : Moves s (t.grant k) := by
  unfold State.grant
  split
  · exact h
  · next step _ =>
    have g := h.move (.grant k { t.driver k with
      state := .pulse, pulseCount := step.pulse, coil := step.direction.coil,
      step := some { step with feedLeft := false } } room rfl rfl)
    dsimp only
    split
    · exact g.pulseStarted _
    · exact g

/-- Grants that fit in the free slots. -/
theorem Moves.grants (h : Moves s t) (l : List Outlet) (room : t.slots.length + l.length ≤ Config.coilSlots) :
    Moves s (l.foldl State.grant t) := by
  induction l generalizing t with
  | nil => exact h
  | cons k l ih =>
    simp only [List.length_cons] at room
    have := (t.grant_acts k).1
    exact ih (h.grant k (by omega)) (by omega)

theorem Moves.grantRound (h : Moves s t) : Moves s t.grantRound := by
  refine Moves.foldl (fun u k => (Moves.refl u).slip k) _ ?_
  by_cases hfree : t.freeSlots = 0
  · rw [hfree, List.take_zero]; exact h
  · refine h.grants _ ?_
    have : (t.requests.take t.freeSlots).length ≤ t.freeSlots := List.length_take_le _ _
    unfold State.freeSlots at *
    omega

theorem Moves.arbitrate (h : Moves s t) : Moves s t.arbitrate :=
  (Moves.foldl (fun u k => (Moves.refl u).meetPhase k) _ h).grantRound

theorem Moves.requestTurn (h : Moves s t) (k : Outlet) : Moves s (t.requestTurn k) := by
  unfold State.requestTurn
  dsimp only
  split
  · split
    · next hfree =>
      refine (h.meetPhase k).grant k ?_
      unfold State.freeSlots at hfree
      omega
    · exact (h.meetPhase k).slip k
  · exact h.meetPhase k

/-! ### Branch Protection -/

theorem Moves.addVictim (h : Moves s t) (b : Branch) (k : Outlet) : Moves s (t.addVictim b k) :=
  h.setProtection_counts b rfl rfl rfl

theorem Moves.dropVictim (h : Moves s t) (b : Branch) (k : Outlet) : Moves s (t.dropVictim b k) :=
  h.setProtection_counts b rfl rfl rfl

theorem Moves.preemptQuietly (h : Moves s t) (k : Outlet) {e : Entry} (live : e ∈ t.entries) :
    Moves s (t.preemptQuietly k e) :=
  Moves.ite (fun _ => (h.giveUp _).complete live _ _) fun _ => h.complete live _ _

theorem Moves.shedOpen (h : Moves s t) (b : Branch) (k : Outlet) (m : UrgentMode) : Moves s (t.shedOpen b k m) := by
  unfold State.shedOpen
  split
  · exact (h.addVictim _ _).urgentOpen _ _
  · split
    · exact h
    · next e he =>
      exact Moves.ite (fun _ => h) fun _ => (h.addVictim _ _).preemptQuietly _ (State.mem_of_entryOf he)

theorem Moves.shedTripped (h : Moves s t) (k : Outlet) (m : UrgentMode) : Moves s (t.shedTripped k m) := by
  unfold State.shedTripped
  split
  · exact h
  · next e he =>
    exact Moves.ite (fun _ => Moves.ite (fun _ => h.preemptEntry _) fun _ => h.urgentOpen _ _) fun _ =>
      Moves.ite (fun _ => h) fun _ => h.preemptQuietly _ (State.mem_of_entryOf he)

theorem Moves.shedKeep (h : Moves s t) (k : Outlet) : Moves s (t.shedKeep k) := by
  unfold State.shedKeep
  split
  · exact h
  · exact Moves.ite (fun _ => h.withdrawClose _) fun _ => h

theorem Moves.shedOutlet (h : Moves s t) (b : Branch) (k : Outlet) : Moves s (State.shedOutlet b t k) := by
  unfold State.shedOutlet
  split
  · exact h.shedKeep _
  · exact Moves.ite (fun _ => h.shedTripped _ _) fun _ => h.shedOpen _ _ _
  · exact Moves.ite (fun _ => h.shedTripped _ _) fun _ => h.shedOpen _ _ _

theorem Moves.undoRestore (h : Moves s t) (b : Branch) (k : Outlet) : Moves s (State.undoRestore b t k) := by
  unfold State.undoRestore
  split
  · exact h
  · next e he =>
    exact Moves.ite (fun _ => (h.addVictim _ _).complete (State.mem_of_entryOf (s := t) he) _ _) fun _ => h

theorem Moves.shedBranch (h : Moves s t) (b : Branch) : Moves s (t.shedBranch b) := by
  have h1 : Moves s (t.setProtection b { t.protection b with state := .shed, restartTimer := 0 }) :=
    h.setProtection_counts b rfl rfl rfl
  unfold State.shedBranch
  exact (Moves.foldl (fun u k => (Moves.refl u).shedOutlet b k) _
    (Moves.ite (fun _ => Moves.foldl (fun u k => (Moves.refl u).undoRestore b k) _ h1) fun _ => h1)).testHead _

theorem Moves.enterShed (h : Moves s t) (b : Branch) (c : Cause) : Moves s (t.enterShed b c) := (h.shedBranch _).post _ _

theorem Moves.autoRestart (h : Moves s t) (b : Branch) : Moves s (t.autoRestart b) :=
  Moves.ite (fun _ => h.setProtection_counts b rfl rfl rfl) fun _ => h

@[simp] theorem Protection.mark_sum (p : Protection) (on : Bool) (c : Cause) : (p.mark on c).sum = p.sum := by
  cases c <;> rfl

@[simp] theorem Protection.mark_overRun (p : Protection) (on : Bool) (c : Cause) : (p.mark on c).overRun = p.overRun := by
  cases c <;> rfl

@[simp] theorem Protection.mark_restartCount (p : Protection) (on : Bool) (c : Cause) :
    (p.mark on c).restartCount = p.restartCount := by
  cases c <;> rfl

theorem Moves.mark (h : Moves s t) (b : Branch) (on : Bool) (c : Cause) :
    Moves s (t.setProtection b ((t.protection b).mark on c)) := 
  h.setProtection_counts b (Protection.mark_sum ..) (Protection.mark_overRun ..) (Protection.mark_restartCount ..)

theorem Moves.activate (h : Moves s t) (b : Branch) (c : Cause) : Moves s (t.activate b c) :=
  Moves.ite (fun _ => h.mark b _ c) fun _ => (h.mark b _ c).enterShed _ _

theorem Moves.deactivate (h : Moves s t) (b : Branch) (c : Cause) : Moves s (t.deactivate b c) :=
  (h.mark b _ c).autoRestart _

theorem Moves.overcurrentStage (h : Moves s t) (b : Branch) : Moves s (t.overcurrentStage b) :=
  Moves.ite (fun _ => h.activate _ _) fun _ => Moves.ite (fun _ => h.deactivate _ _) fun _ => h

theorem Moves.breakerTurn (h : Moves s t) (b : Branch) : Moves s (t.breakerTurn b) := by
  unfold State.breakerTurn
  split
  · exact Moves.ite (fun _ => h) fun _ => h.activate _ _
  · exact Moves.ite (fun _ => h.deactivate _ _) fun _ => h
  · exact h

theorem Moves.tripOutlet (h : Moves s t) (k : Outlet) : Moves s (t.tripOutlet k) :=
  (((h.urgentOpen _ _).setTripped _ _).post _ _).setTripRun _ (Nat.zero_le _)

theorem Moves.tripTest (h : Moves s t) (k : Outlet) : Moves s (t.tripTest k) := by
  have g : Moves s (t.setTripRun k (t.nextTripRun k)) := h.setTripRun k (t.nextTripRun_le k)
  exact Moves.ite (fun _ => g.tripOutlet _) fun _ => g

theorem Moves.afterSum (h : Moves s t) (b : Branch) : Moves s (t.afterSum b) :=
  (Moves.foldl (fun u k => (Moves.refl u).tripTest k) _ (h.overcurrentStage _)).sequencerStage _

theorem Moves.enterNormal (h : Moves s t) (b : Branch) (o : RestoreOrigin) : Moves s (t.enterNormal b o) := by
  have g : Moves s (t.setProtection b { t.protection b with
      state := .normal, victims := fill 24 false, manualMark := false, exhaustedMark := false }) :=
    h.setProtection_counts b rfl rfl rfl
  exact (g.post _ _).testHead _

theorem Moves.settleRestoring (h : Moves s t) (b : Branch) : Moves s (t.settleRestoring b) :=
  Moves.ite (fun _ => h.enterNormal _ _) fun _ => h

theorem Moves.skipVictim (h : Moves s t) (b : Branch) (k : Outlet) (x : Option Link) : Moves s (t.skipVictim b k x) :=
  (h.dropVictim _ _).post _ _

theorem Moves.restoreVictim (h : Moves s t) (b : Branch) (k : Outlet) {u : State}
    (hu : t.restoreVictim b k = some u) : Moves s u := by
  unfold State.restoreVictim at hu
  split at hu
  · cases hu; exact h.skipVictim _ _ _
  · split at hu
    · cases hu; exact h.skipVictim _ _ _
    · split at hu
      · cases hu; exact h.dropVictim _ _
      · split at hu
        · next hroom =>
          cases hu
          exact ((h.dropVictim b k).noteReturn _).place k _ _ _ _ _ hroom
        · cases hu

theorem Moves.returnOver {visit : State → Outlet → State} (hv : ∀ u k, Moves u (visit u k)) (h : Moves s t) (b : Branch)
    (ks : List Outlet) (going : Bool) : Moves s (returnOver visit b ks going t) := by
  induction ks generalizing t going with
  | nil => exact h
  | cons k ks ih =>
    have g := h.trans (hv t k)
    unfold Machine.returnOver
    split
    · split
      · next u hu => exact ih (g.restoreVictim _ _ hu) _
      · exact ih g _
    · exact ih g _

theorem Moves.passWith {visit : State → Outlet → State} (hv : ∀ u k, Moves u (visit u k)) (h : Moves s t) (b : Branch) :
    Moves s (t.passWith visit b) := Moves.returnOver hv h _ _ _

theorem Moves.restorationPass (h : Moves s t) (b : Branch) : Moves s (t.restorationPass b) :=
  (Moves.passWith (fun u _ => Moves.refl u) h _).settleRestoring _

theorem Moves.beginRestoring (h : Moves s t) (b : Branch) (o : RestoreOrigin) : Moves s (t.beginRestoring b o) := by
  have g : Moves s (t.setProtection b { t.protection b with state := .restoring, restartTimer := 0 }) :=
    h.setProtection_counts b rfl rfl rfl
  exact (g.post _ _).testHead _

theorem Moves.enterRestoring (h : Moves s t) (b : Branch) (o : RestoreOrigin) : Moves s (t.enterRestoring b o) :=
  (h.beginRestoring _ _).restorationPass _

theorem Moves.expireWait (h : Moves s t) (b : Branch) : Moves s (t.expireWait b) := by
  have raised : Moves s (t.setProtection b { t.protection b with
      restartCount := holdUp Config.byteMax (t.protection b).restartCount }) :=
    h.setProtection b rfl rfl (.inr (holdUp_le ..))
  have exhausted : Moves s (t.setProtection b { t.protection b with exhaustedMark := true }) :=
    h.setProtection_counts b rfl rfl rfl
  exact Moves.ite (fun _ => raised.beginRestoring _ _) fun _ => (exhausted.shedBranch _).post _ _

theorem Moves.restartTurn (h : Moves s t) (b : Branch) : Moves s (t.restartTurn b) :=
  Moves.ite (fun _ => (h.expireWait _).restorationPass _) fun _ => h

theorem Moves.offHoldOf (h : Moves s t) (b : Branch) (k : Outlet) : Moves s (State.offHoldOf b t k) :=
  Moves.ite (fun _ => h.offHoldTurn _) fun _ => h

theorem Moves.returnsTurn (h : Moves s t) (b : Branch) : Moves s (t.returnsTurn b) :=
  Moves.passWith (fun u k => (Moves.refl u).offHoldOf b k) (Moves.ite (fun _ => h.expireWait b) fun _ => h) b

theorem Moves.withdrawVictim (h : Moves s t) (b : Branch) (k : Outlet) : Moves s (t.withdrawVictim b k) :=
  Moves.ite (fun _ => (h.dropVictim _ _).settleRestoring _) fun _ => h

/-! ### Hang Monitor -/

theorem Moves.postHang (h : Moves s t) (k : Outlet) (r : HangReason) : Moves s (t.postHang k r) := h.post _ _

theorem Moves.reportHang (h : Moves s t) (k : Outlet) (r : HangReason) : Moves s (t.reportHang k r) := by
  have g : Moves s (t.setMonitor k { t.monitor k with state := .reported, placementPending := false }) :=
    h.setMonitor_calm k .rfl (by simp [Monitor.waits])
  exact g.postHang _ _

theorem Moves.placeCycle (h : Moves s t) (k : Outlet) (hroom : t.hasRoom = true) : Moves s (t.placeCycle k) := by
  unfold State.placeCycle
  refine Moves.ite (fun _ => h) fun _ => ?_
  have g : Moves s (t.setMonitor k { t.monitor k with placementPending := false, retries := (t.monitor k).retries + 1 }) :=
    h.setMonitor_calm k .rfl (by simp [Monitor.waits])
  exact ((g.note _).place _ _ _ _ _ _ hroom).postHang _ _

theorem Moves.tryPlace (h : Moves s t) (k : Outlet) : Moves s (t.tryPlace k) := by
  unfold State.tryPlace
  split
  · next hc =>
    split
    · exact h.reportHang _ _
    · exact h.placeCycle _ hc.2.2.2
  · exact h

/-- A verdict is given at an outlet that is not paused: there it may wait (R145, R149). -/
theorem Moves.giveVerdict (h : Moves s t) (k : Outlet) (free : t.paused k = false) : Moves s (t.giveVerdict k) := by
  obtain ⟨contact, -, fault⟩ := State.paused_eq_false.mp free
  have expired : Moves s (t.setMonitor k { t.monitor k with state := .expired, placementPending := true }) :=
    h.setMonitor k .rfl fun _ => .inr ⟨contact, fault⟩
  have gaveUp : Moves s (t.setMonitor k { t.monitor k with state := .gaveUp }) :=
    h.setMonitor_calm k .rfl (by simp [Monitor.waits])
  unfold State.giveVerdict
  dsimp only
  split
  · exact h.reportHang _ _
  · exact h.reportHang _ _
  · exact Moves.ite (fun _ => (expired.noteTry _).tryPlace _) fun _ => gaveUp.post _ _

theorem Moves.enterSuspect (h : Moves s t) (k : Outlet) : Moves s (t.enterSuspect k) := by
  have silent : Moves s (t.setMonitor k { t.monitor k with state := .suspect }) :=
    h.setMonitor_calm k .rfl (by simp [Monitor.waits])
  have told : Moves s (t.setMonitor k { t.monitor k with state := .suspect, activeMark := true }) :=
    h.setMonitor_calm k .rfl (by simp [Monitor.waits])
  exact Moves.ite (fun _ => silent) fun _ => told.post _ _

theorem Moves.verdictTest (h : Moves s t) (k : Outlet) : Moves s (t.verdictTest k) :=
  Moves.ite (fun hdue => Moves.ite
    (fun _ => h.giveVerdict k (by simp only [State.verdictDue, Bool.and_eq_true, Bool.not_eq_true'] at hdue; exact hdue.2))
    fun _ => h.enterSuspect _) fun _ => h

theorem Moves.silenceRise (h : Moves s t) (k : Outlet) : Moves s (t.silenceRise k) :=
  Moves.ite (fun _ => h.setMonitor k ⟨.inl rfl, .inr (holdUp_le ..)⟩ .inl) fun _ => h

theorem Moves.monitorTurn (h : Moves s t) (k : Outlet) : Moves s (t.monitorTurn k) :=
  Moves.ite (fun _ => (h.silenceRise _).verdictTest _) fun _ => Moves.ite (fun _ => h) fun _ => h.tryPlace _

theorem Moves.evidence (h : Moves s t) (k : Outlet) : Moves s (t.evidence k) := by
  have g : Moves s (t.setMonitor k
      ((t.monitor k).takeEvidence (((t.meter k).windowResult.map (·.pmW)).getD 0))) :=
    h.setMonitor k ⟨.inr (holdUp_le ..), .inl rfl⟩ .inl
  exact Moves.ite (fun _ => h) fun _ => Moves.ite (fun hs => g.giveVerdict k hs.2.1) fun _ => g

/-! ### Requests of the switching side -/

theorem Moves.accepted (h : Moves s t) (k : Outlet) (kind : Kind) : Moves s (t.accepted k kind) := by
  unfold State.accepted
  split
  · exact h.withdrawVictim _ _
  · exact h.setTripped _ _

theorem Moves.switchPlace (h : Moves s t) (x : Link) (k : Outlet) (kind : Kind) (off : Nat) (tag : Option Byte)
    (m : Bool) : Moves s (t.switchPlace x k kind off tag m).1 := by
  unfold State.switchPlace
  split
  · next hroom => exact (h.place _ _ _ _ _ _ hroom).accepted _ _
  · exact h

theorem Moves.switchExisting (h : Moves s t) (x : Link) (k : Outlet) (kind : Kind) (off : Nat) (tag : Option Byte)
    (m : Bool) {e : Entry} (he : t.entryOf k = some e) : Moves s (t.switchExisting x k kind off tag m e).1 := by
  have live := State.mem_of_entryOf he
  unfold State.switchExisting
  split
  · exact h.accepted _ _
  · split
    · exact (h.complete live _ _).switchPlace _ _ _ _ _ _
    · split
      · exact (h.complete live _ _).accepted _ _
      · exact h

theorem Moves.switchAction (h : Moves s t) (x : Link) (k : Outlet) (kind : Kind) (off : Nat) (tag : Option Byte)
    (m : Bool) : Moves s (t.switchAction x k kind off tag m).1 := by
  unfold State.switchAction
  split
  · exact h
  · split
    · exact h
    · split
      · exact h
      · split
        · next e he => exact h.switchExisting x k kind off tag m he
        · split
          · exact h.accepted _ _
          · exact h.switchPlace _ _ _ _ _ _

theorem Moves.requestSwitch (h : Moves s t) (x : Link) (p : List Byte) : Moves s (requestSwitch x p t).1 := by
  unfold Machine.requestSwitch State.switchFields
  split
  · split
    · exact h.switchAction _ _ _ _ _ _
    · exact h
  · split
    · exact h.switchAction _ _ _ _ _ _
    · exact h
  · exact h

theorem Moves.requestCancel (h : Moves s t) (x : Link) (p : List Byte) : Moves s (requestCancel x p t).1 := by
  unfold Machine.requestCancel State.cancelEntry
  split
  · split
    · exact h
    · split
      · exact h
      · split
        · exact h
        · next e he =>
          split
          · exact h.complete (State.mem_of_entryOf he) _ _
          · split
            · exact h.complete (State.mem_of_entryOf he) _ _
            · exact h
  · exact h

theorem Moves.requestHeartbeat (h : Moves s t) (x : Link) (p : List Byte) : Moves s (requestHeartbeat x p t).1 := by
  unfold Machine.requestHeartbeat
  split
  · exact Moves.foldl (fun u k => Moves.ite (fun _ => (Moves.refl u).heartbeatAt k) fun _ => Moves.refl u) _ h
  · exact h

theorem Moves.requestMonitorReset (h : Moves s t) (x : Link) (p : List Byte) :
    Moves s (requestMonitorReset x p t).1 := by
  unfold Machine.requestMonitorReset
  split
  · split
    · exact h
    · split
      · exact h
      · split
        · exact h
        · exact h.setMonitor_calm _ ⟨.inr (Nat.zero_le _), .inr (Nat.zero_le _)⟩
            (by simp [Monitor.waits, Monitor.reset, Monitor.initial])
  · exact h

theorem Moves.requestShed (h : Moves s t) (x : Link) (p : List Byte) : Moves s (requestShed x p t).1 := by
  unfold Machine.requestShed
  split
  · split
    · exact h
    · split
      · exact h
      · exact h.activate _ _
  · exact h

theorem Moves.clearShed (h : Moves s t) (b : Branch) : Moves s (t.clearShed b) :=
  h.setProtection b rfl rfl (.inr (Nat.zero_le _))

theorem Moves.clearRestore (h : Moves s t) (b : Branch) : Moves s (t.clearRestore b) :=
  Moves.ite (fun _ => h.clearShed b) fun _ => (h.clearShed b).enterRestoring _ _

theorem Moves.requestShedClear (h : Moves s t) (x : Link) (p : List Byte) : Moves s (requestShedClear x p t).1 := by
  unfold Machine.requestShedClear
  split
  · split
    · split
      · exact h
      · split
        · exact h
        · split
          · exact h.clearRestore _
          · exact (h.clearShed _).enterNormal _ _
    · exact h
  · exact h

theorem Moves.clearFault (h : Moves s t) (k : Outlet) : Moves s (t.clearFault k) := by
  have g := h.setContact_after k (d := { (t.driver k).idle with fault := none }) rfl rfl (.inr rfl)
  have reread : Moves s ((t.setDriver k { (t.driver k).idle with fault := none }).reread k) :=
    Moves.ite (fun _ => Moves.ite (fun _ => (g _).post _ _) fun _ => (g _).post _ _) fun _ => g _
  exact reread.firstStep k

theorem Moves.requestFaultClear (h : Moves s t) (x : Link) (p : List Byte) : Moves s (requestFaultClear x p t).1 := by
  unfold Machine.requestFaultClear
  split
  · split
    · exact h
    · split
      · exact h
      · split
        · exact h
        · exact h.clearFault _
  · exact h

end Sys2Proof.Machine

/-! PROOF. The settings' store: what a write makes of each value read (R179, R180). -/

namespace Sys2Proof.Machine

theorem flagBit_one_eq_one (b : Bool) : ((flagBit 1 b : Int) == 1) = b := by cases b <;> rfl

theorem shedModeOf_code (m : ShedMode) : shedModeOf m.code = m := by cases m <;> rfl

theorem monitorActionOf_code (m : MonitorAction) : monitorActionOf m.code = m := by cases m <;> rfl

/-- A value stored is the value read again: a range lies at 0 or above wherever the store is a natural number, and each
value of a list has its own code. -/
theorem Settings.read_store_self (c : Settings) (t : Setting) {v : Int} (admitted : t.domain.admits v) :
    (c.store t v).read t = v := by
  cases t <;> simp only [Settings.store, Settings.read, look_put_self, PerLink.get_set_self] <;>
    simp only [Setting.domain, Domain.admits, List.mem_cons, List.not_mem_nil, or_false] at admitted
  case branchFeed | outletBranch => rw [Fin.val_ofNat]; omega
  case restartEnable | monAction => obtain rfl | rfl := admitted <;> rfl
  case shedMode => obtain rfl | rfl | rfl := admitted <;> rfl
  all_goals omega

/-- A value stored leaves what every other setting holds. -/
theorem Settings.read_store_of_ne (c : Settings) {t u : Setting} (v : Int) (ne : u ≠ t) :
    (c.store t v).read u = c.read u := by
  cases t <;> cases u <;> simp only [Settings.store, Settings.read] <;> simp_all [look_put, PerLink.get_set]

/-- The value a setting holds, stored again, leaves the settings as they are. -/
theorem Settings.store_read (c : Settings) (t : Setting) : c.store t (c.read t) = c := by
  cases t <;> simp only [Settings.store, Settings.read, Int.toNat_natCast, Fin.ofNat_eq_cast, Fin.cast_val_eq_self, put_look_self,
    shedModeOf_code, monitorActionOf_code, flagBit_one_eq_one, PerLink.set_get_self]

end Sys2Proof.Machine

/-! PROOF. What commands do, in edits: acts of the blocks, and the updates of a meter's energy, a port, the holds, sweeps and banks,
with writes of settings, trackers and breakers among them. An invariant of the whole part is proved once for each kind of edit. -/

namespace Sys2Proof.Machine

/-! ### The edits -/

/-- One edit. The presence of a link and its mark, the holds, the sweeps and the banks change freely here: `State.PresenceRules`
speaks of them together. -/
inductive Edit (s : State) : State → Prop
  | act {t : State} (acts : Acts s t) (moves : Moves s t) : Edit s t
  | meter (k : Outlet) (v : Meter) : Edit s (s.setMeter k v)
  /-- A branch's sum and over-limit run. -/
  | sums (b : Branch) (p : Protection) (overRun : p.overRun ≤ 255) (restarts : p.restartCount = (s.protection b).restartCount) :
      Edit s (s.setProtection b p)
  | energy (k : Outlet) (sp : Int) : Edit s (s.setEnergy k ((s.energyOf k).add sp))
  /-- A port's own record, with the events it holds as they were. -/
  | port (x : Link) (p : Port) (events : p.events = (s.port x).events) (alert : p.alert = (s.port x).alert)
      (due : p.stallDue = (s.port x).stallDue ∨ p.stallDue = false) (stall : p.stall = (s.port x).stall)
      (badFrames : p.badFrames = (s.port x).badFrames ∨ p.badFrames ≤ 255)
      (silence : p.silence = (s.port x).silence ∨ p.silence = 0) : Edit s (s.setPort x p)
  | drain (x : Link) (es : List Event) (short : es.length ≤ (s.port x).events.length) :
      Edit s (s.setPort x { (s.port x).withEvents es with overflow := false })
  /-- An event for one link alone. -/
  | offer (x : Link) (e : Event) : Edit s (s.setPort x ((s.port x).offer e))
  | links (holds : Vector (Option Link) 24) (sweeps : PerLink SweepEngine) (banks : PerLink BankPort) :
      Edit s { s with holds := holds, sweeps := sweeps, banks := banks }

/-- A setting written, the generation one on, or a record of the inputs changed outside an arrival. At a setting's write an outlet
with an entry keeps its branch, and a monitor whose window changes starts again (R153, R181, R182). -/
inductive Write (s : State) : State → Prop
  | store (t : Setting) (v : Int) (admitted : t.domain.admits v)
      (free : s.settings.read t = v ∨ s.mapBusy t = false) (apart : ∀ k, t = .monWindow k → s.settings.read t = v) :
      Write s ((s.setSettings (s.settings.store t v)).setGeneration (s.generation + 1))
  | window (k : Outlet) (v : Int) (admitted : (Setting.monWindow k).domain.admits v) :
      Write s (((s.setSettings (s.settings.store (.monWindow k) v)).setGeneration (s.generation + 1)).windowSettingChanged k v)
  | tracker (f : Feed) (p : Tracker) (notice : p.notice = (s.tracker f).notice) (phase : p.phase = (s.tracker f).phase)
      (acquired : p.acquired = (s.tracker f).acquired) : Write s (s.setTracker f p)
  | breaker (b : Branch) (v : Breaker) (run : v.run < 64) : Write s (s.setBreaker b v)

/-- Edits one after another, with the number of writes among them. -/
inductive Edits : Nat → State → State → Prop
  | refl (s : State) : Edits 0 s s
  | edit {n : Nat} {s t u : State} (h : Edits n s t) (e : Edit t u) : Edits n s u
  | write {n : Nat} {s t u : State} (h : Edits n s t) (w : Write t u) : Edits (n + 1) s u

variable {s t u : State} {m n : Nat}

theorem Edits.trans (h : Edits m s t) (g : Edits n t u) : Edits (m + n) s u := by
  induction g with
  | refl => exact h
  | edit _ e ih => exact (ih h).edit e
  | write _ w ih => exact (ih h).write w

/-- The rules that tie a link's holds, its sweep and its bank to its presence (R65, R91, R163, R169, R171). -/
structure State.RulesAt (s : State) (x : Link) : Prop where
  holds : ∀ k, s.hold k = some x → (s.port x).presence = .present
  mark : (s.port x).pendingMark = (s.sweepEngine x).context.isSome
  sweep : (s.sweepEngine x).context.isSome = true → (s.port x).presence = .present
  absent : (s.port x).presence = .absent → (s.bankPort x).bank = none ∧ (s.port x).silence = 0

/-- The presence rules of both links. -/
def State.PresenceRules (s : State) : Prop := ∀ x, s.RulesAt x

theorem State.presenceRules_iff {s : State} : s.PresenceRules ↔ s.HoldsPresent ∧ s.SweepsPending ∧ s.AbsentIsBare :=
  ⟨fun r => ⟨fun k x => (r x).holds k, fun x => ⟨(r x).mark, (r x).sweep⟩, fun x => (r x).absent⟩,
    fun ⟨holds, sweeps, absent⟩ x => ⟨fun k => holds k x, (sweeps x).1, (sweeps x).2, absent x⟩⟩

/-- Edits with at most `m` writes among them, which together keep the presence rules. -/
structure Within (m : Nat) (s t : State) : Prop where
  edits : ∃ n, n ≤ m ∧ Edits n s t
  rules : s.PresenceRules → t.PresenceRules

theorem Within.refl (s : State) : Within m s s := ⟨⟨0, Nat.zero_le m, .refl s⟩, id⟩

theorem Within.trans (h : Within m s t) (g : Within n t u) : Within (m + n) s u := by
  obtain ⟨a, ha, he⟩ := h.edits
  obtain ⟨b, hb, ge⟩ := g.edits
  exact ⟨⟨a + b, Nat.add_le_add ha hb, he.trans ge⟩, fun r => g.rules (h.rules r)⟩

theorem Within.then (h : Within m s t) (g : Within 0 t u) : Within m s u := h.trans g

theorem Within.mono (h : Within m s t) (le : m ≤ n) : Within n s t := by
  obtain ⟨a, ha, he⟩ := h.edits
  exact ⟨⟨a, ha.trans le, he⟩, h.rules⟩

theorem Within.edit (h : Within m s t) (e : Edit t u) (rules : t.PresenceRules → u.PresenceRules) : Within m s u := by
  obtain ⟨a, ha, he⟩ := h.edits
  exact ⟨⟨a, ha, he.edit e⟩, fun r => rules (h.rules r)⟩

theorem Within.ite {p : Prop} [Decidable p] (h : p → Within m s t) (g : ¬p → Within m s u) :
    Within m s (if p then t else u) := by
  split
  · next hp => exact h hp
  · next hp => exact g hp

theorem Within.foldl {α : Type} {f : State → α → State} (hf : ∀ s a, Within 0 s (f s a)) (l : List α)
    (h : Within m s t) : Within m s (l.foldl f t) := by
  induction l generalizing t with
  | nil => exact h
  | cons a l ih => exact ih (h.then (hf t a))

/-! ### The rules under an update -/

/-- A link's rules stay where its presence, its mark, its holds, its sweep and its bank stay. -/
theorem State.RulesAt.of_same {x : Link} (h : s.RulesAt x) (holds : ∀ k, t.hold k = some x → s.hold k = some x)
    (sweep : (t.sweepEngine x).context.isSome = (s.sweepEngine x).context.isSome)
    (bank : (t.bankPort x).bank = (s.bankPort x).bank ∨ (t.bankPort x).bank = none)
    (presence : (t.port x).presence = (s.port x).presence) (mark : (t.port x).pendingMark = (s.port x).pendingMark)
    (silence : (t.port x).silence = (s.port x).silence ∨ (t.port x).silence = 0 ∨ (s.port x).presence ≠ .absent) :
    t.RulesAt x where
  holds k hk := by rw [presence]; exact h.holds k (holds k hk)
  mark := by rw [mark, sweep]; exact h.mark
  sweep := by rw [presence, sweep]; exact h.sweep
  absent := by
    rw [presence]
    intro absent
    refine ⟨bank.elim (fun e => e.trans (h.absent absent).1) id, ?_⟩
    rcases silence with same | zero | no
    · rw [same]; exact (h.absent absent).2
    · exact zero
    · exact absurd absent no

theorem State.PresenceRules.of_same (h : s.PresenceRules) (holds : t.holds = s.holds) (sweeps : t.sweeps = s.sweeps)
    (banks : t.banks = s.banks) (ports : ∀ x, (t.port x).presence = (s.port x).presence ∧
      (t.port x).pendingMark = (s.port x).pendingMark ∧
      ((t.port x).silence = (s.port x).silence ∨ (t.port x).silence = 0 ∨ (s.port x).presence ≠ .absent)) : t.PresenceRules :=
  fun x => (h x).of_same (fun k => by rw [State.hold, holds]; exact id) (by rw [State.sweepEngine, sweeps]; rfl)
    (.inl (by rw [State.bankPort, banks]; rfl)) (ports x).1 (ports x).2.1 (ports x).2.2

theorem State.PresenceRules.setPort (h : s.PresenceRules) (x : Link) {p : Port} (presence : p.presence = (s.port x).presence)
    (mark : p.pendingMark = (s.port x).pendingMark) (silence : p.silence = (s.port x).silence ∨ p.silence = 0) :
    (s.setPort x p).PresenceRules := by
  refine h.of_same rfl rfl rfl fun y => ?_
  rw [State.setPort_port]
  split
  · next hy => subst hy; exact ⟨presence, mark, silence.imp_right .inl⟩
  · exact ⟨rfl, rfl, .inl rfl⟩

theorem Acts.rules (h : Acts s t) (r : s.PresenceRules) : t.PresenceRules := by
  refine r.of_same (congrArg Fixed.holds h.fixed) (congrArg Fixed.sweeps h.fixed) (congrArg Fixed.banks h.fixed) fun x => ?_
  obtain ⟨es, he⟩ := h.ports x
  obtain ⟨_, _, _, hp⟩ := (s.port x).offers_eq es
  rw [he, hp]
  exact ⟨rfl, rfl, .inl rfl⟩

/-! ### The updates -/

theorem Within.act (h : Within m s t) (acts : Acts t u) (moves : Moves t u) : Within m s u :=
  h.edit (.act acts moves) acts.rules

theorem Within.setMeter (h : Within m s t) (k : Outlet) (v : Meter) : Within m s (t.setMeter k v) :=
  h.edit (.meter k v) fun r => r.of_same rfl rfl rfl fun _ => ⟨rfl, rfl, .inl rfl⟩

theorem Within.sums (h : Within m s t) (b : Branch) {p : Protection} (overRun : p.overRun ≤ 255)
    (restarts : p.restartCount = (t.protection b).restartCount) : Within m s (t.setProtection b p) :=
  h.edit (.sums b p overRun restarts) fun r => r.of_same rfl rfl rfl fun _ => ⟨rfl, rfl, .inl rfl⟩

theorem Within.formSum (h : Within m s t) (b : Branch) : Within m s (t.formSum b) := h.sums b (nextOverRun_le ..) rfl

theorem Within.note (h : Within m s t) (f : Handling → Handling) : Within m s (t.note f) :=
  h.act ((Acts.refl t).note f) ((Moves.refl t).note f)

theorem Within.post (h : Within m s t) (body : EventBody) (source : EventOrigin) : Within m s (t.post body source) :=
  h.act ((Acts.refl t).post body source) ((Moves.refl t).post body source)

theorem Within.addEnergy (h : Within m s t) (k : Outlet) (sp : Int) : Within m s (t.setEnergy k ((t.energyOf k).add sp)) :=
  h.edit (.energy k sp) fun r => r.of_same rfl rfl rfl fun _ => ⟨rfl, rfl, .inl rfl⟩

theorem Within.write (h : Within m s t) (w : Write t u) (rules : t.PresenceRules → u.PresenceRules) : Within (m + 1) s u := by
  obtain ⟨a, ha, he⟩ := h.edits
  exact ⟨⟨a + 1, Nat.succ_le_succ ha, he.write w⟩, fun r => rules (h.rules r)⟩

theorem Within.setTracker (h : Within m s t) (f : Feed) {p : Tracker} (notice : p.notice = (t.tracker f).notice)
    (phase : p.phase = (t.tracker f).phase) (acquired : p.acquired = (t.tracker f).acquired) :
    Within (m + 1) s (t.setTracker f p) :=
  h.write (.tracker f p notice phase acquired) fun r => r.of_same rfl rfl rfl fun _ => ⟨rfl, rfl, .inl rfl⟩

theorem Within.setBreaker (h : Within m s t) (b : Branch) {v : Breaker} (run : v.run < 64) :
    Within (m + 1) s (t.setBreaker b v) :=
  h.write (.breaker b v run) fun r => r.of_same rfl rfl rfl fun _ => ⟨rfl, rfl, .inl rfl⟩

/-- What a port's update keeps that a transaction or an answer makes. -/
structure Port.Same (old p : Port) : Prop where
  events : p.events = old.events := by rfl
  alert : p.alert = old.alert := by rfl
  due : p.stallDue = old.stallDue ∨ p.stallDue = false := by exact .inl rfl
  stall : p.stall = old.stall := by rfl
  badFrames : p.badFrames = old.badFrames ∨ p.badFrames ≤ 255 := by exact .inl rfl
  silence : p.silence = old.silence ∨ p.silence = 0 := by exact .inl rfl
  presence : p.presence = old.presence := by rfl
  mark : p.pendingMark = old.pendingMark := by rfl

theorem Within.setPort (h : Within m s t) (x : Link) {p : Port} (same : (t.port x).Same p) : Within m s (t.setPort x p) :=
  h.edit (.port x p same.events same.alert same.due same.stall same.badFrames same.silence)
    fun r => r.setPort x same.presence same.mark same.silence

theorem Within.drain (h : Within m s t) (x : Link) {es : List Event} (short : es.length ≤ (t.port x).events.length) :
    Within m s (t.setPort x { (t.port x).withEvents es with overflow := false }) :=
  h.edit (.drain x es short) fun r => r.setPort x rfl rfl (.inl rfl)

theorem Within.respond (h : Within m s t) (x : Link) (st : Status) (echo : Byte) (payload : List Byte) :
    Within m s (t.respond x st echo payload) := h.setPort x {}

/-- Holds, sweeps and banks changed, the ports as they were. -/
theorem Within.links (h : Within m s t) (holds : Vector (Option Link) 24) (sweeps : PerLink SweepEngine) (banks : PerLink BankPort)
    (rules : t.PresenceRules → State.PresenceRules { t with holds := holds, sweeps := sweeps, banks := banks }) :
    Within m s { t with holds := holds, sweeps := sweeps, banks := banks } :=
  h.edit (.links holds sweeps banks) rules

end Sys2Proof.Machine

/-! PROOF. The commands as edits: presence, sweeps, requests, transactions and the happenings that a command takes. -/

namespace Sys2Proof.Machine

variable {s t u : State} {m n : Nat}

/-! ### Links: leaving PRESENT and presence -/

theorem State.heldBy_look (s : State) (x : Link) (k : Outlet) : look (s.heldBy x) k = decide (s.hold k = some x) :=
  (look_tab24 ..).trans (beq_eq_decide ..)

theorem State.lapseHolds_hold (s : State) (x : Link) (c : LapseCause) (k : Outlet) :
    (s.lapseHolds x c).hold k = if s.hold k = some x then none else s.hold k := by
  unfold State.lapseHolds
  split
  · show (s.giveHolds (s.heldBy x) none).hold k = _
    rw [State.giveHolds_hold, State.heldBy_look]
    simp only [decide_eq_true_eq]
  · next none =>
    have free : ¬s.hold k = some x := fun hk =>
      none (List.any_eq_true.mpr ⟨k, mem_allOutlets k, by rw [State.heldBy_look]; exact decide_eq_true hk⟩)
    rw [if_neg free]

theorem Edits.links (h : Edits n s t) (holds : Vector (Option Link) 24) (sweeps : PerLink SweepEngine) (banks : PerLink BankPort) :
    Edits n s { t with holds := holds, sweeps := sweeps, banks := banks } := h.edit (.links holds sweeps banks)

theorem Edits.post (h : Edits n s t) (body : EventBody) (source : EventOrigin) : Edits n s (t.post body source) :=
  h.edit (.act ((Acts.refl t).post body source) ((Moves.refl t).post body source))

theorem Edits.setPendingMark (h : Edits n s t) (x : Link) (b : Bool) : Edits n s (t.setPendingMark x b) :=
  h.edit (.port x _ rfl rfl (.inl rfl) rfl (.inl rfl) (.inl rfl))

theorem Edits.respond (h : Edits n s t) (x : Link) (st : Status) (echo : Byte) (payload : List Byte) :
    Edits n s (t.respond x st echo payload) := h.edit (.port x _ rfl rfl (.inl rfl) rfl (.inl rfl) (.inl rfl))

theorem Edits.lapseHolds (h : Edits n s t) (x : Link) (c : LapseCause) : Edits n s (t.lapseHolds x c) := by
  unfold State.lapseHolds
  split
  · exact (h.links (tab24 fun k => if look (t.heldBy x) k then none else t.hold k) t.sweeps t.banks).post _ _
  · exact h

theorem Edits.dropSweep (h : Edits n s t) (x : Link) (r : SweepResult) : Edits n s (t.dropSweep x r) :=
  (h.links t.holds (t.sweeps.set x _) t.banks).setPendingMark x false

theorem Edits.abortSweep (h : Edits n s t) (x : Link) : Edits n s (t.abortSweep x) := by
  unfold State.abortSweep
  split
  · exact h
  · exact (h.dropSweep x _).respond x _ _ _

theorem Edits.dropBank (h : Edits n s t) (x : Link) : Edits n s (t.dropBank x) :=
  h.links t.holds t.sweeps (t.banks.set x _)

theorem Edits.changePresence (h : Edits n s t) (x : Link) (p : Presence) : Edits n s (t.changePresence x p) := by
  have entered : Edits n s (t.setPort x ((t.port x).withPresence p)) := by
    refine h.edit (.port x _ rfl rfl (.inl rfl) rfl (.inl rfl) ?_)
    show (if p = .absent then 0 else _) = _ ∨ (if p = .absent then 0 else _) = 0
    split
    · exact .inr rfl
    · exact .inl rfl
  have left : Edits n s (if (t.port x).presence = .present then (t.setPort x ((t.port x).withPresence p)).leavePresent x p
      else t.setPort x ((t.port x).withPresence p)) := by
    split
    · exact (entered.lapseHolds x _).abortSweep x
    · exact entered
  unfold State.changePresence
  dsimp only
  split
  · exact (left.dropBank x).edit (.offer _ _)
  · exact left.edit (.offer _ _)

/-! ### A link that leaves PRESENT is bare -/

/-- A link without holds and without a sweep. -/
structure State.Bare (s : State) (x : Link) : Prop where
  holds : ∀ k, s.hold k ≠ some x
  context : (s.sweepEngine x).context = none
  mark : (s.port x).pendingMark = false

/-- A link that is not PRESENT is bare by the rules. -/
theorem State.RulesAt.bare {x : Link} (h : s.RulesAt x) (out : (s.port x).presence ≠ .present) : s.Bare x := by
  have none : (s.sweepEngine x).context = none := by
    by_contra some
    exact out (h.sweep (Option.isSome_iff_ne_none.mpr some))
  exact ⟨fun k hk => out (h.holds k hk), none, by rw [h.mark, none]; rfl⟩

/-- A bare link keeps the rules whatever its presence is, an ABSENT one without bank and silence. -/
theorem State.Bare.rulesAt {x : Link} (h : s.Bare x)
    (absent : (s.port x).presence = .absent → (s.bankPort x).bank = none ∧ (s.port x).silence = 0) : s.RulesAt x :=
  ⟨fun k hk => absurd hk (h.holds k), by rw [h.mark, h.context]; rfl, by rw [h.context]; nofun, absent⟩

/-! Events offered touch no field that the rules read. -/

@[simp] theorem Port.offer_presence (p : Port) (e : Event) : (p.offer e).presence = p.presence := by
  obtain ⟨_, _, _, h⟩ := p.offer_eq e; rw [h]

@[simp] theorem Port.offer_pendingMark (p : Port) (e : Event) : (p.offer e).pendingMark = p.pendingMark := by
  obtain ⟨_, _, _, h⟩ := p.offer_eq e; rw [h]

@[simp] theorem Port.offer_silence (p : Port) (e : Event) : (p.offer e).silence = p.silence := by
  obtain ⟨_, _, _, h⟩ := p.offer_eq e; rw [h]

theorem State.lapseHolds_port (s : State) (x : Link) (c : LapseCause) (y : Link) :
    ((s.lapseHolds x c).port y).presence = (s.port y).presence ∧
      ((s.lapseHolds x c).port y).pendingMark = (s.port y).pendingMark ∧
      ((s.lapseHolds x c).port y).silence = (s.port y).silence := by
  unfold State.lapseHolds
  split
  · rw [State.post_port]
    simp only [Port.offer_presence, Port.offer_pendingMark, Port.offer_silence]
    exact ⟨rfl, rfl, rfl⟩
  · exact ⟨rfl, rfl, rfl⟩

theorem State.lapseHolds_links (s : State) (x : Link) (c : LapseCause) :
    (s.lapseHolds x c).sweeps = s.sweeps ∧ (s.lapseHolds x c).banks = s.banks := by
  unfold State.lapseHolds
  split <;> exact ⟨rfl, rfl⟩

theorem State.dropSweep_sweepEngine (s : State) (x : Link) (r : SweepResult) (y : Link) :
    (s.dropSweep x r).sweepEngine y = if y = x then { context := none, last := some r } else s.sweepEngine y :=
  PerLink.get_set ..

theorem State.dropSweep_port (s : State) (x : Link) (r : SweepResult) (y : Link) :
    (s.dropSweep x r).port y = if y = x then { s.port x with pendingMark := false } else s.port y := State.setPort_port ..

theorem State.endSweep_port (s : State) (x : Link) (c : SweepContext) (reason : StopReason) (y : Link) :
    (s.endSweep x c reason).port y = if y = x then
      { s.port x with
        pendingMark := false
        response := { status := if c.clamped then .clamped else .ok, echo := 0x1B, generation := s.generation,
                      payload := (c.result reason).bytes } } else s.port y := by
  unfold State.endSweep State.respond
  rw [State.setPort_port, State.dropSweep_port, if_pos rfl, State.dropSweep_port]
  split <;> rfl

theorem State.endSweep_sweepEngine (s : State) (x : Link) (c : SweepContext) (reason : StopReason) (y : Link) :
    (s.endSweep x c reason).sweepEngine y =
      if y = x then { context := none, last := some (c.result reason) } else s.sweepEngine y :=
  State.dropSweep_sweepEngine ..

/-- A sweep aborted touches neither the other link nor its own link's presence and silence. -/
theorem State.abortSweep_port (s : State) (x y : Link) : ((s.abortSweep x).port y).presence = (s.port y).presence ∧
    ((s.abortSweep x).port y).silence = (s.port y).silence ∧
    (y ≠ x → ((s.abortSweep x).port y).pendingMark = (s.port y).pendingMark) := by
  unfold State.abortSweep
  split
  · exact ⟨rfl, rfl, fun _ => rfl⟩
  · rw [State.endSweep_port]
    split
    · next hy => subst hy; exact ⟨rfl, rfl, fun ne => absurd rfl ne⟩
    · exact ⟨rfl, rfl, fun _ => rfl⟩

theorem State.abortSweep_links (s : State) (x : Link) :
    (s.abortSweep x).holds = s.holds ∧ (s.abortSweep x).banks = s.banks := by
  unfold State.abortSweep
  split <;> exact ⟨rfl, rfl⟩

theorem State.abortSweep_sweepEngine_other (s : State) {x y : Link} (ne : y ≠ x) :
    (s.abortSweep x).sweepEngine y = s.sweepEngine y := by
  unfold State.abortSweep
  split
  · rfl
  · rw [State.endSweep_sweepEngine, if_neg ne]

theorem State.abortSweep_context (s : State) (x : Link) : ((s.abortSweep x).sweepEngine x).context = none := by
  unfold State.abortSweep
  split
  · assumption
  · rw [State.endSweep_sweepEngine, if_pos rfl]

theorem State.abortSweep_mark (s : State) {x : Link} (mark : (s.port x).pendingMark = (s.sweepEngine x).context.isSome) :
    ((s.abortSweep x).port x).pendingMark = false := by
  unfold State.abortSweep
  split
  · next none => rw [mark, none]; rfl
  · rw [State.endSweep_port, if_pos rfl]

/-- A link that leaves PRESENT is bare then. -/
theorem State.leavePresent_bare (s : State) {x : Link} (p : Presence)
    (mark : (s.port x).pendingMark = (s.sweepEngine x).context.isSome) : (s.leavePresent x p).Bare x where
  holds k := by
    have freed : (s.leavePresent x p).hold k = (s.lapseHolds x p.lapseCause).hold k := by
      rw [State.hold, State.leavePresent, ((s.lapseHolds x p.lapseCause).abortSweep_links x).1]; rfl
    rw [freed, State.lapseHolds_hold]
    split
    · nofun
    · assumption
  context := State.abortSweep_context ..
  mark := by
    refine State.abortSweep_mark _ ?_
    rw [(s.lapseHolds_port x p.lapseCause x).2.1, mark, State.sweepEngine, State.sweepEngine,
      (s.lapseHolds_links x p.lapseCause).1]

/-- A link that leaves PRESENT leaves the other link's rules, and its own presence, silence and bank. -/
theorem State.leavePresent_apart (s : State) (x : Link) (p : Presence) {y : Link} :
    ((s.leavePresent x p).port y).presence = (s.port y).presence ∧
      ((s.leavePresent x p).port y).silence = (s.port y).silence ∧
      (s.leavePresent x p).bankPort y = s.bankPort y ∧
      (y ≠ x → ((s.leavePresent x p).port y).pendingMark = (s.port y).pendingMark ∧
        (s.leavePresent x p).sweepEngine y = s.sweepEngine y) ∧
      ∀ k, (s.leavePresent x p).hold k = some y → s.hold k = some y := by
  obtain ⟨presence, silence, mark⟩ := (s.lapseHolds x p.lapseCause).abortSweep_port x y
  obtain ⟨presence', mark', silence'⟩ := s.lapseHolds_port x p.lapseCause y
  obtain ⟨holds, banks⟩ := (s.lapseHolds x p.lapseCause).abortSweep_links x
  obtain ⟨sweeps', banks'⟩ := s.lapseHolds_links x p.lapseCause
  refine ⟨presence.trans presence', silence.trans silence', ?_, fun ne => ⟨(mark ne).trans mark', ?_⟩, fun k hk => ?_⟩
  · rw [State.leavePresent, State.bankPort, banks, banks']; rfl
  · rw [State.leavePresent, State.abortSweep_sweepEngine_other _ ne, State.sweepEngine, sweeps']; rfl
  · have freed : (s.lapseHolds x p.lapseCause).hold k = some y := by
      rw [← hk, State.hold, State.hold, State.leavePresent, holds]
    rw [State.lapseHolds_hold] at freed
    split at freed
    · cases freed
    · exact freed

theorem State.Bare.of_same {x : Link} (h : s.Bare x) (holds : ∀ k, t.hold k = s.hold k)
    (context : (t.sweepEngine x).context = (s.sweepEngine x).context)
    (mark : (t.port x).pendingMark = (s.port x).pendingMark) : t.Bare x :=
  ⟨fun k => (holds k).symm ▸ h.holds k, context.trans h.context, mark.trans h.mark⟩

theorem State.PresenceRules.postTo (r : s.PresenceRules) (x : Link) (body : EventBody) (source : EventOrigin) :
    (s.postTo x body source).PresenceRules :=
  r.setPort x (Port.offer_presence ..) (Port.offer_pendingMark ..) (.inl (Port.offer_silence ..))

/-- A link's port in another presence state: its rules apart from the presence, and the other link's rules. -/
theorem State.RulesAt.setPort_other {x y : Link} (h : s.RulesAt y) (ne : y ≠ x) (p : Port) : (s.setPort x p).RulesAt y := by
  have port : (s.setPort x p).port y = s.port y := by rw [State.setPort_port, if_neg ne]
  exact h.of_same (fun _ => id) rfl (.inl rfl) (by rw [port]) (by rw [port]) (.inl (by rw [port]))

theorem State.RulesAt.leavePresent_other {x y : Link} (h : s.RulesAt y) (ne : y ≠ x) (p : Presence) :
    (s.leavePresent x p).RulesAt y := by
  obtain ⟨presence, silence, bank, others, holds⟩ := s.leavePresent_apart x p (y := y)
  obtain ⟨mark, sweep⟩ := others ne
  exact h.of_same holds (by rw [sweep]) (.inl (by rw [bank])) presence mark (.inl silence)

theorem State.dropBank_bankPort (s : State) (x y : Link) :
    (s.dropBank x).bankPort y = if y = x then { s.bankPort x with bank := none } else s.bankPort y := PerLink.get_set ..

theorem State.RulesAt.dropBank {x y : Link} (h : s.RulesAt y) : (s.dropBank x).RulesAt y := by
  refine h.of_same (fun _ => id) rfl ?_ rfl rfl (.inl rfl)
  rw [State.dropBank_bankPort]
  split
  · exact .inr rfl
  · exact .inl rfl

/-- What R172 does before PEER_LINK. -/
def State.presenceEntered (s : State) (x : Link) (p : Presence) : State :=
  if (s.port x).presence = .present then (s.setPort x ((s.port x).withPresence p)).leavePresent x p
  else s.setPort x ((s.port x).withPresence p)

theorem State.presenceEntered_port (s : State) (x : Link) (p : Presence) :
    ((s.presenceEntered x p).port x).presence = p ∧
      ((s.presenceEntered x p).port x).silence = if p = .absent then 0 else (s.port x).silence := by
  unfold State.presenceEntered
  split
  · obtain ⟨presence, silence, -⟩ := (s.setPort x ((s.port x).withPresence p)).leavePresent_apart x p (y := x)
    rw [presence, silence, State.setPort_port_self]
    exact ⟨rfl, rfl⟩
  · rw [State.setPort_port_self]; exact ⟨rfl, rfl⟩

theorem State.RulesAt.presenceEntered_other {x y : Link} (h : s.RulesAt y) (ne : y ≠ x) (p : Presence) :
    (s.presenceEntered x p).RulesAt y := by
  unfold State.presenceEntered
  split
  · exact (h.setPort_other ne _).leavePresent_other ne p
  · exact h.setPort_other ne _

theorem State.RulesAt.presenceEntered_bare {x : Link} (h : s.RulesAt x) (p : Presence) : (s.presenceEntered x p).Bare x := by
  have port : ((s.setPort x ((s.port x).withPresence p)).port x).pendingMark = (s.port x).pendingMark := by
    rw [State.setPort_port_self]; rfl
  unfold State.presenceEntered
  split
  · exact State.leavePresent_bare _ p (port.trans h.mark)
  · next out => exact (h.bare out).of_same (fun _ => rfl) rfl port

/-- A change of presence keeps the rules: a link is bare before it leaves PRESENT, and stays so until it is PRESENT again. -/
theorem State.PresenceRules.changePresence (r : s.PresenceRules) (x : Link) (p : Presence) :
    (s.changePresence x p).PresenceRules := by
  suffices dropped : State.PresenceRules (if p = .absent then (s.presenceEntered x p).dropBank x else s.presenceEntered x p) from
    dropped.postTo _ _ _
  obtain ⟨presence, silence⟩ := s.presenceEntered_port x p
  have bare := (r x).presenceEntered_bare p
  intro y
  by_cases hy : y = x
  · subst hy
    split
    · next absent =>
      refine State.Bare.rulesAt (bare.of_same (fun _ => rfl) rfl rfl) fun _ => ⟨?_, ?_⟩
      · rw [State.dropBank_bankPort, if_pos rfl]
      · exact silence.trans (if_pos absent)
    · next other => exact bare.rulesAt fun absent => absurd (presence.symm.trans absent) other
  · have kept := (r y).presenceEntered_other hy p
    split
    · exact kept.dropBank
    · exact kept

theorem Within.changePresence (h : Within m s t) (x : Link) (p : Presence) : Within m s (t.changePresence x p) := by
  obtain ⟨a, ha, he⟩ := h.edits
  exact ⟨⟨a, ha, he.changePresence x p⟩, fun r => (h.rules r).changePresence x p⟩

theorem Within.validFrame (h : Within m s t) (x : Link) : Within m s (t.validFrame x) := by
  have counted : Within m s (t.setPort x { t.port x with badFrames := 0, silence := 0 }) :=
    h.setPort x { badFrames := .inr (Nat.zero_le _), silence := .inr rfl }
  exact Within.ite (fun _ => counted) fun _ => counted.changePresence x .present

theorem Within.countBad (h : Within m s t) (x : Link) : Within m s (t.countBad x) := by
  have counted : Within m s (t.setPort x { t.port x with badFrames := holdUp Config.byteMax (t.port x).badFrames }) :=
    h.setPort x { badFrames := .inr (holdUp_le ..) }
  exact Within.ite (fun _ => counted.changePresence x .degraded) fun _ => counted

theorem Within.timeout (h : Within m s t) (x : Link) : Within m s (t.timeout x) :=
  Within.ite (fun _ => h.changePresence x .absent) fun _ => h

theorem State.changePresence_presence (s : State) (x : Link) (p : Presence) :
    ((s.changePresence x p).port x).presence = p := by
  show ((State.setPort (if p = .absent then (s.presenceEntered x p).dropBank x else s.presenceEntered x p) x.other _).port
    x).presence = p
  rw [State.setPort_port, if_neg (Link.other_ne x).symm]
  split <;> exact (s.presenceEntered_port x p).1

/-- A valid frame leaves its link PRESENT. -/
theorem State.validFrame_present (s : State) (x : Link) : ((s.validFrame x).port x).presence = .present := by
  unfold State.validFrame
  dsimp only
  split
  · next h => rw [State.setPort_port_self]; exact h
  · exact State.changePresence_presence ..

/-! ### Sweeps -/

/-- A sweep that goes on in another context. -/
theorem Within.keepContext (h : Within m s t) (x : Link) {old : SweepContext} (c : SweepContext)
    (going : (t.sweepEngine x).context = some old) :
    Within m s (t.setSweep x { t.sweepEngine x with context := some c }) :=
  h.links t.holds (t.sweeps.set x { t.sweepEngine x with context := some c }) t.banks fun r y => by
    refine (r y).of_same (fun _ => id) ?_ (.inl rfl) rfl rfl (.inl rfl)
    show (((t.sweeps.set x { t.sweepEngine x with context := some c }).get y).context.isSome) = _
    rw [PerLink.get_set]
    split
    · next hy => subst hy; rw [going]; rfl
    · rfl

theorem Within.dropSweep (h : Within m s t) (x : Link) (r : SweepResult) : Within m s (t.dropSweep x r) := by
  obtain ⟨a, ha, he⟩ := h.edits
  refine ⟨⟨a, ha, he.dropSweep x r⟩, fun rules y => ?_⟩
  have old := h.rules rules y
  by_cases hy : y = x
  · subst hy
    have port : (t.dropSweep y r).port y = { t.port y with pendingMark := false } := by
      rw [State.dropSweep_port, if_pos rfl]
    have sweep : (t.dropSweep y r).sweepEngine y = { context := none, last := some r } := by
      rw [State.dropSweep_sweepEngine, if_pos rfl]
    exact ⟨by rw [port]; exact old.holds, by rw [port, sweep]; rfl, by rw [sweep]; nofun, by rw [port]; exact old.absent⟩
  · have port : (t.dropSweep x r).port y = t.port y := by rw [State.dropSweep_port, if_neg hy]
    have sweep : (t.dropSweep x r).sweepEngine y = t.sweepEngine y := by rw [State.dropSweep_sweepEngine, if_neg hy]
    exact old.of_same (fun _ => id) (by rw [sweep]) (.inl rfl) (by rw [port]) (by rw [port]) (.inl (by rw [port]))

theorem Within.endSweep (h : Within m s t) (x : Link) (c : SweepContext) (reason : StopReason) :
    Within m s (t.endSweep x c reason) := (h.dropSweep x _).respond x _ _ _

theorem Within.keepSweep (h : Within m s t) (x : Link) {old : SweepContext} (c : SweepContext)
    (going : (t.sweepEngine x).context = some old) : Within m s (t.keepSweep x c) :=
  Within.ite (fun _ => h.endSweep x c _) fun _ => h.keepContext x c going

theorem Within.switchAction (h : Within m s t) (x : Link) (k : Outlet) (kind : Kind) (off : Nat) (tag : Option Byte)
    (mark : Bool) : Within m s (t.switchAction x k kind off tag mark).1 :=
  h.act ((Acts.refl t).switchAction x k kind off tag mark) ((Moves.refl t).switchAction x k kind off tag mark)

/-- Holds given to a PRESENT link, or to none. -/
theorem Within.holds (h : Within m s t) {holds : Vector (Option Link) 24}
    (given : ∀ k y, look holds k = some y → t.hold k = some y ∨ (t.RulesAt y → (t.port y).presence = .present)) :
    Within m s { t with holds := holds } :=
  h.links holds t.sweeps t.banks fun r y => { r y with holds := fun k hk => (given k y hk).elim ((r y).holds k) fun f => f (r y) }

theorem Within.giveHolds (h : Within m s t) (set : Vector Bool 24) (holder : Option Link)
    (present : ∀ y, holder = some y → (t.port y).presence = .present) : Within m s (t.giveHolds set holder) := by
  refine h.holds fun k y hk => ?_
  have given := (t.giveHolds_hold set holder k).symm.trans hk
  split at given
  · exact .inr fun _ => present y given
  · exact .inl given

theorem Within.sweepAction (h : Within m s t) (x : Link) (k : Outlet) (c : SweepContext) {old : SweepContext}
    (going : (t.sweepEngine x).context = some old) : Within m s (t.sweepAction x k c).1 := by
  have hold (holder : Option Link) (own : holder = some x ∨ holder = none) : Within m s (t.setHold k holder) := by
    refine h.holds fun j y hk => ?_
    rw [look_put] at hk
    split at hk
    · refine .inr fun r => r.sweep ?_
      subst hk
      obtain rfl : y = x := by simpa using own
      rw [going]; rfl
    · exact .inl hk
  unfold State.sweepAction
  cases c.action with
  | none => exact h
  | opening | closing | cycle => exact h.switchAction x k _ _ _ _
  | hold => dsimp only; split; exacts [h, hold _ (.inl rfl)]
  | release => dsimp only; split; exacts [h, hold _ (.inr rfl)]
  | heartbeat => dsimp only; split; exacts [h, h.act ((Acts.refl t).heartbeatAt k) ((Moves.refl t).heartbeatAt k)]

/-- An action leaves the sweeps alone. -/
theorem State.sweepAction_sweeps (s : State) (x : Link) (k : Outlet) (c : SweepContext) :
    (s.sweepAction x k c).1.sweeps = s.sweeps := by
  have switch (kind : Kind) (off : Nat) : (s.switchAction x k kind off none true).1.sweeps = s.sweeps :=
    congrArg Fixed.sweeps ((Acts.refl s).switchAction x k kind off none true).fixed
  unfold State.sweepAction
  cases c.action with
  | none => rfl
  | opening | closing | cycle => exact switch _ _
  | hold | release => dsimp only; split <;> rfl
  | heartbeat => dsimp only; split; exacts [rfl, congrArg Fixed.sweeps ((Acts.refl s).heartbeatAt k).fixed]

theorem Within.sweepMatch (h : Within m s t) (x : Link) (c : SweepContext) {old : SweepContext}
    (going : (t.sweepEngine x).context = some old) : Within m s (t.sweepMatch x c) := by
  have acted := h.sweepAction x c.cursor c going
  have still : ((t.sweepAction x c.cursor c).1.sweepEngine x).context = some old := by
    rw [State.sweepEngine, State.sweepAction_sweeps]; exact going
  unfold State.sweepMatch
  split
  · next s1 heq => rw [heq] at acted still; exact acted.keepContext x _ still
  · next s1 t' _ heq =>
    rw [heq] at acted still
    exact Within.ite (fun _ => acted.endSweep x _ _) fun _ => acted.keepSweep x _ still

theorem Within.examine (h : Within m s t) (x : Link) (c : SweepContext) {old : SweepContext}
    (going : (t.sweepEngine x).context = some old) : Within m s (t.examine x c) :=
  Within.ite (fun _ => h.sweepMatch x c going) fun _ => h.keepSweep x c.pass going

theorem Within.sweepTurn (h : Within m s t) (x : Link) : Within m s (t.sweepTurn x) := by
  unfold State.sweepTurn
  split
  · exact h
  · next going => exact Within.ite (fun _ => h) fun _ => h.examine x _ going

theorem Within.sweepResume (h : Within m s t) (x : Link) : Within m s (t.sweepResume x) := by
  unfold State.sweepResume
  split
  · exact h
  · next going => exact Within.ite (fun _ => h.examine x _ going) fun _ => h

end Sys2Proof.Machine

/-! PROOF. Requests and transactions as edits. -/

namespace Sys2Proof.Machine

variable {s t u : State} {m n : Nat}

/-! ### Requests that report -/

theorem requestStatus_state (x : Link) (p : List Byte) (s : State) : (requestStatus x p s).1 = s := by
  unfold requestStatus; repeat' split
  all_goals rfl

theorem requestOutletRead_state (x : Link) (p : List Byte) (s : State) : (requestOutletRead x p s).1 = s := by
  unfold requestOutletRead; repeat' split
  all_goals rfl

theorem requestFeedRead_state (x : Link) (p : List Byte) (s : State) : (requestFeedRead x p s).1 = s := by
  unfold requestFeedRead; repeat' split
  all_goals rfl

theorem requestBranchRead_state (x : Link) (p : List Byte) (s : State) : (requestBranchRead x p s).1 = s := by
  unfold requestBranchRead; repeat' split
  all_goals rfl

theorem requestEnergyRead_state (x : Link) (p : List Byte) (s : State) : (requestEnergyRead x p s).1 = s := by
  unfold requestEnergyRead; repeat' split
  all_goals rfl

theorem requestSettingRead_state (x : Link) (p : List Byte) (s : State) : (requestSettingRead x p s).1 = s := by
  unfold requestSettingRead; repeat' split
  all_goals rfl

/-! ### A setting written -/

theorem Domain.admits_of_fit {d : Domain} {v w : Int} {st : Status} (lists : ∀ lo hi, d = .range lo hi → lo ≤ hi)
    (h : d.fit v = some (w, st)) : d.admits w := by
  cases d with
  | range lo hi =>
    obtain ⟨rfl, -⟩ : saturate lo hi v = w ∧ _ := by simpa [Domain.fit] using h
    have := lists lo hi rfl
    rw [saturate_eq_upper_first this]
    constructor <;> split_ifs <;> omega
  | listed values =>
    obtain ⟨mem, rfl, -⟩ : v ∈ values ∧ v = w ∧ _ := by simpa [Domain.fit] using h
    exact mem

theorem Setting.range_ordered (t : Setting) {lo hi : Int} (h : t.domain = .range lo hi) : lo ≤ hi := by
  cases t <;> simp only [Setting.domain, Domain.range.injEq, reduceCtorEq] at h <;> omega

theorem Setting.admits_of_fit {t : Setting} {v w : Int} {st : Status} (h : t.domain.fit v = some (w, st)) :
    t.domain.admits w := Domain.admits_of_fit (fun _ _ => t.range_ordered) h

theorem Within.exponentChanged (h : Within m s t) (f : Feed) : Within (m + 1) s (t.exponentChanged f) :=
  Within.foldl (fun u k => (Within.refl u).setMeter k _) _ (h.setTracker f rfl rfl rfl)

theorem Within.branchFeedChanged (h : Within m s t) (b : Branch) : Within m s (t.branchFeedChanged b) := by
  refine Within.foldl (fun u k => ?_) _ (h.sums b (Nat.zero_le _) rfl)
  exact ((Within.refl u).setMeter k _).act ((Acts.refl _).setTripRun k 0) ((Moves.refl _).setTripRun k (Nat.zero_le _))

theorem Within.outletMoved (h : Within m s t) (k : Outlet) (old : Branch) (moved : Bool) :
    Within m s (t.outletMoved k old moved) := by
  have run : Within m s (t.setTripRun k 0) :=
    h.act ((Acts.refl t).setTripRun k 0) ((Moves.refl t).setTripRun k (Nat.zero_le _))
  unfold State.outletMoved
  dsimp only
  split
  · have metered := run.setMeter k ((t.setTripRun k 0).meter k).realign
    exact metered.act ((Acts.refl _).withdrawVictim old k) ((Moves.refl _).withdrawVictim old k)
  · exact run.act ((Acts.refl _).withdrawVictim old k) ((Moves.refl _).withdrawVictim old k)

theorem Within.written (h : Within m s t) (v : Setting) : Within m s (t.written v) := by
  unfold State.written
  split
  · exact h.act ((Acts.refl _).testHead _) ((Moves.refl _).testHead _)
  · exact h.act ((Acts.refl _).testHead _) ((Moves.refl _).testHead _)
  · exact h

/-- The effects of a changed setting other than a monitor's window. -/
theorem Within.changed (h : Within m s t) (old : State) (v : Setting) (w : Int) (apart : ∀ k, v ≠ .monWindow k) :
    Within (m + 1) s (t.changed old v w) := by
  have more {u : State} (g : Within m s u) : Within (m + 1) s u := g.mono (Nat.le_succ m)
  unfold State.changed
  split
  · exact h.exponentChanged _
  · exact h.setTracker _ rfl rfl rfl
  · exact more (h.branchFeedChanged _)
  · exact more (h.outletMoved _ _ _)
  · exact absurd rfl (apart _)
  · exact more (h.act ((Acts.refl _).autoRestart _) ((Moves.refl _).autoRestart _))
  · exact more h

theorem Within.acceptWrite (h : Within m s t) (x : Link) (v : Setting) (id index : Byte) (w : Int)
    (admitted : v.domain.admits w) (free : t.settings.read v = w ∨ t.mapBusy v = false) :
    Within (m + 2) s (t.acceptWrite x v id index w) := by
  have same (r : t.PresenceRules) : State.PresenceRules ((t.setSettings (t.settings.store v w)).setGeneration (t.generation + 1)) :=
    r.of_same rfl rfl rfl fun _ => ⟨rfl, rfl, .inl rfl⟩
  have stored (apart : ∀ k, v = .monWindow k → t.settings.read v = w) :=
    (h.write (.store v w admitted free apart) same).post (.configChanged id index x w) EventOrigin.nobody
  unfold State.acceptWrite
  dsimp only
  split
  · next kept => exact ((stored fun _ _ => kept).written v).mono (Nat.le_succ _)
  · by_cases window : ∃ k, v = .monWindow k
    · obtain ⟨k, rfl⟩ := window
      have restarted := (h.write (.window k w admitted) fun r => r.of_same rfl rfl rfl fun _ => ⟨rfl, rfl, .inl rfl⟩).post
        (.configChanged id index x w) EventOrigin.nobody
      exact restarted.mono (Nat.le_succ _)
    · have apart : ∀ k, v ≠ .monWindow k := fun k hk => window ⟨k, hk⟩
      exact ((stored fun k hk => absurd hk (apart k)).changed t v w apart).written v

theorem Within.requestSettingWrite (h : Within m s t) (x : Link) (p : List Byte) :
    Within (m + 2) s (requestSettingWrite x p t).1 := by
  have stays : Within (m + 2) s t := h.mono (Nat.le_add_right m 2)
  unfold Machine.requestSettingWrite State.writeSetting
  split
  · split
    · exact stays
    · split
      · exact stays
      · next w st fits =>
        split
        · exact stays
        · next free =>
          exact h.acceptWrite x _ _ _ w (Setting.admits_of_fit fits)
            ((not_and_or.mp free).imp not_not.mp Bool.eq_false_iff.mpr)
  · exact stays

/-! ### Requests of a PRESENT link -/

theorem Within.startSweep (h : Within m s t) (x : Link) (c : SweepContext) (present : (t.port x).presence = .present) :
    Within m s (t.startSweep x c).1 := by
  unfold State.startSweep
  split
  · exact h
  · obtain ⟨a, ha, he⟩ := h.edits
    refine ⟨⟨a, ha, (he.links t.holds (t.sweeps.set x _) t.banks).setPendingMark x true⟩, fun rules y => ?_⟩
    have old := h.rules rules y
    by_cases hy : y = x
    · subst hy
      refine ⟨fun _ _ => ?_, ?_, fun _ => ?_, fun absent => ?_⟩
      · rw [State.setPendingMark, State.setPort_port_self]; exact present
      · rw [State.setPendingMark, State.setPort_port_self]
        show true = ((t.sweeps.set y { t.sweepEngine y with context := some c }).get y).context.isSome
        rw [PerLink.get_set_self]; rfl
      · rw [State.setPendingMark, State.setPort_port_self]; exact present
      · rw [State.setPendingMark, State.setPort_port_self] at absent
        exact absurd (present.symm.trans absent) (by decide)
    · refine State.RulesAt.setPort_other (s := t.setSweep x _) ?_ hy _
      refine old.of_same (fun _ => id) ?_ (.inl rfl) rfl rfl (.inl rfl)
      show ((t.sweeps.set x { t.sweepEngine x with context := some c }).get y).context.isSome = _
      rw [PerLink.get_set, if_neg hy]; rfl

theorem Within.requestSweep (h : Within m s t) (x : Link) (p : List Byte) (present : (t.port x).presence = .present) :
    Within m s (requestSweep x p t).1 := by
  unfold Machine.requestSweep
  split
  · split
    · exact h.startSweep x _ present
    · exact h
  · exact h

theorem Within.requestSweepAbort (h : Within m s t) (x : Link) (p : List Byte) : Within m s (requestSweepAbort x p t).1 := by
  unfold Machine.requestSweepAbort
  split
  · split
    · exact h.dropSweep x _
    · exact h
  · exact h

theorem Within.setBank (h : Within m s t) (x : Link) (b : BankPort)
    (present : b.bank = none ∨ (t.port x).presence = .present) : Within m s (t.setBank x b) :=
  h.links t.holds t.sweeps (t.banks.set x b) fun r y => { r y with
    absent := fun absent => by
      refine ⟨?_, ((r y).absent absent).2⟩
      show ((t.banks.set x b).get y).bank = none
      rw [PerLink.get_set]
      split
      · next hy => subst hy; exact present.resolve_right fun p => absurd (p.symm.trans absent) (by decide)
      · exact ((r y).absent absent).1 }

theorem Within.requestSnapshot (h : Within m s t) (x : Link) (p : List Byte) (present : (t.port x).presence = .present) :
    Within m s (requestSnapshot x p t).1 := by
  unfold Machine.requestSnapshot
  split
  · exact h.setBank x _ (.inr present)
  · exact h

theorem Within.requestHold (h : Within m s t) (x : Link) (p : List Byte) (present : (t.port x).presence = .present) :
    Within m s (requestHold x p t).1 := by
  unfold Machine.requestHold
  split
  · exact h.giveHolds _ _ fun y hy => by cases hy; exact present
  · exact h

theorem Within.requestRelease (h : Within m s t) (x : Link) (p : List Byte) : Within m s (requestRelease x p t).1 := by
  unfold Machine.requestRelease
  split
  · exact h.giveHolds _ _ nofun
  · exact h

theorem Within.requestEventsRead (h : Within m s t) (x : Link) (p : List Byte) : Within m s (requestEventsRead x p t).1 := by
  unfold Machine.requestEventsRead
  split
  · exact h.drain x (by simp [State.eventsLeft])
  · exact h

theorem Within.lapseHolds (h : Within m s t) (x : Link) (c : LapseCause) : Within m s (t.lapseHolds x c) :=
  Within.ite (fun _ => (h.giveHolds (t.heldBy x) none nofun).post _ _) fun _ => h

theorem Within.linkReset (h : Within m s t) (x : Link) : Within m s (t.linkReset x) := by
  have lapsed := (h.drain x (es := []) (Nat.zero_le _)).lapseHolds x .linkReset
  have forgotten {u : State} (g : Within m s u) : Within m s (u.setSweep x { u.sweepEngine x with last := none }) := by
    refine g.links u.holds (u.sweeps.set x { u.sweepEngine x with last := none }) u.banks fun r y => ?_
    refine (r y).of_same (fun _ => id) ?_ (.inl rfl) rfl rfl (.inl rfl)
    show ((u.sweeps.set x { u.sweepEngine x with last := none }).get y).context.isSome = _
    rw [PerLink.get_set]
    split
    · next hy => subst hy; rfl
    · rfl
  exact ((forgotten lapsed).setBank x _ (.inl rfl)).setPort x {}

theorem Within.requestLinkReset (h : Within m s t) (x : Link) (p : List Byte) : Within m s (requestLinkReset x p t).1 := by
  unfold Machine.requestLinkReset
  split
  · exact h.linkReset x
  · exact h

/-- What any request does that a PRESENT link's valid frame asks. -/
theorem Within.requestOf (x : Link) (code : Byte) (p : List Byte) (present : (t.port x).presence = .present) :
    Within 2 t (requestOf x code p t).1 := by
  have h : Within 0 t t := .refl t
  have stays {u : State} (e : u = t) : Within 2 t u := by rw [e]; exact .refl t
  have acts {u : State} (a : Acts t u) (g : Moves t u) : Within 2 t u := (Within.refl t).act a g
  unfold Machine.requestOf
  split
  · exact stays (requestStatus_state ..)
  · exact stays (requestOutletRead_state ..)
  · exact stays (requestFeedRead_state ..)
  · exact stays (requestBranchRead_state ..)
  · exact (h.requestEventsRead x p).mono (Nat.zero_le 2)
  · exact stays (requestEnergyRead_state ..)
  · exact stays (requestSettingRead_state ..)
  · exact acts ((Acts.refl t).requestSwitch x p) ((Moves.refl t).requestSwitch x p)
  · exact acts ((Acts.refl t).requestCancel x p) ((Moves.refl t).requestCancel x p)
  · exact (h.requestHold x p present).mono (Nat.zero_le 2)
  · exact (h.requestRelease x p).mono (Nat.zero_le 2)
  · exact acts ((Acts.refl t).requestHeartbeat x p) ((Moves.refl t).requestHeartbeat x p)
  · exact (h.requestSnapshot x p present).mono (Nat.zero_le 2)
  · exact acts ((Acts.refl t).requestShed x p) ((Moves.refl t).requestShed x p)
  · exact acts ((Acts.refl t).requestShedClear x p) ((Moves.refl t).requestShedClear x p)
  · exact acts ((Acts.refl t).requestFaultClear x p) ((Moves.refl t).requestFaultClear x p)
  · exact acts ((Acts.refl t).requestMonitorReset x p) ((Moves.refl t).requestMonitorReset x p)
  · exact h.requestSettingWrite x p
  · exact (h.requestSweep x p present).mono (Nat.zero_le 2)
  · exact (h.requestSweepAbort x p).mono (Nat.zero_le 2)
  · exact (h.requestLinkReset x p).mono (Nat.zero_le 2)
  · exact stays rfl

/-! ### Transactions -/

theorem Within.judge (h : Within m s t) (x : Link) (code : Byte) (p : List Byte) : Within (m + 2) s (t.judge x code p) :=
  ((h.validFrame x).trans (Within.requestOf x code p (t.validFrame_present x))).respond x _ _ _

theorem Within.badFrame (h : Within m s t) (x : Link) (echo : Byte) : Within m s (t.badFrame x echo) :=
  (h.respond x _ _ _).countBad x

theorem Within.completeFrame (h : Within m s t) (x : Link) (bytes : List Byte) (overlong : Bool) :
    Within (m + 2) s (t.completeFrame x bytes overlong) := by
  unfold State.completeFrame
  split
  · exact h.mono (Nat.le_add_right m 2)
  · split
    · exact h.judge x _ _
    · exact (h.badFrame x _).mono (Nat.le_add_right m 2)

theorem Within.endTransaction (h : Within m s t) (x : Link) : Within (m + 2) s (t.endTransaction x) := by
  unfold State.endTransaction
  dsimp only
  split
  · exact h.mono (Nat.le_add_right m 2)
  · exact Within.completeFrame (h.setPort x {}) x _ _
  · exact (h.setPort x {}).mono (Nat.le_add_right m 2)
  · exact (h.setPort x {}).mono (Nat.le_add_right m 2)

theorem Within.start (h : Within m s t) (x : Link) (address : BitVec 7) (read : Bool) :
    Within (m + 2) s (t.start x address read) := by
  have ended := h.endTransaction x
  exact Within.ite (fun _ => ended.setPort x {}) fun _ => ended.setPort x {}

theorem Within.receiveWrite (h : Within m s t) (x : Link) (byte : Byte) : Within m s (t.receiveWrite x byte) := by
  unfold State.receiveWrite
  dsimp only
  split
  · split
    · exact h.setPort x {}
    · exact h.setPort x {}
  · split
    · exact Within.badFrame (h.setPort x {}) x _
    · exact h.setPort x {}
  · split
    · exact h.setPort x {}
    · exact h.setPort x {}

theorem Within.receive (h : Within m s t) (x : Link) (byte : Byte) : Within m s (t.receive x byte) := by
  unfold State.receive
  split
  · exact h.receiveWrite x byte
  · exact h.setPort x {}
  · exact h

theorem Within.writeBytes (h : Within m s t) (x : Link) (bytes : List Byte) : Within (m + 4) s (t.writeBytes x bytes) :=
  Within.endTransaction
    (Within.foldl (fun u b => (Within.refl u).receive x b) bytes (h.start x t.targetAddress false)) x

theorem Within.frameTransaction (h : Within m s t) (x : Link) (code : Byte) (p : List Byte) {done : State → State}
    (did : ∀ u, Within 2 u (done u)) : Within (m + 4) s (t.frameTransaction x code p done) := by
  have ended := h.endTransaction x
  unfold State.frameTransaction
  dsimp only
  split
  · exact (ended.setPort x {}).mono (Nat.le_add_right _ 2)
  · split
    · exact Within.badFrame ((ended.setPort x {}).mono (Nat.le_add_right _ 2)) x _
    · exact (Within.setPort ended x {}).trans (did _)

theorem Within.request (h : Within m s t) (x : Link) (code : Byte) (p : List Byte) :
    Within (m + 4) s (t.request x code p (Machine.requestOf x code p)) :=
  Within.ite (fun _ => h.mono (Nat.le_add_right m 4)) fun _ =>
    h.frameTransaction x code p fun u => (Within.refl u).judge x code p

theorem Within.readTransaction (h : Within m s t) (x : Link) (count : Nat) : Within (m + 2) s (t.readTransaction x count) :=
  (h.endTransaction x).setPort x {}

theorem Within.abandon (h : Within m s t) (x : Link) : Within m s (t.abandon x) :=
  Within.countBad (h.setPort x { due := .inr rfl }) x

theorem Within.busStall (h : Within m s t) (x : Link) : Within m s (t.busStall x) :=
  Within.ite (fun _ => h.abandon x) fun _ => h

end Sys2Proof.Machine

/-! PROOF. Every command as edits: the turns of an arrival, the happenings taken by themselves, and what lies between an arrival's
or a second's bounds. -/

namespace Sys2Proof.Machine

variable {s t u : State} {m n : Nat}

/-! ### Meters -/

theorem State.setEnergy_self (s : State) (k : Outlet) : s.setEnergy k (s.energyOf k) = s := by
  simp only [State.setEnergy, State.energyOf, put_look_self]

theorem Within.meterClose (h : Within m s t) (k : Outlet) (notice : CloseNotice) : Within m s (t.meterClose k notice) := by
  unfold State.meterClose
  split
  · exact h
  · refine Within.setMeter ?_ k _
    unfold Energy.stage
    split
    · exact h.addEnergy k _
    · rw [State.setEnergy_self]; exact h

theorem Within.meterSample (h : Within m s t) (k : Outlet) : Within m s (t.meterSample k) := h.setMeter k _

theorem Within.meterArrival (h : Within m s t) (k : Outlet) : Within m s (t.meterArrival k) := by
  unfold State.meterArrival
  split
  · exact h.meterSample k
  · split
    · exact (h.meterClose k _).meterSample k
    · exact (h.meterSample k).meterClose k _

theorem Within.meterNotice (h : Within m s t) (k : Outlet) : Within m s (t.meterNotice k) := by
  unfold State.meterNotice
  split
  · exact h
  · exact h.meterClose k _

theorem Within.meterWindow (h : Within m s t) (k : Outlet) : Within m s (t.meterWindow k) :=
  Within.ite (fun _ => h.setMeter k _) fun _ => h.setMeter k _

theorem Within.closeStages (h : Within m s t) (f : Feed) {meter : State → Outlet → State}
    (metered : ∀ u k, Within 0 u (meter u k)) : Within m s (t.closeStages f meter) := by
  have summed := (Within.foldl metered (t.outletsOfFeed f) h).note fun h =>
    { h with formed := h.formed ++ (t.outletsOfFeed f).filter t.formsWindow }
  exact Within.ite (fun _ => Within.foldl (fun u b => (Within.refl u).formSum b) _ summed) fun _ => summed

/-! ### The turns of an arrival -/

theorem Moves.feedStateTurn (h : Moves s t) (f : Feed) : Moves s (t.feedStateTurn f) := by
  unfold State.feedStateTurn
  split
  · exact h
  · exact h
  · exact h.post _ _

theorem Within.evidence (h : Within m s t) (k : Outlet) : Within m s (t.evidence k) :=
  h.act ((Acts.refl t).evidence k) ((Moves.refl t).evidence k)

theorem Within.turn (h : Within m s t) (c : Turn) : Within m s (t.turn c) := by
  have act {u : State} (a : Acts t u) (g : Moves t u) : Within m s u := h.act a g
  have acts : Acts t t := .refl t
  have moves : Moves t t := .refl t
  cases c with
  | feedState f => exact act (acts.feedStateTurn f) (moves.feedStateTurn f)
  | closes f => exact h.closeStages f fun u k => (Within.refl u).meterArrival k
  | evidence k => exact Within.ite (fun _ => h.evidence k) fun _ => h
  | overcurrent b => exact Within.ite (fun _ => act (acts.overcurrentStage b) (moves.overcurrentStage b)) fun _ => h
  | trip k => exact Within.ite (fun _ => act (acts.tripTest k) (moves.tripTest k)) fun _ => h
  | admission b => exact Within.ite (fun _ => act (acts.sequencerStage b) (moves.sequencerStage b)) fun _ => h
  | breakerCause b => exact act (acts.breakerTurn b) (moves.breakerTurn b)
  | returns b => exact act (acts.returnsTurn b) (moves.returnsTurn b)
  | settles b => exact act (acts.settleRestoring b) (moves.settleRestoring b)
  | grace k => exact act (acts.graceTurn k) (moves.graceTurn k)
  | driver k => exact act (acts.driverTurn k) (moves.driverTurn k)
  | leaving k => exact act (acts.leavingTurn k) (moves.leavingTurn k)
  | request k => exact act (acts.requestTurn k) (moves.requestTurn k)
  | monitor k => exact act (acts.monitorTurn k) (moves.monitorTurn k)
  | sweep x => exact h.sweepTurn x
  | stall x => exact Within.ite (fun _ => h.abandon x) fun _ => h
  | timeout x => exact Within.ite (fun _ => h.timeout x) fun _ => h

theorem Within.turns (h : Within m s t) (ts : List Turn) : Within m s (ts.foldl State.turn t) :=
  Within.foldl (fun u c => (Within.refl u).turn c) ts h

theorem Within.runTurns (h : Within m s t) (ts : List Turn) : Within m s (t.runTurns ts) :=
  (h.turns ts).act ((Acts.refl _).arbitrate) ((Moves.refl _).arbitrate)

theorem Within.takeTurns (h : Within m s t) (o : ArrivalOrder) : Within m s (t.takeTurns o) :=
  Within.ite (fun _ => h.runTurns _) fun _ => h.runTurns _

/-! ### Happenings taken by themselves -/

theorem Breaker.next_run_lt (b : Breaker) (high : Bool) : (b.next high).run < 64 := by
  unfold Breaker.next
  split
  · exact Nat.zero_lt_succ _
  · split
    · exact Nat.zero_lt_succ _
    · split
      · exact Nat.zero_lt_succ _
      · next short => exact Nat.lt_of_not_le short

theorem Within.breakerChange (h : Within m s t) (b : Branch) : Within (m + 1) s (t.breakerChange b) :=
  Within.ite (fun _ => (h.setBreaker b (Breaker.next_run_lt ..)).act ((Acts.refl _).breakerTurn b) ((Moves.refl _).breakerTurn b))
    fun _ => h.mono (Nat.le_succ m)

theorem Within.frequencyResult (h : Within m s t) (f : Feed) : Within (m + 1) s (t.frequencyResult f) := by
  unfold State.frequencyResult
  dsimp only
  split
  · split
    · exact h.setTracker f rfl rfl rfl
    · exact h.mono (Nat.le_succ m)
  · exact h.mono (Nat.le_succ m)

theorem Within.windowClose (h : Within m s t) (f : Feed) : Within (m + 1) s (t.windowClose f) := by
  have closed := h.setTracker f (p := (t.tracker f).closeWindow (look t.settings.windowExp f)) rfl rfl rfl
  have metered := Within.foldl (fun u k => (Within.refl u).meterWindow k) (t.outletsOfFeed f) closed
  exact Within.ite (fun _ => Within.foldl (fun u k => (Within.refl u).evidence k) _ metered)
    fun _ => h.mono (Nat.le_succ m)

/-- A tracker that only hears its notices: the stages of a synthetic close behind the tracker's own. -/
theorem Within.syntheticStages (h : Within m s t) (f : Feed) :
    let s1 := allOutlets.foldl State.driverHears t
    let s2 := ((s1.outletsOfFeed f).filter s1.formsWindow).foldl State.evidence (s1.closeStages f State.meterNotice)
    Within m s (allOutlets.foldl State.leavingTurn ((s2.branchesOfFeed f).foldl State.afterSum s2)) := by
  have heard := Within.foldl (fun u k => (Within.refl u).act (u := u.driverHears k)
    ((Acts.refl u).setDriver k _ (by simp)) ((Moves.refl u).driverHears k)) allOutlets h
  have staged := heard.closeStages f fun u k => (Within.refl u).meterNotice k
  have judged := Within.foldl (fun u k => (Within.refl u).evidence k)
    (((allOutlets.foldl State.driverHears t).outletsOfFeed f).filter (allOutlets.foldl State.driverHears t).formsWindow) staged
  have summed {u : State} (g : Within m s u) (l : List Branch) : Within m s (l.foldl State.afterSum u) :=
    Within.foldl (fun u b => (Within.refl u).act ((Acts.refl u).afterSum b) ((Moves.refl u).afterSum b)) l g
  exact Within.foldl (fun u k => (Within.refl u).act ((Acts.refl u).leavingTurn k) ((Moves.refl u).leavingTurn k)) _
    (summed judged _)

theorem Within.running (h : Within m s t) {act : State → State} (did : Within n t (act t)) :
    Within (m + n) s (t.running act) :=
  Within.ite (fun _ => h.mono (Nat.le_add_right m n)) fun _ => h.trans did

/-! ### What an arrival, a second's end and a pin reset are bounded by -/

/-- An update that no command makes by itself: a count of an arrival, a tracker's pass, a pin reset. -/
inductive Boundary (s : State) : State → Prop
  | handling (h : Option Handling) : Boundary s (s.setHandling h)
  | clock (sample seconds : BitVec 32) (sub : Nat) (fits : sub < 7680) : Boundary s (s.setClock sample seconds sub)
  | stamp : Boundary s s.stampArrival
  | take (set : SampleSet) : Boundary s (s.takeSet set)
  | pass (f : Feed) : Boundary s (s.trackerPass f)
  | synthetic (f : Feed) (w : Nat) : Boundary s (s.setTracker f ((s.tracker f).closeSynthetic w))
  | notice (f : Feed) : Boundary s (s.setTracker f { s.tracker f with notice := Notice.quiet })
  | seconds : Boundary s s.secondsPass
  | lines (low : PerLink Bool) : Boundary s (s.sampleLines low)
  | pin (low : Bool) : Boundary s (s.pinValues.setResetHeld low)
  | address (a : BitVec 7) : Boundary s (s.setAddress a)

/-- Boundaries and edits without a write, one after another. -/
inductive Run : State → State → Prop
  | refl (s : State) : Run s s
  | within {s t u : State} (h : Run s t) (g : Within 0 t u) : Run s u
  | boundary {s t u : State} (h : Run s t) (g : Boundary t u) : Run s u

theorem Boundary.advanceSecond (s : State) : Boundary s s.advanceSecond := .clock _ _ _ (Nat.zero_lt_succ _)

theorem Boundary.advanceClock (s : State) : Boundary s s.advanceClock := by
  unfold State.advanceClock
  split
  · exact .clock _ _ _ (Nat.zero_lt_succ _)
  · next early => exact .clock _ _ _ (Nat.lt_of_not_le fun last => early (decide_eq_true last))

theorem Run.foldl {α : Type} {f : State → α → State} (hf : ∀ s a, Boundary s (f s a)) (l : List α) (h : Run s t) :
    Run s (l.foldl f t) := by
  induction l generalizing t with
  | nil => exact h
  | cons a l ih => exact ih (h.boundary (hf t a))

theorem Run.takeArrival (h : Run s t) (set : SampleSet) : Run s (t.takeArrival set) := by
  have begun := (((h.boundary (.handling (some Handling.begun))).boundary (.advanceClock _)).boundary .stamp).boundary (.take set)
  have passed := (Run.foldl (fun u f => .pass f) allFeeds begun).within
    (Within.foldl (fun u k => (Within.refl u).act ((Acts.refl u).driverNotice k) ((Moves.refl u).driverNotice k)) allOutlets
      (.refl _))
  unfold State.takeArrival
  refine Run.boundary ?_ (.lines set.sclLow)
  split
  · exact passed.boundary .seconds
  · exact passed

theorem Run.clearNotices (h : Run s t) : Run s t.clearNotices := Run.foldl (fun _ f => .notice f) allFeeds h

theorem Run.arrival (h : Run s t) (set : SampleSet) (o : ArrivalOrder) : Run s (t.arrival set o) := by
  unfold State.arrival
  split
  · exact h.boundary (.advanceClock _)
  · exact ((h.takeArrival set).within ((Within.refl _).takeTurns o)).clearNotices.boundary (.handling none)

theorem Run.syntheticCycle (h : Run s t) (f : Feed) : Run s (t.syntheticCycle f) := by
  unfold State.syntheticCycle
  split
  · have closed := (h.boundary (.synthetic f (look t.settings.windowExp f))).within
      ((Within.refl _).act ((Acts.refl _).feedStateTurn f) ((Moves.refl _).feedStateTurn f))
    exact (closed.within ((Within.refl _).syntheticStages f)).clearNotices
  · exact h

/-- The commands that are no edits alone. -/
inductive Bounded (s : State) : State → Prop
  | arrival (set : SampleSet) (o : ArrivalOrder) : Bounded s (s.arrival set o)
  | second : Bounded s s.secondTick
  | synthetic (f : Feed) (runs : s.resetHeld = false) : Bounded s (s.syntheticCycle f)
  | pin : Bounded s s.pinReset
  | release (straps : BitVec 2) (held : s.resetHeld = true) : Bounded s ((s.pinValues.setResetHeld false).setAddress (addressOf straps))

theorem Bounded.run (h : Bounded s t) : Run s t := by
  cases h with
  | arrival set o => exact (Run.refl s).arrival set o
  | second =>
    unfold State.secondTick
    split
    · unfold State.running
      have advanced := (Run.refl s).boundary (.advanceSecond s)
      split
      · exact advanced
      · exact advanced.boundary .seconds
    · exact .refl s
  | synthetic f => exact (Run.refl s).syntheticCycle f
  | pin => exact (Run.refl s).boundary (.pin true)
  | release straps => exact ((Run.refl s).boundary (.pin false)).boundary (.address _)

/-! ### Every command -/

theorem exec_request {c : Instr} {x : Link} {code : Byte} {p : List Byte} (h : c.request = some (x, code, p)) (s : State) :
    exec c s = .next (s.request x code p (requestOf x code p)) := by
  cases c <;> simp only [Instr.request, Option.some.injEq, Prod.mk.injEq, reduceCtorEq] at h <;>
    obtain ⟨rfl, rfl, rfl⟩ := h <;> rfl

/-- A command other than a power-on reset is edits with at most four writes, or one of those with boundaries. -/
theorem exec_cases {c : Instr} (h : exec c s = .next t) (other : ∀ straps, c ≠ .powerOnReset straps) :
    Within 4 s t ∨ Bounded s t := by
  cases hr : c.request with
  | some r =>
    obtain ⟨x, code, p⟩ := r
    rw [exec_request hr, Host.Outcome.next.injEq] at h
    exact .inl (h ▸ (Within.refl (m := 0) s).request x code p)
  | none =>
    have within {act : State → State} (e : .next (s.running act) = (.next t : Host.Outcome State Fault Refusal))
        (did : Within 4 s (act s)) : Within 4 s t ∨ Bounded s t := by
      rw [Host.Outcome.next.injEq] at e
      exact .inl (e ▸ (Within.refl (m := 0) s).running did)
    have act {act : State → State} (e : .next (s.running act) = (.next t : Host.Outcome State Fault Refusal))
        (acts : Acts s (act s)) (moves : Moves s (act s)) : Within 4 s t ∨ Bounded s t :=
      within e ((Within.refl s).act acts moves)
    have acts : Acts s s := .refl s
    have moves : Moves s s := .refl s
    have here : Within 0 s s := .refl s
    cases c with
    | sampleArrival set o => obtain rfl := Host.Outcome.next.inj h; exact .inr (.arrival set o)
    | powerOnReset straps => exact absurd rfl (other straps)
    | pinReset => obtain rfl := Host.Outcome.next.inj h; exact .inr .pin
    | pinResetRelease straps =>
      obtain rfl := Host.Outcome.next.inj h
      unfold State.pinRelease
      split
      · next held => exact .inr (.release straps held)
      · exact .inl (.refl s)
    | secondTick => obtain rfl := Host.Outcome.next.inj h; exact .inr .second
    | syntheticCycle f =>
      obtain rfl := Host.Outcome.next.inj h
      show Within 4 s (s.running _) ∨ Bounded s (s.running _)
      unfold State.running
      split
      · exact .inl (.refl s)
      · next runs => exact .inr (.synthetic f (Bool.eq_false_iff.mpr runs))
    | breakerLevelChange b => exact within h ((Within.refl (m := 3) s).breakerChange b)
    | frequencyResult f => exact within h ((Within.refl (m := 3) s).frequencyResult f)
    | windowClose f => exact within h ((Within.refl (m := 3) s).windowClose f)
    | overcurrentActive b => exact act h (Acts.ite (acts.activate b _) acts) (Moves.ite (fun _ => moves.activate b _) fun _ => moves)
    | outletTrip k => exact act h (Acts.ite (acts.tripOutlet k) acts) (Moves.ite (fun _ => moves.tripOutlet k) fun _ => moves)
    | automaticRestart b => exact act h (acts.autoRestart b) (moves.autoRestart b)
    | restartExpiry b => exact act h (acts.restartTurn b) (moves.restartTurn b)
    | restorationPass b => exact act h (acts.restorationPass b) (moves.restorationPass b)
    | admission b => exact act h (acts.testHead b) (moves.testHead b)
    | firstStep k => exact act h (acts.firstStep k) (moves.firstStep k)
    | offHoldEnd k => exact act h (acts.offHoldTurn k) (moves.offHoldTurn k)
    | firePhase k => exact act h (acts.meetPhase k) (moves.meetPhase k)
    | slotGrant => exact act h acts.grantRound moves.grantRound
    | pulseEnd k => exact act h (acts.pulseTurn k) (moves.pulseTurn k)
    | verifyWindowEnd k => exact act h (acts.verifyTurn k) (moves.verifyTurn k)
    | verdict k => exact act h (acts.verdictTest k) (moves.verdictTest k)
    | monitorPlacement k => exact act h (acts.tryPlace k) (moves.tryPlace k)
    | graceExpiry k => exact act h (acts.graceTurn k) (moves.graceTurn k)
    | sweepResume x => exact within h ((Within.refl s).sweepResume x)
    | transactionStart x address read => exact within h ((Within.refl (m := 2) s).start x address read)
    | frameByte x byte => exact within h ((Within.refl s).receive x byte)
    | badFrame x bytes => exact within h ((Within.refl (m := 0) s).writeBytes x bytes)
    | badCommand x code p =>
      exact within h (here.frameTransaction x code p fun u => (Within.refl (m := 0) u).judge x code p)
    | readTransaction x count => exact within h ((Within.refl (m := 2) s).readTransaction x count)
    | busStall x => exact within h ((Within.refl s).busStall x)
    | linkTimeout x => exact within h ((Within.refl s).timeout x)
    | _ => cases hr

end Sys2Proof.Machine

/-! PROOF. The invariants of the part: each is kept by every kind of edit, write and boundary, and so by every command and by
every step (O2, O3, O8, O15 to O22, O50). -/

namespace Sys2Proof.Machine

variable {s t : State} {c : Instr}

/-! ### A property that every command keeps -/

/-- A property that edits, writes and boundaries keep. -/
structure Kept (P : State → Prop) : Prop where
  edit : ∀ {s t : State}, Edit s t → P s → P t
  write : ∀ {s t : State}, Write s t → P s → P t
  boundary : ∀ {s t : State}, Boundary s t → P s → P t

theorem Kept.edits {P : State → Prop} (k : Kept P) {n : Nat} (h : Edits n s t) (hs : P s) : P t := by
  induction h with
  | refl => exact hs
  | edit _ e ih => exact k.edit e (ih hs)
  | write _ w ih => exact k.write w (ih hs)

theorem Kept.within {P : State → Prop} (k : Kept P) {m : Nat} (h : Within m s t) (hs : P s) : P t := by
  obtain ⟨_, _, edits⟩ := h.edits
  exact k.edits edits hs

theorem Kept.run {P : State → Prop} (k : Kept P) (h : Run s t) (hs : P s) : P t := by
  induction h with
  | refl => exact hs
  | within _ g ih => exact k.within g ih
  | boundary _ g ih => exact k.boundary g ih

theorem Kept.exec {P : State → Prop} (k : Kept P) (h : exec c s = .next t) (other : ∀ straps, c ≠ .powerOnReset straps)
    (hs : P s) : P t :=
  (exec_cases h other).elim (fun g => k.within g hs) fun g => k.run g.run hs

/-- A property of the part whatever waits in its queue, kept by every command but a power-on reset, which brings it about. -/
theorem step_keeps {P : State → Prop} (pending : ∀ (s : State) (rest : List Instr), P s → P (s.setPending rest)) (reset : ∀ (s : State) (straps : BitVec 2), P (s.powerOn straps))
    (exec : ∀ {c : Instr} {s t : State}, exec c s = .next t → (∀ straps, c ≠ .powerOnReset straps) → P s → P t)
    (h : step s = .next t) (hs : P s) : P t := by
  unfold step at h
  split at h
  · exact Host.Outcome.next.inj h ▸ hs
  · next c rest _ =>
    by_cases power : ∃ straps, c = .powerOnReset straps
    · obtain ⟨straps, rfl⟩ := power
      exact Host.Outcome.next.inj h ▸ reset _ straps
    · exact exec h (fun straps e => power ⟨straps, e⟩) (pending s rest hs)

theorem Kept.step {P : State → Prop} (k : Kept P) (pending : ∀ (s : State) (rest : List Instr), P s → P (s.setPending rest))
    (reset : ∀ (s : State) (straps : BitVec 2), P (s.powerOn straps)) (h : Machine.step s = .next t) (hs : P s) : P t :=
  step_keeps pending reset k.exec h hs

/-! ### The state after a power-on reset -/

theorem reset_alerts : State.reset.AlertsFollow := by intro x; cases x <;> decide

theorem reset_queue : State.reset.QueueFits ∧ State.reset.EntriesDistinct :=
  ⟨Nat.zero_le _, List.nodup_nil, List.nodup_nil⟩

theorem reset_slots : State.reset.SlotsFit ∧ State.reset.CoilsSlotted := by
  refine ⟨Nat.zero_le _, fun k driven => absurd ?_ driven⟩
  rw [State.driver, State.reset, look_fill]
  rfl

theorem reset_presence : State.reset.PresenceRules := by
  intro x
  refine ⟨fun k hk => ?_, ?_, ?_, ?_⟩
  · rw [State.hold, State.reset, look_fill] at hk; cases hk
  all_goals cases x <;> decide

theorem reset_settings : State.reset.SettingsInRange := by
  intro t
  cases t <;> simp only [Setting.domain, Domain.admits, Settings.read, State.reset, Settings.default, look_fill]
  case branchFeed b => revert b; decide
  case outletBranch k => revert k; decide
  case badLimit x | linkTimeout x => cases x <;> decide
  all_goals decide

theorem reset_counters : State.reset.CountersFit where
  clock := by decide
  ages k := by rw [State.age, State.reset, look_fill]; decide
  breakers b := by rw [State.breaker, State.reset, look_fill]; decide
  feeds f := by rw [State.tracker, State.reset, look_fill]; decide
  staggers b := by rw [State.sequencer, State.reset, look_fill]; decide
  branches b := by rw [State.protection, State.reset, look_fill]; decide
  trips k := by rw [State.tripRun, State.reset, look_fill]; decide
  monitors k := by rw [State.monitor, State.reset, look_fill]; exact ⟨Nat.zero_le _, Nat.zero_le _⟩
  links x := by cases x <;> decide

theorem reset_sums : State.reset.MeterSumsFit where
  cycles f := by rw [State.tracker, State.reset, look_fill]; decide
  windows f := by rw [State.tracker, State.reset, look_fill]; exact ⟨Nat.two_pow_pos _, by decide⟩
  cycleSums k := by rw [State.meter, State.reset, look_fill]; exact ⟨Nat.zero_le _, Nat.zero_le _⟩
  windowSums k := by rw [State.meter, State.reset, look_fill]; exact ⟨Nat.zero_le _, Nat.zero_le _⟩
  outside k _ := by rw [State.meter, State.reset, look_fill]; exact ⟨rfl, rfl⟩
  energy k := by rw [State.energyOf, State.reset, look_fill]; decide

theorem reset_hands : State.reset.NothingInHand := by
  refine ⟨rfl, fun f => ?_, fun x => by cases x <;> rfl⟩
  rw [State.tracker, State.reset, look_fill]; rfl

theorem reset_lines : State.reset.LinesLive := by
  intro b
  rw [State.sequencer, State.reset, look_fill]
  exact ⟨List.nodup_nil, nofun, nofun⟩

theorem reset_verdicts : State.reset.VerdictsWait := by
  intro k expired
  rw [State.monitor, State.reset, look_fill] at expired
  cases expired

/-- Settles O3. -/
theorem resetMeetsEveryInvariant : Obligations.ResetMeetsEveryInvariant := by
  obtain ⟨holds, sweeps, absent⟩ := State.presenceRules_iff.mp reset_presence
  exact ⟨reset_alerts, reset_queue.1, reset_queue.2, reset_slots.1, reset_slots.2, holds, sweeps, absent, reset_settings,
    reset_counters, reset_sums, reset_hands, reset_lines, reset_verdicts⟩

/-! ### The waiting commands -/

theorem kept_pending (p : List Instr) : Kept fun s => s.pending = p where
  edit e hs := by
    cases e with
    | act acts => exact (congrArg Fixed.pending acts.fixed).trans hs
    | _ => exact hs
  write w hs := by cases w <;> exact hs
  boundary g hs := by
    cases g <;> exact hs

theorem exec_next (c : Instr) (s : State) : ∃ t, exec c s = .next t := by cases c <;> exact ⟨_, rfl⟩

/-- Settles O2: every command has a next state, and no edit touches the waiting commands. -/
theorem partNeverStops : Obligations.PartNeverStops := by
  intro c s
  obtain ⟨t, ht⟩ := exec_next c s
  refine ⟨t, ht, ?_⟩
  by_cases power : ∃ straps, c = .powerOnReset straps
  · obtain ⟨straps, rfl⟩ := power
    exact Host.Outcome.next.inj ht ▸ rfl
  · exact (kept_pending s.pending).exec ht (fun straps e => power ⟨straps, e⟩) rfl

/-! ### Energy -/

theorem holdUp_ge {limit n : Nat} (h : n ≤ limit) : n ≤ holdUp limit n := by
  rcases Nat.lt_or_eq_of_le h with lt | rfl
  · rw [holdUp_of_lt lt]; exact Nat.le_succ n
  · rw [holdUp_self]

theorem addEnergy_count {wh : Nat} (h : wh ≤ Config.whMax) (rem amount : Nat) :
    wh ≤ (addEnergy wh rem amount).1 ∧ (addEnergy wh rem amount).1 ≤ Config.whMax := by
  unfold addEnergy
  split
  · exact ⟨holdUp_ge h, holdUp_le ..⟩
  · exact ⟨le_rfl, h⟩

theorem addEnergy_rem {rem amount : Nat} (hr : rem < Config.whRaw) (ha : amount < Config.whRaw) (wh : Nat) :
    (addEnergy wh rem amount).2 = (rem + amount) % Config.whRaw := by
  unfold addEnergy
  split
  · next carry => dsimp only; rw [Nat.mod_eq_sub_mod carry, Nat.mod_eq_of_lt (by omega)]
  · next fits => exact (Nat.mod_eq_of_lt (Nat.lt_of_not_le fits)).symm

theorem addEnergy_whole {wh : Nat} (h : wh < Config.whMax) (rem amount : Nat) :
    (addEnergy wh rem amount).1 * Config.whRaw + (addEnergy wh rem amount).2 = wh * Config.whRaw + rem + amount := by
  unfold addEnergy
  split
  · next carry => dsimp only; rw [holdUp_of_lt h, Nat.add_mul]; omega
  · exact (Nat.add_assoc ..).symm

theorem addEnergy_full (rem amount : Nat) : (addEnergy Config.whMax rem amount).1 = Config.whMax := by
  unfold addEnergy
  split
  · exact holdUp_self Config.whMax
  · rfl

/-- Settles O8: one direction's registers carry, hold and wrap, and the sign names the direction. -/
theorem energyAddCarriesWhole : Obligations.EnergyAddCarriesWhole := by
  intro e sp hsp hir her _ _
  refine ⟨fun pos => ?_, fun neg => ?_, fun zero => ?_⟩
  · rw [Energy.add, if_pos pos]
    exact ⟨rfl, rfl, addEnergy_rem hir hsp _, fun h => addEnergy_whole h _ _, fun h => h ▸ addEnergy_full _ _⟩
  · rw [Energy.add, if_neg (by omega), if_pos neg]
    exact ⟨rfl, rfl, addEnergy_rem her hsp _, fun h => addEnergy_whole h _ _, fun h => h ▸ addEnergy_full _ _⟩
  · subst zero; rfl

/-- Registers whose counts stand at or above `low` and are within the limit. -/
structure Energy.AtLeast (e low : Energy) : Prop where
  imported : low.importWh ≤ e.importWh
  exported : low.exportWh ≤ e.exportWh
  importLimit : e.importWh ≤ Config.whMax
  exportLimit : e.exportWh ≤ Config.whMax

theorem Energy.AtLeast.add {e low : Energy} (h : e.AtLeast low) (sp : Int) : (e.add sp).AtLeast low := by
  unfold Energy.add
  split
  · obtain ⟨ge, le⟩ := addEnergy_count h.importLimit e.importRem sp.natAbs
    exact ⟨h.imported.trans ge, h.exported, le, h.exportLimit⟩
  · split
    · obtain ⟨ge, le⟩ := addEnergy_count h.exportLimit e.exportRem sp.natAbs
      exact ⟨h.imported, h.exported.trans ge, h.importLimit, le⟩
    · exact h

theorem kept_energy (k : Outlet) (low : Energy) : Kept fun s => (s.energyOf k).AtLeast low where
  edit {s t} e hs := by
    cases e with
    | act acts => rw [State.energyOf, show t.energy = s.energy from congrArg Fixed.energy acts.fixed]; exact hs
    | energy j sp =>
      rw [State.setEnergy_energyOf]
      split
      · next hj => subst hj; exact hs.add sp
      · exact hs
    | _ => exact hs
  write w hs := by cases w <;> exact hs
  boundary g hs := by
    cases g <;> exact hs

/-- Settles O15: the counts alone rise, and a pin reset keeps them. -/
theorem energyNeverFalls : Obligations.EnergyNeverFalls := by
  intro c s t k h other importLimit exportLimit
  have rises := (kept_energy k (s.energyOf k)).exec h other ⟨le_rfl, le_rfl, importLimit, exportLimit⟩
  exact ⟨rises.imported, rises.exported⟩

/-! ### Settings -/

/-- The settings and the generation after at most `n` writes of settings: without one both stay. -/
def State.WrittenFrom (s t : State) (n : Nat) : Prop :=
  ∃ k, k ≤ n ∧ t.generation = s.generation + BitVec.ofNat 16 k ∧ (k = 0 → t.settings = s.settings)

theorem Edit.settings (e : Edit s t) : t.settings = s.settings ∧ t.generation = s.generation := by
  cases e with
  | act acts => exact ⟨congrArg Fixed.settings acts.fixed, congrArg Fixed.generation acts.fixed⟩
  | _ => exact ⟨rfl, rfl⟩

theorem Boundary.settings (g : Boundary s t) : t.settings = s.settings ∧ t.generation = s.generation := by
  cases g <;> exact ⟨rfl, rfl⟩

theorem Write.writtenFrom (w : Write s t) : s.WrittenFrom t 1 := by
  cases w with
  | store | window => exact ⟨1, le_rfl, rfl, nofun⟩
  | tracker | breaker => exact ⟨0, Nat.zero_le 1, (BitVec.add_zero _).symm, fun _ => rfl⟩

theorem Edits.writtenFrom {n : Nat} (h : Edits n s t) : s.WrittenFrom t n := by
  induction h with
  | refl => exact ⟨0, le_rfl, (BitVec.add_zero _).symm, fun _ => rfl⟩
  | edit _ e ih =>
    obtain ⟨k, hk, generation, settings⟩ := ih
    exact ⟨k, hk, e.settings.2.trans generation, fun zero => e.settings.1.trans (settings zero)⟩
  | write _ w ih =>
    obtain ⟨k, hk, generation, settings⟩ := ih
    obtain ⟨j, hj, generation', settings'⟩ := w.writtenFrom
    refine ⟨k + j, Nat.add_le_add hk hj, ?_, fun zero => ?_⟩
    · rw [generation', generation, BitVec.add_assoc, BitVec.ofNat_add]
    · exact (settings' (Nat.eq_zero_of_add_eq_zero zero).2).trans (settings (Nat.eq_zero_of_add_eq_zero zero).1)

theorem Run.settings (h : Run s t) : t.settings = s.settings ∧ t.generation = s.generation := by
  induction h with
  | refl => exact ⟨rfl, rfl⟩
  | within _ g ih =>
    obtain ⟨n, hn, edits⟩ := g.edits
    obtain rfl := Nat.le_zero.mp hn
    obtain ⟨k, hk, generation, settings⟩ := edits.writtenFrom
    obtain rfl := Nat.le_zero.mp hk
    exact ⟨(settings rfl).trans ih.1, (generation.trans (BitVec.add_zero _)).trans ih.2⟩
  | boundary _ g ih => exact ⟨g.settings.1.trans ih.1, g.settings.2.trans ih.2⟩

/-- Settles O16: a command writes at most four times, and four writes do not bring the generation round. -/
theorem settingsChangeWithGeneration : Obligations.SettingsChangeWithGeneration := by
  intro c s t h other same
  rcases exec_cases h other with within | bounded
  · obtain ⟨n, hn, edits⟩ := within.edits
    obtain ⟨k, hk, generation, settings⟩ := edits.writtenFrom
    refine settings ?_
    have round := generation.symm.trans same
    bv_omega
  · exact bounded.run.settings.1

end Sys2Proof.Machine

/-! PROOF. The invariants of single blocks: alert lines, the queue, the coil slots, the presence rules, the settings' ranges, the
counters, and what an arrival leaves behind (O17 to O22, O50). -/

namespace Sys2Proof.Machine

variable {s t : State} {c : Instr}

/-- Settles O1. -/
theorem stepTakesFrontCommand : Obligations.StepTakesFrontCommand :=
  ⟨fun _ _ _ => rfl, fun s empty => by rw [step, empty]⟩

/-! ### Alert lines -/

/-- What `State.AlertsFollow` says of one port. -/
def Port.AlertFollows (p : Port) : Prop := p.alert = !p.events.isEmpty ∧ p.events.length ≤ Config.eventQueueSize

theorem Port.AlertFollows.of_eq {p q : Port} (h : p.AlertFollows) (events : q.events = p.events) (alert : q.alert = p.alert) :
    q.AlertFollows := by
  unfold Port.AlertFollows
  rw [events, alert]
  exact h

theorem Port.AlertFollows.withEvents {p : Port} {es : List Event} (short : es.length ≤ Config.eventQueueSize) :
    (p.withEvents es).AlertFollows := ⟨rfl, short⟩

theorem Port.AlertFollows.offer {p : Port} (h : p.AlertFollows) (e : Event) : (p.offer e).AlertFollows := by
  unfold Port.offer
  split
  · next room => exact .withEvents (by rw [List.length_append]; exact room)
  · exact h

theorem Port.AlertFollows.offers {p : Port} (h : p.AlertFollows) (es : List Event) : (p.offers es).AlertFollows := by
  induction es generalizing p with
  | nil => exact h
  | cons e es ih => exact ih (h.offer e)

theorem State.AlertsFollow.setPort (h : s.AlertsFollow) (x : Link) {p : Port} (follows : p.AlertFollows) :
    (s.setPort x p).AlertsFollow := by
  intro y
  rw [State.setPort_port]
  split
  · exact follows
  · exact h y

theorem State.AlertsFollow.of_ports (h : s.AlertsFollow)
    (ports : ∀ x, (t.port x).events = (s.port x).events ∧ (t.port x).alert = (s.port x).alert) : t.AlertsFollow :=
  fun x => Port.AlertFollows.of_eq (h x) (ports x).1 (ports x).2

theorem Port.silenceRise_eq (p : Port) : p.silenceRise = { p with silence := p.silenceRise.silence } := by
  unfold Port.silenceRise; split <;> rfl

theorem Port.stallCount_eq (p : Port) (low : Bool) :
    p.stallCount low = { p with stall := (p.stallCount low).stall, stallDue := (p.stallCount low).stallDue } := by
  unfold Port.stallCount; split <;> rfl

theorem State.secondsPass_port (s : State) (x : Link) : s.secondsPass.port x = (s.port x).silenceRise := by cases x <;> rfl

theorem State.sampleLines_port (s : State) (low : PerLink Bool) (x : Link) :
    (s.sampleLines low).port x = (s.port x).stallCount (low.get x) := by cases x <;> rfl

theorem State.pinValues_port (s : State) (x : Link) : s.pinValues.port x = Port.initial s.generation := by cases x <;> rfl

theorem kept_alerts : Kept State.AlertsFollow where
  edit {s _} e hs := by
    cases e with
    | act acts =>
      intro x
      obtain ⟨es, he⟩ := acts.ports x
      rw [he]
      exact Port.AlertFollows.offers (hs x) es
    | port x p events alert => exact hs.setPort x (Port.AlertFollows.of_eq (hs x) events alert)
    | drain x es short => exact hs.setPort x (Port.AlertFollows.withEvents (p := s.port x) (short.trans (hs x).2))
    | offer x e => exact hs.setPort x (Port.AlertFollows.offer (hs x) e)
    | _ => exact hs
  write w hs := by cases w <;> exact hs
  boundary g hs := by
    cases g with
    | seconds => exact hs.of_ports fun x => by rw [State.secondsPass_port, Port.silenceRise_eq]; exact ⟨rfl, rfl⟩
    | lines low => exact hs.of_ports fun x => by rw [State.sampleLines_port, Port.stallCount_eq]; exact ⟨rfl, rfl⟩
    | pin =>
      intro x
      show Port.AlertFollows (State.port _ x)
      rw [State.setResetHeld_port, State.pinValues_port]
      exact ⟨rfl, Nat.zero_le _⟩
    | _ => exact hs

/-- Settles O17. -/
theorem everyStepKeepsAlertsFollowing : Obligations.EveryStepKeepsAlertsFollowing :=
  fun _ _ hs h => kept_alerts.step (fun _ _ => id) (fun _ _ => reset_alerts) h hs

/-! ### The Action Queue -/

@[simp] theorem Entry.offHoldFall_id (e : Entry) : e.offHoldFall.id = e.id := by unfold Entry.offHoldFall; split <;> rfl

@[simp] theorem Entry.offHoldFall_outlet (e : Entry) : e.offHoldFall.outlet = e.outlet := by
  unfold Entry.offHoldFall; split <;> rfl

@[simp] theorem Entry.offHoldFall_phase (e : Entry) : e.offHoldFall.phase = e.phase := by
  unfold Entry.offHoldFall; split <;> rfl

theorem State.secondsPass_entries (s : State) : s.secondsPass.entries = s.entries.map Entry.offHoldFall := rfl

theorem kept_queue : Kept fun s => s.QueueFits ∧ s.EntriesDistinct where
  edit e hs := by
    cases e with
    | act acts => exact ⟨acts.fits hs.1, acts.distinct hs.2⟩
    | _ => exact hs
  write w hs := by cases w <;> exact hs
  boundary {s t} g hs := by
    cases g with
    | seconds =>
      obtain ⟨fits, ids, outlets⟩ := hs
      refine ⟨?_, ?_, ?_⟩
      · rw [State.QueueFits, State.secondsPass_entries, List.length_map]; exact fits
      · rw [State.secondsPass_entries, List.map_map]; simpa [Function.comp_def] using ids
      · rw [State.secondsPass_entries, List.map_map]; simpa [Function.comp_def] using outlets
    | pin => exact ⟨Nat.zero_le _, List.nodup_nil, List.nodup_nil⟩
    | _ => exact hs

/-- Settles O18. -/
theorem everyStepKeepsQueueBounds : Obligations.EveryStepKeepsQueueBounds :=
  fun _ _ fits distinct h => kept_queue.step (fun _ _ => id) (fun _ _ => reset_queue) h ⟨fits, distinct⟩

/-! ### The coil slots -/

theorem kept_slots : Kept fun s => s.SlotsFit ∧ s.CoilsSlotted where
  edit e hs := by
    cases e with
    | act acts => exact ⟨acts.slots hs.1, acts.coils hs.2⟩
    | _ => exact hs
  write w hs := by cases w <;> exact hs
  boundary g hs := by
    cases g with
    | pin =>
      refine ⟨Nat.zero_le _, fun k driven => absurd ?_ driven⟩
      rw [State.setResetHeld_driver, State.driver, State.pinValues, look_tab24]
      rfl
    | _ => exact hs

/-- The driven coils are among the outlets that hold a slot. -/
theorem State.coilsDriven_le (s : State) (coils : s.CoilsSlotted) : s.coilsDriven ≤ s.slots.length := by
  refine ((nodup_allOutlets.filter _).subperm fun k driven => ?_).length_le
  exact coils k (by simpa using (List.mem_filter.mp driven).2)

/-- Settles O19. -/
theorem everyStepKeepsCoilSlots : Obligations.EveryStepKeepsCoilSlots :=
  ⟨fun _ _ fit slotted h => kept_slots.step (fun _ _ => id) (fun _ _ => reset_slots) h ⟨fit, slotted⟩,
    fun s fit slotted => (s.coilsDriven_le slotted).trans fit⟩

/-! ### The presence rules -/

theorem Boundary.rules (g : Boundary s t) (r : s.PresenceRules) : t.PresenceRules := by
  have same (holds : t.holds = s.holds) (sweeps : t.sweeps = s.sweeps) (banks : t.banks = s.banks)
      (ports : t.ports = s.ports) : t.PresenceRules :=
    r.of_same holds sweeps banks fun x => by rw [State.port, ports]; exact ⟨rfl, rfl, .inl rfl⟩
  cases g with
  | seconds =>
    refine r.of_same rfl rfl rfl fun x => ?_
    rw [State.secondsPass_port, Port.silenceRise]
    split
    · exact ⟨rfl, rfl, .inl rfl⟩
    · next out => exact ⟨rfl, rfl, .inr (.inr out)⟩
  | lines low =>
    refine r.of_same rfl rfl rfl fun x => ?_
    rw [State.sampleLines_port, Port.stallCount_eq]
    exact ⟨rfl, rfl, .inl rfl⟩
  | pin low =>
    intro x
    have port : (s.pinValues.setResetHeld low).port x = Port.initial s.generation := s.pinValues_port x
    refine ⟨fun k held => ?_, ?_, ?_, fun _ => ⟨?_, ?_⟩⟩
    · rw [State.setResetHeld_hold, State.hold, State.pinValues, look_fill] at held; cases held
    · rw [port]; cases x <;> rfl
    · cases x <;> exact nofun
    · cases x <;> rfl
    · rw [port]; rfl
  | _ => exact same rfl rfl rfl rfl

theorem Run.rules (h : Run s t) (r : s.PresenceRules) : t.PresenceRules := by
  induction h with
  | refl => exact r
  | within _ g ih => exact g.rules ih
  | boundary _ g ih => exact g.rules ih

/-- Settles O20: the rules of both links are kept together by each command's edits. -/
theorem everyStepKeepsPresenceRules : Obligations.EveryStepKeepsPresenceRules := by
  intro s t holds sweeps absent h
  refine State.presenceRules_iff.mp (step_keeps (P := State.PresenceRules)
    (fun _ _ r => r.of_same rfl rfl rfl fun _ => ⟨rfl, rfl, .inl rfl⟩)
    (fun _ _ => reset_presence.of_same rfl rfl rfl fun _ => ⟨rfl, rfl, .inl rfl⟩) ?_ h
    (State.presenceRules_iff.mpr ⟨holds, sweeps, absent⟩))
  intro c s t h other rules
  exact (exec_cases h other).elim (fun g => g.rules rules) fun g => g.run.rules rules

/-! ### The settings' ranges -/

theorem State.SettingsInRange.store (h : s.SettingsInRange) {v : Setting} {w : Int} (admitted : v.domain.admits w)
    (stored : t.settings = s.settings.store v w) : t.SettingsInRange := by
  intro u
  rw [stored]
  by_cases hu : u = v
  · subst hu; rw [Settings.read_store_self _ _ admitted]; exact admitted
  · rw [Settings.read_store_of_ne _ _ hu]; exact h u

theorem kept_settings : Kept State.SettingsInRange where
  edit e hs v := by rw [e.settings.1]; exact hs v
  write w hs := by
    cases w with
    | store v w admitted => exact hs.store admitted rfl
    | window k w admitted => exact hs.store admitted rfl
    | tracker | breaker => exact hs
  boundary g hs v := by rw [g.settings.1]; exact hs v

/-- Settles O21. -/
theorem everyStepKeepsSettingsInRange : Obligations.EveryStepKeepsSettingsInRange := by
  refine ⟨fun _ _ hs h => kept_settings.step (fun _ _ => id) (fun _ _ => reset_settings) h hs, fun f b k x => ?_⟩
  repeat' constructor

/-! ### The counters -/

/-- Counts stay in bounds where every part of them stays. -/
theorem State.CountersFit.of_same (h : s.CountersFit) (subSecond : t.subSecond = s.subSecond) (ages : t.senseAge = s.senseAge)
    (breakers : t.breakers = s.breakers)
    (feeds : ∀ f, (t.tracker f).phase = (s.tracker f).phase ∧ (t.tracker f).acquired = (s.tracker f).acquired)
    (sequencers : t.sequencers = s.sequencers) (protections : t.protections = s.protections) (trips : t.tripRuns = s.tripRuns)
    (monitors : t.monitors = s.monitors) (windows : t.settings.monWindow = s.settings.monWindow)
    (ports : ∀ x, ((t.port x).stall ≤ 231) ∧ (t.port x).badFrames ≤ 255 ∧ (t.port x).silence ≤ 255) : t.CountersFit where
  clock := by rw [subSecond]; exact h.clock
  ages k := by rw [State.age, ages]; exact h.ages k
  breakers b := by rw [State.breaker, breakers]; exact h.breakers b
  feeds f := by rw [(feeds f).1, (feeds f).2]; exact h.feeds f
  staggers b := by rw [State.sequencer, sequencers]; exact h.staggers b
  branches b := by rw [State.protection, protections]; exact h.branches b
  trips k := by rw [State.tripRun, trips]; exact h.trips k
  monitors k := by rw [State.monitor, monitors, windows]; exact h.monitors k
  links := ports

theorem State.CountersFit.setPort (h : s.CountersFit) (x : Link) {p : Port} (stall : p.stall ≤ 231)
    (badFrames : p.badFrames ≤ 255) (silence : p.silence ≤ 255) : (s.setPort x p).CountersFit := by
  refine h.of_same rfl rfl rfl (fun _ => ⟨rfl, rfl⟩) rfl rfl rfl rfl rfl fun y => ?_
  rw [State.setPort_port]
  split
  · exact ⟨stall, badFrames, silence⟩
  · exact h.links y

theorem State.CountersFit.setTracker (h : s.CountersFit) (f : Feed) {p : Tracker} (phase : p.phase ≤ 65535)
    (acquired : p.acquired < 4) : (s.setTracker f p).CountersFit where
  clock := h.clock
  ages := h.ages
  breakers := h.breakers
  feeds g := by
    rw [State.setTracker_tracker]
    split
    · exact ⟨phase, acquired⟩
    · exact h.feeds g
  staggers := h.staggers
  branches := h.branches
  trips := h.trips
  monitors := h.monitors
  links := h.links

theorem Edit.counters (e : Edit s t) (h : s.CountersFit) : t.CountersFit := by
  cases e with
  | act acts moves => exact moves.counters h
  | sums b p overRun restarts =>
    refine { h with branches := fun c => ?_ }
    rw [State.setProtection_protection]
    split
    · exact ⟨overRun, restarts ▸ (h.branches b).2⟩
    · exact h.branches c
  | meter | energy => exact h.of_same rfl rfl rfl (fun _ => ⟨rfl, rfl⟩) rfl rfl rfl rfl rfl h.links
  | port x p events alert due stall badFrames silence =>
    obtain ⟨hs, hb, hq⟩ := h.links x
    exact h.setPort x (stall ▸ hs) (badFrames.elim (fun e => e ▸ hb) id)
      (silence.elim (fun e => e ▸ hq) fun e => e ▸ Nat.zero_le _)
  | drain x es => exact h.setPort x (h.links x).1 (h.links x).2.1 (h.links x).2.2
  | offer x e =>
    obtain ⟨_, _, _, he⟩ := (s.port x).offer_eq e
    rw [he]
    exact h.setPort x (h.links x).1 (h.links x).2.1 (h.links x).2.2
  | links => exact h.of_same rfl rfl rfl (fun _ => ⟨rfl, rfl⟩) rfl rfl rfl rfl rfl h.links

/-- A store other than a monitor window's change leaves the windows. -/
theorem Settings.monWindow_store (c : Settings) {v : Setting} {w : Int} {k : Outlet}
    (apart : v = .monWindow k → c.read v = w) : look (c.store v w).monWindow k = look c.monWindow k := by
  by_cases hv : v = .monWindow k
  · rw [← apart hv, Settings.store_read]
  · exact Int.ofNat_inj.mp (Settings.read_store_of_ne c w (Ne.symm hv))

theorem Write.counters (w : Write s t) (h : s.CountersFit) : t.CountersFit := by
  cases w with
  | store v w admitted free apart =>
    refine { h with monitors := fun k => ?_ }
    show _ ∧ _ ≤ look (s.settings.store v w).monWindow k * 3840
    rw [Settings.monWindow_store _ (apart k)]
    exact h.monitors k
  | window k w admitted =>
    refine { h with monitors := fun j => ?_ }
    show (State.monitor (State.setMonitor _ k _) j).evidence ≤ 255 ∧ (State.monitor (State.setMonitor _ k _) j).silence ≤
      look (s.settings.store (.monWindow k) w).monWindow j * 3840
    rw [State.setMonitor_monitor]
    split
    · split <;> exact ⟨Nat.zero_le _, Nat.zero_le _⟩
    · next ne =>
      rw [Settings.monWindow_store _ fun e => absurd (Setting.monWindow.inj e).symm ne]
      exact h.monitors j
  | tracker f p notice phase acquired => exact h.setTracker f (phase ▸ (h.feeds f).1) (acquired ▸ (h.feeds f).2)
  | breaker b v run =>
    refine { h with breakers := fun b' => ?_ }
    rw [State.setBreaker_breaker]
    split
    · exact run
    · exact h.breakers b'

/-! A close and a pass keep a tracker's counts in bounds. -/

theorem Tracker.nextState_acquired (t : Tracker) (kind : CloseKind) (h : t.acquired < 4) : (t.nextState kind).2 < 4 := by
  unfold Tracker.nextState
  split
  case h_7 =>
    split
    · split
      · exact Nat.zero_lt_succ _
      · next short => exact Nat.lt_of_not_le short
    · split
      · exact Nat.zero_lt_succ _
      · exact h
  case h_8 =>
    split
    · exact Nat.zero_lt_succ _
    · exact h
  case h_1 | h_3 | h_5 => exact Nat.zero_lt_succ _
  case h_2 | h_4 | h_6 => exact h

theorem Tracker.capture_counts (t : Tracker) (good : Bool) (c : Nat) (crossing : BitVec 40) (stamp : Timestamp) :
    (t.capture good c crossing stamp).acquired = t.acquired := by
  unfold Tracker.capture
  split
  · rfl
  · split
    · split <;> rfl
    · rfl

theorem Tracker.closeSynthetic_counts (t : Tracker) (w : Nat) :
    (t.closeSynthetic w).phase = t.phase ∧ (t.closeSynthetic w).acquired = (t.nextState .synthetic).2 := by
  refine ⟨?_, rfl⟩
  show (t.windowStage .synthetic w).phase = t.phase
  unfold Tracker.windowStage
  split <;> rfl

theorem Tracker.pass_counts {t : Tracker} (acquired : t.acquired < 4) (w c : Nat) (sample : BitVec 32)
    (stamp : Timestamp) (v : Int) (clip : Bool) :
    (t.pass w c sample stamp v clip).phase ≤ 65535 ∧ (t.pass w c sample stamp v clip).acquired < 4 := by
  show Tracker.phase (if _ then _ else if _ then _ else _) ≤ 65535 ∧ Tracker.acquired (if _ then _ else if _ then _ else _) < 4
  split
  · refine ⟨Nat.zero_le _, ?_⟩
    show ((t.close .crossing w).capture _ _ _ _).acquired < 4
    rw [Tracker.capture_counts]
    exact t.nextState_acquired .crossing acquired
  · split
    · obtain ⟨hp, ha⟩ := (t.countSample v clip).closeSynthetic_counts w
      rw [hp, ha]
      exact ⟨holdUp_le .., Tracker.nextState_acquired _ _ acquired⟩
    · exact ⟨holdUp_le .., acquired⟩

theorem nextAge_le (active : Bool) (age : Nat) : nextAge active age ≤ 192 := by
  unfold nextAge
  split
  · exact Nat.zero_le _
  · exact holdUp_le ..

theorem State.takeSet_age (s : State) (set : SampleSet) (k : Outlet) :
    (s.takeSet set).age k = nextAge (look set.sense k) (s.age k) := look_tab24 ..

theorem State.takeSet_breaker (s : State) (set : SampleSet) (b : Branch) :
    (s.takeSet set).breaker b = (s.breaker b).next (look set.breaker b) := look_tab6 ..

theorem Protection.timerFall_counts (p : Protection) :
    p.timerFall.overRun = p.overRun ∧ p.timerFall.restartCount = p.restartCount := by
  unfold Protection.timerFall; split <;> exact ⟨rfl, rfl⟩

theorem Monitor.graceFall_eq (m : Monitor) : m.graceFall = { m with grace := m.graceFall.grace } := by
  unfold Monitor.graceFall; split <;> rfl

theorem Port.silenceRise_le {p : Port} (h : p.silence ≤ 255) : p.silenceRise.silence ≤ 255 := by
  unfold Port.silenceRise
  split
  · exact h
  · exact holdUp_le ..

theorem Port.stallCount_le (p : Port) (low : Bool) : (p.stallCount low).stall ≤ 231 := by
  unfold Port.stallCount
  split
  · exact holdUp_le ..
  · exact Nat.zero_le _

theorem State.secondsPass_protection (s : State) (b : Branch) : s.secondsPass.protection b = (s.protection b).timerFall :=
  look_tab6 ..

theorem State.secondsPass_monitor (s : State) (k : Outlet) : s.secondsPass.monitor k = (s.monitor k).graceFall := look_tab24 ..

theorem Boundary.counters (g : Boundary s t) (h : s.CountersFit) : t.CountersFit := by
  cases g with
  | clock sample seconds sub fits => exact { h with clock := fits }
  | take set =>
    refine { h with ages := fun k => ?_, breakers := fun b => ?_ }
    · rw [State.takeSet_age]; exact nextAge_le ..
    · rw [State.takeSet_breaker]; exact Breaker.next_run_lt ..
  | pass f =>
    obtain ⟨phase, acquired⟩ := Tracker.pass_counts (h.feeds f).2 (look s.settings.windowExp f)
      (look s.settings.divider f) s.sampleCounter s.stamp (look s.handed.volts f) (look s.handed.vClip f)
    exact h.setTracker f phase acquired
  | synthetic f w =>
    obtain ⟨phase, acquired⟩ := (s.tracker f).closeSynthetic_counts w
    exact h.setTracker f (phase ▸ (h.feeds f).1) (acquired ▸ Tracker.nextState_acquired _ _ (h.feeds f).2)
  | notice f => exact h.setTracker f (h.feeds f).1 (h.feeds f).2
  | seconds =>
    refine { h with branches := fun b => ?_, monitors := fun k => ?_, links := fun x => ?_ }
    · rw [State.secondsPass_protection, (s.protection b).timerFall_counts.1, (s.protection b).timerFall_counts.2]
      exact h.branches b
    · rw [State.secondsPass_monitor, Monitor.graceFall_eq]; exact h.monitors k
    · rw [State.secondsPass_port, Port.silenceRise_eq]
      exact ⟨(h.links x).1, (h.links x).2.1, Port.silenceRise_le (h.links x).2.2⟩
  | lines low =>
    refine { h with links := fun x => ?_ }
    rw [State.sampleLines_port, Port.stallCount_eq]
    exact ⟨Port.stallCount_le .., (h.links x).2.1, (h.links x).2.2⟩
  | pin low =>
    have reset := reset_counters
    exact { clock := h.clock
            ages := reset.ages
            breakers := reset.breakers
            feeds := reset.feeds
            staggers := reset.staggers
            branches := reset.branches
            trips := reset.trips
            monitors := fun k => by
              rw [State.setResetHeld_monitor, State.monitor, State.pinValues, look_tab24]
              exact ⟨Nat.zero_le _, Nat.zero_le _⟩
            links := fun x => by
              rw [State.setResetHeld_port, State.pinValues_port]
              exact ⟨Nat.zero_le _, Nat.zero_le _, Nat.zero_le _⟩ }
  | handling | stamp | address => exact h.of_same rfl rfl rfl (fun _ => ⟨rfl, rfl⟩) rfl rfl rfl rfl rfl h.links

/-- Settles O22. -/
theorem everyStepKeepsCountersInBounds : Obligations.EveryStepKeepsCountersInBounds :=
  fun _ _ hs h => Kept.step ⟨Edit.counters, Write.counters, Boundary.counters⟩
    (fun _ _ h => h.of_same rfl rfl rfl (fun _ => ⟨rfl, rfl⟩) rfl rfl rfl rfl rfl h.links)
    (fun _ _ => reset_counters.of_same rfl rfl rfl (fun _ => ⟨rfl, rfl⟩) rfl rfl rfl rfl rfl reset_counters.links) h hs

/-! ### Waiting lines and verdicts -/

theorem State.LinesLive.of_entries (h : s.LinesLive) (sequencers : t.sequencers = s.sequencers)
    (entries : ∀ e, e ∈ s.entries → ∃ e', e' ∈ t.entries ∧ e'.id = e.id ∧ e'.phase = e.phase ∧ t.branchOf e'.outlet = s.branchOf e.outlet) :
    t.LinesLive := by
  have live {b : Branch} {p : Phase} {id : Byte} : s.HasLive b p id → t.HasLive b p id := by
    rintro ⟨e, he, hid, hp, hb⟩
    obtain ⟨e', he', hid', hp', hb'⟩ := entries e he
    exact ⟨e', he', hid'.trans hid, hp'.trans hp, hb'.trans hb⟩
  intro b
  rw [State.sequencer, sequencers]
  obtain ⟨nodup, line, progress⟩ := h b
  exact ⟨nodup, fun id hid => live (line id hid), fun id hid => live (progress id hid)⟩

/-- An outlet with an entry keeps its branch at every write. -/
theorem Write.branchOf (w : Write s t) {e : Entry} (live : e ∈ s.entries) : t.branchOf e.outlet = s.branchOf e.outlet := by
  have other {v : Setting} {w : Int} (kept : s.settings.read (.outletBranch e.outlet) = (s.settings.store v w).read (.outletBranch e.outlet)) :
      look (s.settings.store v w).outletBranch e.outlet = look s.settings.outletBranch e.outlet :=
    Fin.ext (Int.ofNat_inj.mp kept.symm)
  cases w with
  | store v w admitted free apart =>
    refine other ?_
    by_cases hv : v = .outletBranch e.outlet
    · subst hv
      rcases free with same | idle
      · rw [← same, Settings.store_read]
      · have : s.entryOf e.outlet = none := by simpa [State.mapBusy] using idle
        exact absurd (List.find?_eq_none.mp this e live) (by simp)
    · exact (Settings.read_store_of_ne _ _ (Ne.symm hv)).symm
  | window k w admitted => exact other (Settings.read_store_of_ne _ _ (by simp)).symm
  | tracker | breaker => rfl

theorem kept_lines : Kept fun s => s.IdsDistinct ∧ s.LinesLive where
  edit e hs := by
    cases e with
    | act acts moves => exact ⟨moves.ids hs.1, moves.lines hs.1 hs.2⟩
    | _ => exact hs
  write {s t} w hs := by
    have entries : t.entries = s.entries ∧ t.sequencers = s.sequencers := by cases w <;> exact ⟨rfl, rfl⟩
    refine ⟨by rw [State.IdsDistinct, entries.1]; exact hs.1, hs.2.of_entries entries.2 fun e he => ?_⟩
    exact ⟨e, entries.1 ▸ he, rfl, rfl, w.branchOf he⟩
  boundary {s t} g hs := by
    cases g with
    | seconds =>
      refine ⟨?_, hs.2.of_entries rfl fun e he => ?_⟩
      · rw [State.IdsDistinct, State.secondsPass_entries, List.map_map]
        simpa [Function.comp_def, State.IdsDistinct] using hs.1
      · exact ⟨e.offHoldFall, List.mem_map_of_mem he, e.offHoldFall_id, e.offHoldFall_phase, by rw [e.offHoldFall_outlet]; rfl⟩
    | pin => exact ⟨List.nodup_nil, reset_lines.of_entries rfl nofun⟩
    | _ => exact hs

theorem kept_verdicts : Kept State.VerdictsWait where
  edit e hs := by
    cases e with
    | act acts moves => exact moves.verdicts hs
    | _ => exact hs
  write w hs := by
    cases w with
    | window k w =>
      intro j expired pending
      rw [State.windowSettingChanged, State.setMonitor_monitor] at expired pending
      split at expired
      · split at expired <;> cases expired
      · next ne => rw [if_neg ne] at pending; exact hs j expired pending
    | _ => exact hs
  boundary {s t} g hs := by
    cases g with
    | seconds =>
      intro k expired pending
      rw [State.secondsPass_monitor, Monitor.graceFall_eq] at expired pending
      exact hs k expired pending
    | pin =>
      intro k expired
      rw [State.setResetHeld_monitor, State.monitor, State.pinValues, look_tab24, State.pinMonitor] at expired
      split at expired <;> cases expired
    | _ => exact hs

/-! ### What an arrival leaves in hand -/

theorem Edit.trackers (e : Edit s t) : t.trackers = s.trackers := by
  cases e with
  | act acts => exact congrArg Fixed.trackers acts.fixed
  | _ => rfl

theorem Write.notice (w : Write s t) (f : Feed) : (t.tracker f).notice = (s.tracker f).notice := by
  cases w with
  | tracker g p notice =>
    rw [State.setTracker_tracker]
    split
    · next hf => subst hf; exact notice
    · rfl
  | _ => rfl

theorem Edit.handling (e : Edit s t) (h : s.handling = none) : t.handling = none := by
  cases e with
  | act acts moves => exact moves.handling h
  | _ => exact h

/-- An edit makes no stall due. -/
theorem Edit.due (e : Edit s t) {x : Link} (h : (s.port x).stallDue = false) : (t.port x).stallDue = false := by
  have set (y : Link) (p : Port) (due : p.stallDue = (s.port y).stallDue ∨ p.stallDue = false) :
      ((s.setPort y p).port x).stallDue = false := by
    rw [State.setPort_port]
    split
    · next hx => subst hx; exact due.elim (·.trans h) id
    · exact h
  cases e with
  | act acts =>
    obtain ⟨es, he⟩ := acts.ports x
    obtain ⟨_, _, _, hp⟩ := (s.port x).offers_eq es
    rw [he, hp]
    exact h
  | port y p events alert due => exact set y p due
  | drain y es => exact set y _ (.inl rfl)
  | offer y e =>
    obtain ⟨_, _, _, he⟩ := (s.port y).offer_eq e
    rw [he]
    exact set y _ (.inl rfl)
  | _ => exact h

theorem Edits.due {n : Nat} (h : Edits n s t) {x : Link} (none : (s.port x).stallDue = false) :
    (t.port x).stallDue = false := by
  induction h with
  | refl => exact none
  | edit _ e ih => exact e.due (ih none)
  | write _ w ih => cases w <;> exact ih none

theorem Within.due {m : Nat} (h : Within m s t) {x : Link} (none : (s.port x).stallDue = false) :
    (t.port x).stallDue = false := by
  obtain ⟨_, _, edits⟩ := h.edits
  exact edits.due none

theorem Edits.handling {n : Nat} (h : Edits n s t) (idle : s.handling = none) : t.handling = none := by
  induction h with
  | refl => exact idle
  | edit _ e ih => exact e.handling (ih idle)
  | write _ w ih => cases w <;> exact ih idle

theorem Edits.notice {n : Nat} (h : Edits n s t) (f : Feed) : (t.tracker f).notice = (s.tracker f).notice := by
  induction h with
  | refl => rfl
  | edit _ e ih => rw [State.tracker, e.trackers]; exact ih
  | write _ w ih => exact (w.notice f).trans ih

theorem Within.hands {m : Nat} (h : Within m s t) (hs : s.NothingInHand) : t.NothingInHand := by
  obtain ⟨handling, notices, dues⟩ := hs
  obtain ⟨_, _, edits⟩ := h.edits
  exact ⟨edits.handling handling, fun f => (edits.notice f).trans (notices f), fun x => edits.due (dues x)⟩

theorem State.clearNotices_tracker (s : State) (f : Feed) :
    s.clearNotices.tracker f = { s.tracker f with notice := Notice.quiet } := by
  simp only [State.clearNotices, allFeeds, List.foldl_cons, List.foldl_nil, State.setTracker_tracker]
  fin_cases f <;> rfl

theorem State.closeArrival_tracker (s : State) (f : Feed) :
    s.closeArrival.tracker f = { s.tracker f with notice := Notice.quiet } := by
  rw [State.closeArrival, State.setHandling_tracker, State.clearNotices_tracker]

theorem State.closeArrival_handling (s : State) : s.closeArrival.handling = none := rfl

theorem State.closeArrival_port (s : State) (x : Link) : s.closeArrival.port x = s.port x := rfl

theorem State.clearNotices_handling (s : State) : s.clearNotices.handling = s.handling := rfl

theorem State.clearNotices_port (s : State) (x : Link) : s.clearNotices.port x = s.port x := rfl

/-! Every arrival takes each link's turn for a stall. -/

theorem mem_withSettles {c : Turn} {ts : List Turn} (h : c ∈ ts) (due : Option Branch) : c ∈ withSettles due ts := by
  induction ts generalizing due with
  | nil => cases h
  | cons u ts ih =>
    cases due with
    | none =>
      rw [withSettles]
      rcases List.mem_cons.mp h with rfl | tail
      · exact List.mem_cons_self
      · exact List.mem_cons_of_mem _ (ih tail _)
    | some b =>
      rw [withSettles]
      split
      · rcases List.mem_cons.mp h with rfl | tail
        · exact List.mem_cons_self
        · exact List.mem_cons_of_mem _ (ih tail _)
      · rcases List.mem_cons.mp h with rfl | tail
        · exact List.mem_cons_of_mem _ List.mem_cons_self
        · exact List.mem_cons_of_mem _ (List.mem_cons_of_mem _ (ih tail _))

theorem State.mem_turnsOf {s : State} {o : ArrivalOrder} {c : Turn} (h : c ∈ allTurns) : c ∈ s.turnsOf o := by
  refine mem_withSettles ?_ none
  by_cases first : c ∈ ((o.first.filter fun t => !isSettles t).flatMap s.withNeeds).eraseDups
  · exact List.mem_append_left _ first
  · exact List.mem_append_right _ (List.mem_filter.mpr ⟨h, by simpa using first⟩)

theorem stall_mem_allTurns (x : Link) : Turn.stall x ∈ allTurns := by
  unfold allTurns
  refine List.mem_append_left _ (List.mem_append_right _ (List.mem_map_of_mem ?_))
  cases x <;> decide

theorem State.turn_stall_due (s : State) (x : Link) : ((s.turn (.stall x)).port x).stallDue = false := by
  show (State.port (if (s.port x).stallDue then s.abandon x else s) x).stallDue = false
  split
  · refine ((Within.refl (m := 0) _).countBad x).due ?_
    rw [State.setPort_port_self]
  · next none => exact Bool.eq_false_iff.mpr none

theorem State.turns_due {x : Link} {ts : List Turn} (h : Turn.stall x ∈ ts) (s : State) :
    ((ts.foldl State.turn s).port x).stallDue = false := by
  induction ts generalizing s with
  | nil => cases h
  | cons c ts ih =>
    rcases List.mem_cons.mp h with rfl | tail
    · exact ((Within.refl (m := 0) _).turns ts).due (s.turn_stall_due x)
    · exact ih tail _

theorem State.runTurns_due {x : Link} {ts : List Turn} (h : Turn.stall x ∈ ts) (s : State) :
    ((s.runTurns ts).port x).stallDue = false :=
  (Within.act (m := 0) (.refl _) (Acts.refl _).arbitrate (Moves.refl _).arbitrate).due (State.turns_due h s)

theorem State.takeTurns_due (s : State) (o : ArrivalOrder) (x : Link) : ((s.takeTurns o).port x).stallDue = false := by
  have mem : Turn.stall x ∈ s.turnsOf o := State.mem_turnsOf (stall_mem_allTurns x)
  unfold State.takeTurns
  dsimp only
  split
  · exact State.runTurns_due (List.mem_filter.mpr ⟨mem, rfl⟩) s
  · exact State.runTurns_due mem s

theorem State.NothingInHand.of_same (h : s.NothingInHand) (handling : t.handling = s.handling) (trackers : t.trackers = s.trackers)
    (due : ∀ x, (t.port x).stallDue = (s.port x).stallDue) : t.NothingInHand :=
  ⟨handling.trans h.1, fun f => by rw [State.tracker, trackers]; exact h.2.1 f, fun x => (due x).trans (h.2.2 x)⟩

theorem Bounded.hands (h : Bounded s t) (hs : s.NothingInHand) : t.NothingInHand := by
  cases h with
  | arrival set o =>
    unfold State.arrival
    split
    · rw [State.advanceClock]
      split <;> exact hs
    · refine ⟨State.closeArrival_handling _, fun f => ?_, fun x => ?_⟩
      · rw [State.closeArrival_tracker]
      · rw [State.closeArrival_port]; exact State.takeTurns_due _ o x
  | second =>
    unfold State.secondTick State.running
    split
    · split
      · exact hs
      · exact hs.of_same rfl rfl fun x => by rw [State.secondsPass_port, Port.silenceRise_eq]; rfl
    · exact hs
  | synthetic f =>
    unfold State.syntheticCycle
    split
    · have closed : Within 0 (s.setTracker f ((s.tracker f).closeSynthetic (look s.settings.windowExp f)))
          (s.trackerSynthetic f) := (Within.refl _).act ((Acts.refl _).feedStateTurn f) ((Moves.refl _).feedStateTurn f)
      obtain ⟨_, _, edits⟩ := (closed.syntheticStages f).edits
      refine ⟨?_, fun g => ?_, fun x => ?_⟩
      · rw [State.clearNotices_handling]; exact edits.handling hs.1
      · rw [State.clearNotices_tracker]
      · rw [State.clearNotices_port]; exact edits.due (hs.2.2 x)
    · exact hs
  | pin | release =>
    exact ⟨rfl, reset_hands.2.1, fun x => congrArg Port.stallDue (s.pinValues_port x)⟩

/-- Settles O50: an arrival clears its own record, its notices and its due stalls, and no edit makes one of them. -/
theorem everyStepKeepsHandsLinesAndVerdicts : Obligations.EveryStepKeepsHandsLinesAndVerdicts := by
  refine ⟨fun s t hs h => ?_, fun s t distinct lines h => ?_, fun s t hs h => ?_⟩
  · refine step_keeps (P := State.NothingInHand) (fun _ _ => id) (fun _ _ => reset_hands) ?_ h hs
    intro c s t h other hs
    exact (exec_cases h other).elim (fun g => g.hands hs) fun g => g.hands hs
  · exact (kept_lines.step (fun _ _ => id) (fun _ _ => ⟨List.nodup_nil, reset_lines⟩) h ⟨distinct.1, lines⟩).2
  · exact kept_verdicts.step (fun _ _ => id) (fun _ _ => reset_verdicts) h hs

end Sys2Proof.Machine

/-! PROOF. Resets, the held part, and what a sample arrival does to the counters, the inputs and the trackers (O4, O5, O6, O9, O10,
O11). -/

namespace Sys2Proof.Machine

variable {s t : State}

/-! ### What no turn of an arrival changes -/

/-- The part of a state that an arrival settles before its turns. -/
structure Inputs where
  resetHeld : Bool
  sampleCounter : BitVec 32
  seconds : BitVec 32
  subSecond : Nat
  stamp : Timestamp
  handed : Handed
  senseAge : Vector Nat 24
  breakers : Vector Breaker 6
  trackers : Vector Tracker 3
  targetAddress : BitVec 7
  settings : Settings
  generation : BitVec 16

def Fixed.inputs (p : Fixed) : Inputs :=
  { resetHeld := p.resetHeld, sampleCounter := p.sampleCounter, seconds := p.seconds, subSecond := p.subSecond, stamp := p.stamp,
    handed := p.handed, senseAge := p.senseAge, breakers := p.breakers, trackers := p.trackers,
    targetAddress := p.targetAddress, settings := p.settings, generation := p.generation }

def State.inputs (s : State) : Inputs := s.fixed.inputs

theorem Edit.inputs (e : Edit s t) : t.inputs = s.inputs := by
  cases e with
  | act acts => exact congrArg Fixed.inputs acts.fixed
  | _ => rfl

theorem Edits.inputs {n : Nat} (h : Edits n s t) (none : n = 0) : t.inputs = s.inputs := by
  induction h with
  | refl => rfl
  | edit _ e ih => exact e.inputs.trans (ih none)
  | write => cases none

theorem Within.inputs (h : Within 0 s t) : t.inputs = s.inputs := by
  obtain ⟨_, hn, edits⟩ := h.edits
  exact edits.inputs (Nat.le_zero.mp hn)

/-! ### An arrival of the running part -/

/-- The counters, the timestamp and the front end of an arrival, ahead of the trackers. -/
def State.taken (s : State) (set : SampleSet) : State :=
  (s.setHandling (some Handling.begun)).advanceClock.stampArrival.takeSet set

theorem State.advanceClock_eq (s : State) : s.advanceClock =
    s.setClock (s.sampleCounter + 1) (if s.atSecondsEnd then s.seconds + 1 else s.seconds)
      (if s.atSecondsEnd then 0 else s.subSecond + 1) := by
  unfold State.advanceClock
  split <;> rfl

/-- The trackers' passes over an arrival. -/
theorem State.trackerPasses_tracker (s : State) (f : Feed) :
    (allFeeds.foldl State.trackerPass s).tracker f =
      (s.tracker f).pass (look s.settings.windowExp f) (look s.settings.divider f) s.sampleCounter s.stamp
        (look s.handed.volts f) (look s.handed.vClip f) := by
  simp only [allFeeds, List.foldl_cons, List.foldl_nil, State.trackerPass, State.setTracker_tracker]
  fin_cases f <;> rfl

/-- The state an arrival's timers see: the front end's, with the trackers' passes and the drivers' counts. -/
def State.counted (s : State) (set : SampleSet) : State :=
  allOutlets.foldl State.driverNotice (allFeeds.foldl State.trackerPass (s.taken set))

theorem State.takeArrival_eq (s : State) (set : SampleSet) : s.takeArrival set =
    (if (s.counted set).ticked then (s.counted set).secondsPass else s.counted set).sampleLines set.sclLow := rfl

theorem State.counted_inputs (s : State) (set : SampleSet) :
    (s.counted set).inputs = (allFeeds.foldl State.trackerPass (s.taken set)).inputs :=
  congrArg Fixed.inputs (Acts.foldl (fun u k => (Acts.refl u).driverNotice k) allOutlets (.refl _)).fixed

/-- The counts of an arrival other than the trackers' leave what the front end and the trackers have made. -/
theorem State.takeArrival_inputs (s : State) (set : SampleSet) :
    (s.takeArrival set).inputs = (allFeeds.foldl State.trackerPass (s.taken set)).inputs := by
  have timers (u : State) : (State.sampleLines (if u.ticked then u.secondsPass else u) set.sclLow).inputs = u.inputs := by
    split <;> rfl
  rw [State.takeArrival_eq, timers, State.counted_inputs]

/-- An arrival of the running part: what its counts and passes make stands until its end, where the notices are dropped. -/
theorem State.arrival_inputs {s : State} (runs : s.resetHeld = false) (set : SampleSet) (o : ArrivalOrder) :
    ∃ u : State, s.arrival set o = u.closeArrival ∧ u.inputs = (allFeeds.foldl State.trackerPass (s.taken set)).inputs := by
  refine ⟨(s.takeArrival set).takeTurns o, ?_, ?_⟩
  · rw [State.arrival, runs]; rfl
  · exact ((Within.refl _).takeTurns o).inputs.trans (s.takeArrival_inputs set)

theorem State.atSecondsEnd_iff (s : State) : s.atSecondsEnd = true ↔ 7680 ≤ s.subSecond + 1 := decide_eq_true_iff

/-- Settles O9: the clock of an arrival is the one that it takes at its start, in every order of its turns. -/
theorem arrivalAdvancesCounters : Obligations.ArrivalAdvancesCounters := by
  intro set o s low
  have counts (t : State) (sample : t.sampleCounter = s.sampleCounter + 1)
      (seconds : t.seconds = if s.atSecondsEnd then s.seconds + 1 else s.seconds)
      (sub : t.subSecond = if s.atSecondsEnd then 0 else s.subSecond + 1) :
      t.sampleCounter = s.sampleCounter + 1 ∧
        (s.subSecond + 1 = 7680 → t.subSecond = 0 ∧ t.seconds = s.seconds + 1) ∧
        (s.subSecond + 1 < 7680 → t.subSecond = s.subSecond + 1 ∧ t.seconds = s.seconds) := by
    refine ⟨sample, fun last => ?_, fun early => ?_⟩
    · have : s.atSecondsEnd = true := s.atSecondsEnd_iff.mpr last.ge
      rw [sub, seconds, if_pos this, if_pos this]; exact ⟨rfl, rfl⟩
    · have : ¬s.atSecondsEnd = true := fun h => absurd (s.atSecondsEnd_iff.mp h) (Nat.not_le.mpr early)
      rw [sub, seconds, if_neg this, if_neg this]; exact ⟨rfl, rfl⟩
  refine ⟨s.arrival set o, rfl, ?_⟩
  cases held : s.resetHeld with
  | true =>
    have clock : s.arrival set o = s.advanceClock := by rw [State.arrival, held]; rfl
    rw [clock, State.advanceClock_eq]
    obtain ⟨sample, last, early⟩ := counts (s.setClock _ _ _) rfl rfl rfl
    exact ⟨sample, last, early, rfl⟩
  | false =>
    obtain ⟨u, closed, inputs⟩ := State.arrival_inputs held set o
    have begun : s.taken set = (((s.setHandling (some Handling.begun)).setClock (s.sampleCounter + 1)
        (if s.atSecondsEnd then s.seconds + 1 else s.seconds)
        (if s.atSecondsEnd then 0 else s.subSecond + 1)).stampArrival.takeSet set) := by
      rw [State.taken, State.advanceClock_eq]; rfl
    rw [begun] at inputs
    have seconds : u.seconds = if s.atSecondsEnd then s.seconds + 1 else s.seconds := congrArg Inputs.seconds inputs
    have sub : u.subSecond = if s.atSecondsEnd then 0 else s.subSecond + 1 := congrArg Inputs.subSecond inputs
    obtain ⟨sample, last, early⟩ := counts u (congrArg Inputs.sampleCounter inputs) seconds sub
    rw [closed]
    refine ⟨sample, last, early, (congrArg Inputs.stamp inputs).trans ?_⟩
    show Timestamp.mk _ _ = Timestamp.mk u.seconds u.subSecond
    rw [seconds, sub]
    rfl

/-- Settles O11: each tracker's one pass, and nothing of it in the turns. -/
theorem arrivalRunsTrackers : Obligations.ArrivalRunsTrackers := by
  intro set o s runs
  obtain ⟨u, closed, inputs⟩ := State.arrival_inputs runs set o
  refine ⟨s.arrival set o, rfl, fun f => ?_⟩
  have tracker : u.tracker f = (allFeeds.foldl State.trackerPass (s.taken set)).tracker f :=
    congrArg (fun i : Inputs => look i.trackers f) inputs
  have handed : u.handed = (s.taken set).handed := congrArg Inputs.handed inputs
  have stamp : u.stamp = (s.taken set).stamp := congrArg Inputs.stamp inputs
  have counter : (s.taken set).sampleCounter = s.sampleCounter + 1 := by
    rw [State.taken, State.advanceClock_eq]; rfl
  have settings : (s.taken set).settings = s.settings := by rw [State.taken, State.advanceClock_eq]; rfl
  have before : (s.taken set).tracker f = s.tracker f := by rw [State.taken, State.advanceClock_eq]; rfl
  rw [closed, State.closeArrival_tracker, tracker, State.trackerPasses_tracker, counter, settings, before]
  show _ = { (s.tracker f).pass _ _ _ u.stamp (look u.handed.volts f) (look u.handed.vClip f) with notice := Notice.quiet }
  rw [stamp, handed]

/-! ### The front end -/

theorem corrected_eq (x o : Int) (g : Nat) :
    corrected x o g = max (-32767) (min 32767 (correctionQuotient x o g)) := by
  rw [corrected, saturate_eq_upper_first (by decide)]
  split_ifs <;> omega

theorem clipIndication_iff (x o : Int) (g : Nat) : clipIndication x o g = true ↔
    x = -32768 ∨ x = 32767 ∨ correctionQuotient x o g < -32767 ∨ 32767 < correctionQuotient x o g := by
  rw [clipIndication, corrected_eq]
  simp only [Bool.or_eq_true, beq_iff_eq, bne_iff_ne]
  omega

/-- Settles O10: the front end's part is made at the arrival's start, and no turn touches it. -/
theorem arrivalUpdatesInputs : Obligations.ArrivalUpdatesInputs := by
  intro set o s runs
  obtain ⟨u, closed, inputs⟩ := State.arrival_inputs runs set o
  have begun : s.taken set = (((s.setHandling (some Handling.begun)).setClock (s.sampleCounter + 1)
      (if s.atSecondsEnd then s.seconds + 1 else s.seconds)
      (if s.atSecondsEnd then 0 else s.subSecond + 1)).stampArrival.takeSet set) := by
    rw [State.taken, State.advanceClock_eq]; rfl
  rw [begun] at inputs
  have handed : u.handed = handedOf s.settings set := congrArg Inputs.handed inputs
  refine ⟨s.arrival set o, rfl, ?_⟩
  rw [closed]
  refine ⟨congrArg Inputs.settings inputs, congrArg Inputs.generation inputs, congrArg Inputs.targetAddress inputs,
    (congrArg Inputs.resetHeld inputs).trans runs, fun f => ?_, fun k => ?_, fun k => ?_, fun b => ?_⟩
  · show look u.handed.volts f = _ ∧ (look u.handed.vClip f = true ↔ _)
    rw [handed, handedOf, look_tab3, look_tab3]
    exact ⟨corrected_eq .., clipIndication_iff ..⟩
  · show look u.handed.amps k = _ ∧ (look u.handed.aClip k = true ↔ _)
    rw [handed, handedOf, look_tab24, look_tab24]
    exact ⟨corrected_eq .., clipIndication_iff ..⟩
  · have age : u.closeArrival.age k = nextAge (look set.sense k) (s.age k) :=
      (congrArg (fun i : Inputs => look i.senseAge k) inputs).trans (State.takeSet_age _ set k)
    rw [age]; rfl
  · have breaker : u.closeArrival.breaker b = (s.breaker b).next (look set.breaker b) :=
      (congrArg (fun i : Inputs => look i.breakers b) inputs).trans (State.takeSet_breaker _ set b)
    dsimp only
    rw [breaker]
    unfold Breaker.next
    refine ⟨fun level => by rw [level]; rfl, fun level => ?_, fun l level differs => ?_⟩
    · rw [level]; exact if_pos rfl
    · rw [level]
      have changed : ¬lineLevel (look set.breaker b) = l := fun e => differs e.symm
      refine ⟨fun short => ?_, fun long => ?_⟩
      · exact (if_neg changed).trans (if_neg (Nat.not_le.mpr short))
      · exact (if_neg changed).trans (if_pos long)

/-! ### Resets -/

theorem State.powerOn_tracker (s : State) (straps : BitVec 2) (f : Feed) : (s.powerOn straps).tracker f = Tracker.initial :=
  look_fill ..

theorem State.powerOn_driver (s : State) (straps : BitVec 2) (k : Outlet) : (s.powerOn straps).driver k = Driver.initial :=
  look_fill ..

theorem State.powerOn_contact (s : State) (straps : BitVec 2) (k : Outlet) : (s.powerOn straps).contact k = .unknown := by
  rw [State.contact, State.powerOn_driver]; rfl

/-- Settles O4: every record of the reset state is the same for every index, but for the map. -/
theorem powerOnResetGivesDefaults : Obligations.PowerOnResetGivesDefaults := by
  intro straps s
  have branch (k : Outlet) : (look Settings.default.outletBranch k).val = k.val / 4 := by revert k; decide
  have feed (b : Branch) : (look Settings.default.branchFeed b).val = b.val / 2 := by revert b; decide
  have outletMap (k : Outlet) : (s.powerOn straps).settings.read (.outletBranch k) = (k.val / 4 : Nat) :=
    congrArg Nat.cast (branch k)
  have branchMap (b : Branch) : (s.powerOn straps).settings.read (.branchFeed b) = (b.val / 2 : Nat) :=
    congrArg Nat.cast (feed b)
  have same {α : Type} {n : Nat} (v : α) (k : Fin n) : look (fill n v) k = v := look_fill v k
  refine ⟨s.powerOn straps, rfl, rfl, rfl, rfl, rfl, rfl, rfl, rfl, rfl, rfl, rfl, fun f => ?_, fun k => ?_, fun b => ?_, fun x => ?_,
    rfl, rfl⟩
  · rw [State.powerOn_tracker]
    exact ⟨rfl, rfl, rfl, rfl, rfl, rfl, rfl, rfl, rfl, rfl, rfl, rfl, rfl, same _ f, congrArg Nat.cast (same 5 f),
      congrArg Nat.cast (same 4 f), congrArg Nat.cast (same 16384 f), same _ f⟩
  · rw [State.powerOn_driver, State.powerOn_contact]
    exact ⟨same _ k, same _ k, same _ k, same _ k, rfl, rfl, rfl, rfl, rfl, same _ k, same _ k, same _ k, same _ k, outletMap k,
      congrArg Nat.cast (same 16384 k), same _ k, congrArg Nat.cast (same 40 k), congrArg Nat.cast (same 40 k),
      congrArg Nat.cast (same 80 k), congrArg Nat.cast (same 0 k), congrArg Nat.cast (same 6 k),
      congrArg (fun m => (ShedMode.code m : Int)) (same ShedMode.openSync k), congrArg Nat.cast (same 0 k),
      congrArg (fun m => (MonitorAction.code m : Int)) (same MonitorAction.report k), congrArg Nat.cast (same 3 k), congrArg Nat.cast (same 0 k),
      congrArg Nat.cast (same 36 k), congrArg Nat.cast (same 10 k)⟩
  · exact ⟨same _ b, same _ b, same _ b, branchMap b, congrArg Nat.cast (same 16000 b), congrArg Nat.cast (same 30 b),
      congrArg Nat.cast (same 30 b), congrArg (fun e => (flagBit 1 e : Int)) (same false b), congrArg Nat.cast (same 30 b),
      congrArg Nat.cast (same 3 b)⟩
  · cases x <;> exact ⟨rfl, rfl, rfl, rfl, rfl, rfl, rfl, rfl, rfl, rfl, rfl, rfl, rfl, rfl, rfl⟩

theorem State.pinValues_driver (s : State) (k : Outlet) : s.pinValues.driver k = (s.driver k).pinReset := look_tab24 ..

/-- A pin reset's values, whatever the level of RESET_N and the address are then. -/
theorem State.pinValues_values (s : State) (low : Bool) (a : BitVec 7) :
    PinValues s ((s.pinValues.setResetHeld low).setAddress a) := by
  have driver (k : Outlet) : ((s.pinValues.setResetHeld low).setAddress a).driver k = (s.driver k).pinReset :=
    s.pinValues_driver k
  have contact (k : Outlet) : ((s.pinValues.setResetHeld low).setAddress a).contact k = (s.driver k).pinReset.contact :=
    congrArg Driver.contact (s.pinValues_driver k)
  have tracker (f : Feed) : ((s.pinValues.setResetHeld low).setAddress a).tracker f = Tracker.initial := look_fill ..
  have port (x : Link) : ((s.pinValues.setResetHeld low).setAddress a).port x = Port.initial s.generation := s.pinValues_port x
  exact {
    clock := ⟨rfl, rfl, rfl, rfl⟩
    kept := ⟨rfl, rfl, rfl, rfl⟩
    inputs := fun k b => ⟨look_fill 192 k, look_fill _ b⟩
    clips := ⟨fun f => look_fill _ f, fun k => look_fill _ k⟩
    trackers := fun f => by rw [tracker]; exact ⟨rfl, rfl, rfl, rfl, rfl, rfl, rfl, rfl, rfl, rfl, rfl, rfl, rfl⟩
    meters := fun k => look_fill _ k
    queue := ⟨rfl, rfl, fun k => ⟨look_fill _ k, look_fill _ k⟩⟩
    sequencers := fun b => look_fill _ b
    slots := rfl
    faulted := fun k faulted => by
      rw [driver, contact]
      exact ⟨if_pos faulted, rfl, if_pos (.inl faulted)⟩
    idle := fun k idle => by
      rw [driver, contact]
      exact ⟨if_neg (by rw [idle]; decide), if_pos (.inr idle)⟩
    stepping := fun k notIdle notFaulted => by
      rw [driver, contact]
      exact ⟨if_neg notFaulted, if_neg fun e => e.elim notFaulted notIdle⟩
    coils := fun k => by rw [driver]; exact ⟨rfl, rfl⟩
    protection := fun b => look_fill _ b
    trips := fun k => look_fill _ k
    monitors := fun k => look_tab24 ..
    sweeps := fun x => by cases x <;> rfl
    banks := fun x => by cases x <;> rfl
    ports := fun x => by rw [port]; exact ⟨rfl, rfl, rfl, rfl, rfl, rfl, rfl, rfl, rfl, rfl, rfl⟩ }

/-- Settles O5. -/
theorem pinResetKeepsAndClears : Obligations.PinResetKeepsAndClears := by
  refine ⟨fun s => ⟨s.pinReset, rfl, s.pinValues_values true s.targetAddress, rfl, rfl⟩, fun straps s held => ?_,
    fun straps s high => ?_⟩
  · have released : s.pinRelease straps = (s.pinValues.setResetHeld false).setAddress (addressOf straps) := if_pos held
    exact ⟨_, congrArg Host.Outcome.next released, s.pinValues_values false _, rfl, rfl⟩
  · exact congrArg _ (if_neg (Bool.eq_false_iff.mp high))

/-! ### The part held in reset -/

theorem State.running_held {s : State} (held : s.resetHeld = true) (act : State → State) : s.running act = s := if_pos held

theorem State.request_held {s : State} (held : s.resetHeld = true) (x : Link) (code : Byte) (p : List Byte)
    (take : State → State × Answer) : s.request x code p take = s := if_pos held

/-- Settles O6: a happening runs and a request is taken with RESET_N high alone. -/
theorem heldPartTakesNothing : Obligations.HeldPartTakesNothing := by
  intro c s held
  cases hr : c.request with
  | some r =>
    obtain ⟨x, code, p⟩ := r
    have nothing : exec c s = .next s := by rw [exec_request hr, State.request_held held]
    cases c with
    | sampleArrival | secondTick | powerOnReset | pinReset | pinResetRelease => cases hr
    | _ => exact nothing
  | none =>
    have nothing (act : State → State) : Host.Outcome.next (s.running act) = (.next s : Host.Outcome State Fault Refusal) := by
      rw [State.running_held held]
    cases c with
    | sampleArrival set o =>
      have clock : s.arrival set o = s.advanceClock := if_pos held
      refine ⟨s.advanceClock, congrArg _ clock, ?_⟩
      rw [State.advanceClock_eq]; rfl
    | secondTick =>
      refine ⟨s.secondTick, rfl, ?_⟩
      unfold State.secondTick
      split
      · rw [State.running_held (s := s.advanceSecond) held]; rfl
      · rfl
    | powerOnReset | pinReset | pinResetRelease => trivial
    | status | outletRead | feedRead | branchRead | eventsRead | energyRead | settingRead | switch | cancel | hold | release
    | heartbeat | snapshot | shed | shedClear | faultClear | monitorReset | settingWrite | sweep | sweepAbort | linkReset => cases hr
    | _ => exact nothing _

end Sys2Proof.Machine

/-! PROOF. A tracker's pass (O12): the close's window, its feed state, its capture and its notice, each by its own lemma. -/

namespace Sys2Proof.Machine

variable {t : Tracker}

theorem holdUp_eq_min (limit n : Nat) : holdUp limit n = min limit (n + 1) := by
  unfold holdUp; split <;> omega

/-! ### The window -/

theorem Tracker.windowStage_skip (kind : CloseKind) (w : Nat) (skip : t.win.skip = true) :
    (t.windowStage kind w).win = { t.win with skip := false } ∧ (t.windowStage kind w).windowResult = t.windowResult := by
  simp only [Tracker.windowStage, Tracker.windowDirection, skip, if_true, and_self]

theorem Tracker.windowStage_add (kind : CloseKind) {w : Nat} (skip : t.win.skip = false) (room : t.win.count + 1 < 2 ^ w) :
    (t.windowStage kind w).windowResult = t.windowResult ∧ (t.windowStage kind w).win =
      { count := t.win.count + 1, sv := t.win.sv + t.cyc.sv, total := t.win.total + t.cyc.n,
        clip := t.win.clip || t.cyc.clip, synthetic := t.win.synthetic || kind == .synthetic, skip := false } := by
  have direction : t.windowDirection w = .add := by
    rw [Tracker.windowDirection, if_neg (by rw [skip]; decide), if_neg (Nat.not_le.mpr room)]
  simp only [Tracker.windowStage, direction, Tracker.addToWindow, skip, and_self]

theorem Tracker.windowStage_close (kind : CloseKind) {w : Nat} (skip : t.win.skip = false) (full : 2 ^ w ≤ t.win.count + 1) :
    (t.windowStage kind w).win = OpenWindow.empty ∧ (t.windowStage kind w).windowResult = some
      { vcV := vcvOf (t.win.sv + t.cyc.sv) (t.win.total + t.cyc.n), total := t.win.total + t.cyc.n, length := 2 ^ w,
        clip := t.win.clip || t.cyc.clip, synthetic := t.win.synthetic || kind == .synthetic } := by
  have direction : t.windowDirection w = .addAndClose := by
    rw [Tracker.windowDirection, if_neg (by rw [skip]; decide), if_pos full]
  simp only [Tracker.windowStage, direction, Tracker.addToWindow, Tracker.closeWindow, and_self]

/-- The window stage touches the window and its result alone. -/
theorem Tracker.windowStage_eq (t : Tracker) (kind : CloseKind) (w : Nat) : t.windowStage kind w =
    { t with win := (t.windowStage kind w).win, windowResult := (t.windowStage kind w).windowResult } := by
  unfold Tracker.windowStage
  split <;> rfl

/-! ### The feed state -/

theorem Tracker.closesInRange_crossing :
    t.closesInRange .crossing = true ↔ t.cyc.began = .crossing ∧ 118 ≤ t.cyc.n ∧ t.cyc.n ≤ 171 := by
  simp [Tracker.closesInRange, and_assoc]

theorem Tracker.closesOffRange_crossing :
    t.closesOffRange .crossing = true ↔ t.cyc.began = .crossing ∧ ¬(118 ≤ t.cyc.n ∧ t.cyc.n ≤ 171) := by
  simp only [Tracker.closesOffRange, Bool.and_eq_true, beq_iff_eq, Bool.not_eq_true', Bool.eq_false_iff, ne_eq,
    Tracker.closesInRange_crossing]
  tauto

/-- R22's table at an accepted crossing. -/
theorem Tracker.nextState_crossing :
    (t.state = .noLine ∨ t.state = .lost → t.nextState .crossing = (.acquiring, 0)) ∧
    (t.state = .acquiring → t.closesInRange .crossing = true → t.acquired + 1 < 4 →
      t.nextState .crossing = (.acquiring, t.acquired + 1)) ∧
    (t.state = .acquiring → t.closesInRange .crossing = true → 4 ≤ t.acquired + 1 → t.nextState .crossing = (.tracking, 0)) ∧
    (t.state = .acquiring → t.closesOffRange .crossing = true → t.nextState .crossing = (.acquiring, 0)) ∧
    (t.state = .tracking → t.closesInRange .crossing = true → t.nextState .crossing = (.tracking, t.acquired)) ∧
    (t.state = .tracking → t.closesOffRange .crossing = true → t.nextState .crossing = (.acquiring, 0)) := by
  have apart : t.closesInRange .crossing = true → ¬t.closesOffRange .crossing = true := fun h => by
    simp [Tracker.closesOffRange, h]
  have apart' : t.closesOffRange .crossing = true → ¬t.closesInRange .crossing = true := fun h h' => apart h' h
  refine ⟨fun state => ?_, fun state good short => ?_, fun state good long => ?_, fun state off => ?_, fun state good => ?_,
    fun state off => ?_⟩
  · rcases state with state | state <;> simp only [Tracker.nextState, state]
  · simp only [Tracker.nextState, state, if_pos good]
    exact if_neg (Nat.not_le.mpr short)
  · simp only [Tracker.nextState, state, if_pos good]
    exact if_pos long
  · simp only [Tracker.nextState, state, if_neg (apart' off), if_pos off]
  · simp only [Tracker.nextState, state, if_neg (apart good)]
  · simp only [Tracker.nextState, state, if_pos off]

/-- R22's table at a synthetic close. -/
theorem Tracker.nextState_synthetic :
    (t.state = .noLine ∨ t.state = .lost → t.nextState .synthetic = (t.state, t.acquired)) ∧
    (t.state = .acquiring → t.nextState .synthetic = (.lost, 0)) ∧
    (t.state = .tracking → t.nextState .synthetic = (.lost, t.acquired)) := by
  refine ⟨fun state => ?_, fun state => ?_, fun state => ?_⟩
  · rcases state with state | state <;> simp only [Tracker.nextState, state]
  · simp only [Tracker.nextState, state]
  · simp only [Tracker.nextState, state]

/-- A crossing loses no feed. -/
theorem Tracker.nextState_crossing_ne_lost : (t.nextState .crossing).1 ≠ .lost := by
  cases state : t.state with
  | noLine => rw [Tracker.nextState_crossing.1 (.inl state)]; exact nofun
  | lost => rw [Tracker.nextState_crossing.1 (.inr state)]; exact nofun
  | acquiring =>
    simp only [Tracker.nextState, state]
    split
    · split <;> exact nofun
    · split <;> exact nofun
  | tracking =>
    simp only [Tracker.nextState, state]
    split <;> exact nofun

/-! ### Frequency capture -/

theorem Tracker.capture_fresh (good : Bool) (c : Nat) (crossing : BitVec 40) (stamp : Timestamp)
    (first : t.anchor = none ∨ good = false) :
    t.capture good c crossing stamp = { t with anchor := some crossing, inRange := 0 } := by
  unfold Tracker.capture
  split
  · rfl
  · next a anchor =>
    have bad : ¬good = true := by
      rcases first with none | bad
      · rw [none] at anchor; cases anchor
      · rw [bad]; exact nofun
    rw [if_neg bad]

theorem Tracker.capture_counts_one {a : BitVec 40} (anchor : t.anchor = some a) {c : Nat} (short : t.inRange + 1 < c)
    (crossing : BitVec 40) (stamp : Timestamp) :
    t.capture true c crossing stamp = { t with inRange := t.inRange + 1 } := by
  simp only [Tracker.capture, anchor, if_true, if_neg (Nat.not_le.mpr short)]

theorem Tracker.capture_forms {a : BitVec 40} (anchor : t.anchor = some a) {c : Nat} (full : c ≤ t.inRange + 1)
    (crossing : BitVec 40) (stamp : Timestamp) :
    t.capture true c crossing stamp = { t with
      frequency := some { mHz := frequencyOf c (crossing - a), divider := c, stamp := stamp },
      anchor := some crossing, inRange := 0 } := by
  simp only [Tracker.capture, anchor, if_true, if_pos full, Tracker.formFrequency]

/-- The capture touches its own fields alone. -/
theorem Tracker.capture_eq (t : Tracker) (good : Bool) (c : Nat) (crossing : BitVec 40) (stamp : Timestamp) :
    t.capture good c crossing stamp = { t with
      anchor := (t.capture good c crossing stamp).anchor
      inRange := (t.capture good c crossing stamp).inRange
      frequency := (t.capture good c crossing stamp).frequency } := by
  unfold Tracker.capture
  split
  · rfl
  · split
    · split <;> rfl
    · rfl

/-! ### The close -/

/-- What a close hands on (R23, R24). -/
theorem Tracker.close_notice (t : Tracker) (kind : CloseKind) (w : Nat) :
    (t.close kind w).notice.close = some { kind := kind, n := t.cyc.n, window :=
        if t.win.skip = true then .leaveOut else if 2 ^ w ≤ t.win.count + 1 then .addAndClose else .add } ∧
      ((t.close kind w).state = t.state → (t.close kind w).notice.left = none) ∧
      ((t.close kind w).state ≠ t.state → (t.close kind w).notice.left = some t.state) ∧
      ((t.close kind w).notice.enteredTracking = true ↔ (t.close kind w).state = .tracking ∧ t.state ≠ .tracking) ∧
      ((t.close kind w).notice.leftTracking = true ↔ t.state = .tracking ∧ (t.close kind w).state ≠ .tracking) := by
  refine ⟨rfl, fun same => if_pos same, fun moved => if_neg moved, ?_, ?_⟩
  · show ((t.nextState kind).1 == .tracking && t.state != .tracking) = true ↔ _
    rw [Bool.and_eq_true, beq_iff_eq, bne_iff_ne]; rfl
  · show (t.state == .tracking && (t.nextState kind).1 != .tracking) = true ↔ _
    rw [Bool.and_eq_true, beq_iff_eq, bne_iff_ne]; rfl

/-! ### The pass -/

theorem Tracker.accepts_iff (t : Tracker) (v : Int) : t.accepts v = true ↔ t.armed = true ∧ 0 ≤ v ∧ 112 ≤ t.cyc.n := by
  simp only [Tracker.accepts, Tracker.findsCrossing, Bool.and_eq_true, decide_eq_true_eq, and_assoc]
  rfl

theorem Tracker.pass_crossing {v : Int} (accepted : t.accepts v = true) (w c : Nat) (sample : BitVec 32) (stamp : Timestamp)
    (clip : Bool) : t.pass w c sample stamp v clip =
      { t.closeCrossing w c v clip (crossingStamp sample t.prevV v) stamp with armed := t.detect v, prevV := v } := by
  rw [Tracker.pass, if_pos accepted]

theorem Tracker.pass_synthetic {v : Int} (rejected : ¬t.accepts v = true) (long : 192 ≤ t.cyc.n + 1) (w c : Nat)
    (sample : BitVec 32) (stamp : Timestamp) (clip : Bool) : t.pass w c sample stamp v clip =
      { (t.countSample v clip).closeSynthetic w with armed := t.detect v, prevV := v } := by
  have reached : Config.syntheticLength ≤ t.cyc.n + 1 := long
  rw [Tracker.pass, if_neg rejected, if_pos reached]

theorem Tracker.pass_open {v : Int} (rejected : ¬t.accepts v = true) (short : t.cyc.n + 1 < 192) (w c : Nat)
    (sample : BitVec 32) (stamp : Timestamp) (clip : Bool) : t.pass w c sample stamp v clip =
      { t.countSample v clip with armed := t.detect v, prevV := v } := by
  have below : ¬Config.syntheticLength ≤ t.cyc.n + 1 := Nat.not_le.mpr short
  rw [Tracker.pass, if_neg rejected, if_neg below]

/-- The window stage of a close, in the words of O12. -/
theorem Tracker.windowStage_cases (t : Tracker) (kind : CloseKind) (w : Nat) :
    (t.win.skip = true → (t.windowStage kind w).win = { t.win with skip := false } ∧
      (t.windowStage kind w).windowResult = t.windowResult) ∧
    (t.win.skip = false → t.win.count + 1 < 2 ^ w → (t.windowStage kind w).windowResult = t.windowResult ∧
      (t.windowStage kind w).win =
        { count := t.win.count + 1, sv := t.win.sv + t.cyc.sv, total := t.win.total + t.cyc.n,
          clip := t.win.clip || t.cyc.clip, synthetic := t.win.synthetic || kind == .synthetic, skip := false }) ∧
    (t.win.skip = false → 2 ^ w ≤ t.win.count + 1 →
      (t.windowStage kind w).win = OpenWindow.empty ∧ (t.windowStage kind w).windowResult = some
        { vcV := vcvOf (t.win.sv + t.cyc.sv) (t.win.total + t.cyc.n), total := t.win.total + t.cyc.n, length := 2 ^ w,
          clip := t.win.clip || t.cyc.clip, synthetic := t.win.synthetic || kind == .synthetic }) :=
  ⟨Tracker.windowStage_skip kind w, Tracker.windowStage_add kind, Tracker.windowStage_close kind⟩

/-- What a close by a crossing leaves: the close's own fields, and the capture's. -/
theorem Tracker.closeCrossing_eq (t : Tracker) (w c : Nat) (v : Int) (clip : Bool) (crossing : BitVec 40) (stamp : Timestamp) :
    t.closeCrossing w c v clip crossing stamp = { t.close .crossing w with
      cyc := { n := 1, sv := (v * v).toNat, clip := clip, began := .crossing }
      phase := 0
      tp := t.cyc.n
      lastCrossing := some crossing
      anchor := ((t.close .crossing w).capture (t.closesInRange .crossing) c crossing stamp).anchor
      inRange := ((t.close .crossing w).capture (t.closesInRange .crossing) c crossing stamp).inRange
      frequency := ((t.close .crossing w).capture (t.closesInRange .crossing) c crossing stamp).frequency } := by
  rw [Tracker.closeCrossing, Tracker.capture_eq]

/-- A crossing's close leaves the capture's fields to the capture. -/
theorem Tracker.close_crossing_capture (t : Tracker) (w : Nat) : (t.close .crossing w).anchor = t.anchor ∧
    (t.close .crossing w).inRange = t.inRange ∧ (t.close .crossing w).frequency = t.frequency := by
  refine ⟨?_, ?_, if_neg fun lost => Tracker.nextState_crossing_ne_lost lost.1⟩
  · show (t.windowStage .crossing w).anchor = _; rw [Tracker.windowStage_eq]
  · show (t.windowStage .crossing w).inRange = _; rw [Tracker.windowStage_eq]

/-- A synthetic close leaves the phase, Tp and the last crossing. -/
theorem Tracker.closeSynthetic_eq (t : Tracker) (w : Nat) : t.closeSynthetic w = { t with
    cyc := OpenCycle.empty .synthetic
    win := (t.windowStage .synthetic w).win
    windowResult := (t.windowStage .synthetic w).windowResult
    cycleResult := some (t.feedCycle .synthetic)
    state := (t.nextState .synthetic).1
    acquired := (t.nextState .synthetic).2
    frequency := if (t.nextState .synthetic).1 = .lost ∧ t.state ≠ .lost then none else t.frequency
    notice := (t.close .synthetic w).notice
    anchor := none
    inRange := 0 } := by
  rw [Tracker.closeSynthetic, Tracker.captureNone, Tracker.close, Tracker.windowStage_eq]

/-- Settles O12. -/
theorem trackerPassClosesCycles : Obligations.TrackerPassClosesCycles := by
  intro t w c n st v clip p crossed inRange offRange crossing windowed handsOn
  have detect : p.armed = t.detect v := rfl
  refine ⟨rfl, fun armed => ?_, fun armed => ?_, fun accepted => ?_, fun rejected long => ?_, fun rejected short => ?_⟩
  · rw [detect, Tracker.detect, if_pos armed]
  · rw [detect, Tracker.detect, if_neg (by rw [armed]; exact nofun)]
  · have hp : p = { t.closeCrossing w c v clip crossing st with armed := t.detect v, prevV := v } :=
      t.pass_crossing ((t.accepts_iff v).mpr accepted) w c n st clip
    rw [Tracker.closeCrossing_eq] at hp
    have state : p.state = (t.nextState .crossing).1 := (congrArg Tracker.state hp :)
    have acquired : p.acquired = (t.nextState .crossing).2 := (congrArg Tracker.acquired hp :)
    have both {r : FeedState × Nat} (h : t.nextState .crossing = r) : p.state = r.1 ∧ p.acquired = r.2 :=
      ⟨state.trans (congrArg Prod.fst h), acquired.trans (congrArg Prod.snd h)⟩
    have notice : p.notice = (t.close .crossing w).notice := (congrArg Tracker.notice hp :)
    have captured : p.anchor = ((t.close .crossing w).capture (t.closesInRange .crossing) c crossing st).anchor ∧
        p.inRange = ((t.close .crossing w).capture (t.closesInRange .crossing) c crossing st).inRange ∧
        p.frequency = ((t.close .crossing w).capture (t.closesInRange .crossing) c crossing st).frequency :=
      ⟨(congrArg Tracker.anchor hp :), (congrArg Tracker.inRange hp :), (congrArg Tracker.frequency hp :)⟩
    obtain ⟨anchor, inside, frequency⟩ := t.close_crossing_capture w
    have good : inRange → t.closesInRange .crossing = true := t.closesInRange_crossing.mpr
    have bad : ¬inRange → t.closesInRange .crossing = false := fun h =>
      Bool.eq_false_iff.mpr fun h' => h (t.closesInRange_crossing.mp h')
    have off : offRange → t.closesOffRange .crossing = true := t.closesOffRange_crossing.mpr
    obtain ⟨starts, rises, arrives, falls, stays, leaves⟩ := t.nextState_crossing
    have handed := t.close_notice .crossing w
    have window := t.windowStage_cases .crossing w
    have win : p.win = (t.windowStage .crossing w).win := (congrArg Tracker.win hp :)
    have windowResult : p.windowResult = (t.windowStage .crossing w).windowResult := (congrArg Tracker.windowResult hp :)
    rw [← notice, show (t.close .crossing w).state = p.state from state.symm] at handed
    rw [← win, ← windowResult] at window
    refine ⟨handed, (congrArg Tracker.cyc hp :), (congrArg Tracker.phase hp :), (congrArg Tracker.tp hp :), (congrArg Tracker.lastCrossing hp :),
      (congrArg Tracker.cycleResult hp :), fun h => both (starts h), fun h g s => both (rises h (good g) s),
      fun h g l => both (arrives h (good g) l), fun h o => both (falls h (off o)), fun h g => both (stays h (good g)),
      fun h o => both (leaves h (off o)), window, fun none => ?_, fun a some no => ?_, fun a some yes less => ?_,
      fun a some yes full => ?_⟩
    · rw [Tracker.capture_fresh _ _ _ _ (.inl (anchor.trans none))] at captured
      exact ⟨captured.1, captured.2.1, captured.2.2.trans frequency⟩
    · rw [Tracker.capture_fresh _ _ _ _ (.inr (bad no))] at captured
      exact ⟨captured.1, captured.2.1, captured.2.2.trans frequency⟩
    · rw [good yes, Tracker.capture_counts_one (anchor.trans some) (inside.symm ▸ less)] at captured
      exact ⟨captured.1.trans (anchor.trans some), captured.2.1.trans (congrArg (· + 1) inside), captured.2.2.trans frequency⟩
    · rw [good yes, Tracker.capture_forms (anchor.trans some) (inside.symm ▸ full)] at captured
      exact captured
  · have rejects : ¬t.accepts v = true := fun h => rejected ((t.accepts_iff v).mp h)
    have hp : p = { (t.countSample v clip).closeSynthetic w with armed := t.detect v, prevV := v } :=
      t.pass_synthetic rejects long w c n st clip
    rw [Tracker.closeSynthetic_eq] at hp
    have both {r : FeedState × Nat} (h : (t.countSample v clip).nextState .synthetic = r) : p.state = r.1 ∧ p.acquired = r.2 ∧
        p.frequency = if r.1 = .lost ∧ t.state ≠ .lost then none else t.frequency := by
      subst h
      exact ⟨(congrArg Tracker.state hp :), (congrArg Tracker.acquired hp :), (congrArg Tracker.frequency hp :)⟩
    obtain ⟨same, falls, leaves⟩ := (t.countSample v clip).nextState_synthetic
    have handed := (t.countSample v clip).close_notice .synthetic w
    have window := (t.countSample v clip).windowStage_cases .synthetic w
    have state : p.state = ((t.countSample v clip).close .synthetic w).state := (congrArg Tracker.state hp :)
    have notice : p.notice = ((t.countSample v clip).close .synthetic w).notice := (congrArg Tracker.notice hp :)
    have win : p.win = ((t.countSample v clip).windowStage .synthetic w).win := (congrArg Tracker.win hp :)
    have windowResult : p.windowResult = ((t.countSample v clip).windowStage .synthetic w).windowResult :=
      (congrArg Tracker.windowResult hp :)
    rw [← notice, ← state] at handed
    rw [← win, ← windowResult] at window
    refine ⟨handed, (congrArg Tracker.cyc hp :), (congrArg Tracker.phase hp :).trans (holdUp_eq_min ..), (congrArg Tracker.tp hp :),
      (congrArg Tracker.lastCrossing hp :), (congrArg Tracker.anchor hp :), (congrArg Tracker.inRange hp :), (congrArg Tracker.cycleResult hp :),
      fun h => ?_, fun h => ?_, fun h => ?_, window⟩
    · obtain ⟨state, acquired, frequency⟩ := both (same h)
      exact ⟨state, acquired, frequency.trans (if_neg fun lost => lost.2 lost.1)⟩
    · obtain ⟨state, acquired, frequency⟩ := both (falls h)
      exact ⟨state, acquired, frequency.trans (if_pos ⟨rfl, by rw [h]; exact nofun⟩)⟩
    · obtain ⟨state, acquired, frequency⟩ := both (leaves h)
      exact ⟨state, acquired, frequency.trans (if_pos ⟨rfl, by rw [h]; exact nofun⟩)⟩
  · have rejects : ¬t.accepts v = true := fun h => rejected ((t.accepts_iff v).mp h)
    have hp : p = { t.countSample v clip with armed := t.detect v, prevV := v } := t.pass_open rejects short w c n st clip
    rw [hp]
    exact ⟨rfl, rfl, holdUp_eq_min .., rfl, rfl, rfl, rfl, rfl, rfl, rfl, rfl, rfl, rfl⟩

end Sys2Proof.Machine

/-! PROOF. Frames and their check byte (O24). -/

namespace Sys2Proof.Machine

/-! ### The check byte -/

/-- The byte whose `crcBit` is `d`: bit 0 says whether the polynomial was taken away. -/
def crcUnbit (d : Byte) : Byte := if d.getLsbD 0 then ((d ^^^ 0x07) >>> 1) ||| 0x80 else d >>> 1

theorem crcUnbit_crcBit (c : Byte) : crcUnbit (crcBit c) = c := by
  have all : ∀ n : Fin 256, crcUnbit (crcBit (BitVec.ofFin n)) = BitVec.ofFin n := by decide +kernel
  exact all c.toFin

theorem crcBit_injective : Function.Injective crcBit := Function.LeftInverse.injective crcUnbit_crcBit

/-- Eight bits of the CRC. -/
theorem crcByte_eq_iff {c b c' b' : Byte} : crcByte c b = crcByte c' b' ↔ c ^^^ b = c' ^^^ b' := by
  simp only [crcByte, crcBit_injective.eq_iff]

theorem crcByte_left_inj {c c' b : Byte} : crcByte c b = crcByte c' b ↔ c = c' :=
  crcByte_eq_iff.trans (BitVec.xor_left_inj b)

theorem crcByte_right_inj {c b b' : Byte} : crcByte c b = crcByte c b' ↔ b = b' :=
  crcByte_eq_iff.trans (BitVec.xor_right_inj c)

theorem foldl_crcByte_inj {bytes : List Byte} {c c' : Byte} : bytes.foldl crcByte c = bytes.foldl crcByte c' ↔ c = c' := by
  induction bytes generalizing c c' with
  | nil => rfl
  | cons b bytes ih => rw [List.foldl_cons, List.foldl_cons, ih, crcByte_left_inj]

/-- One byte changed changes the CRC. -/
theorem foldl_crcByte_set_ne {bytes : List Byte} {i : Nat} {b : Byte} (inside : i < bytes.length) (changed : bytes[i]? ≠ some b)
    (c : Byte) : (bytes.set i b).foldl crcByte c ≠ bytes.foldl crcByte c := by
  induction bytes generalizing i c with
  | nil => cases inside
  | cons a bytes ih =>
    cases i with
    | zero =>
      rw [List.set_cons_zero, List.foldl_cons, List.foldl_cons, Ne, foldl_crcByte_inj, crcByte_right_inj]
      exact fun same => changed (congrArg some same.symm)
    | succ i => exact ih (Nat.lt_of_succ_lt_succ inside) changed _

theorem crc8_set_ne {bytes : List Byte} {i : Nat} {b : Byte} (inside : i < bytes.length) (changed : bytes[i]? ≠ some b) :
    crc8 (bytes.set i b) ≠ crc8 bytes := foldl_crcByte_set_ne inside changed 0

/-! ### Reading a frame -/

theorem byteOf_toNat {n : Nat} (small : n < 256) : (byteOf n).toNat = n := by
  rw [byteOf, BitVec.toNat_ofNat, Nat.mod_eq_of_lt small]

/-- A frame of the right length is read where its check byte is the CRC of the bytes before it. -/
theorem parseFrame_of_length {code len check : Byte} {q : List Byte} (length : q.length = len.toNat) :
    parseFrame (code :: len :: (q ++ [check])) = if crc8 (code :: len :: q) = check then some (code, q) else none := by
  have rest : (q ++ [check]).length = len.toNat + 1 := by rw [List.length_append, length]; rfl
  have body : (code :: len :: (q ++ [check])).take (len.toNat + 2) = code :: len :: q := by
    rw [List.take_succ_cons, List.take_succ_cons, ← length, List.take_left]
  have last : (q ++ [check]).getLastD 0 = check := List.getLastD_concat ..
  have payload : (q ++ [check]).take len.toNat = q := by rw [← length, List.take_left]
  simp only [parseFrame, rest, body, last, payload, true_and]

/-- Settles O24: a changed byte changes either the CRC or the check byte. -/
theorem frameDecodesAndChecks : Obligations.FrameDecodesAndChecks := by
  intro code p short
  have length : p.length = (byteOf p.length).toNat := (byteOf_toNat (by omega)).symm
  have frame : frameOf code p = code :: byteOf p.length :: (p ++ [crc8 (code :: byteOf p.length :: p)]) := rfl
  refine ⟨?_, fun i b inside notLength changed => ?_⟩
  · rw [frame, parseFrame_of_length length, if_pos rfl]
  · rw [frame] at changed ⊢
    match i, inside, notLength, changed with
    | 0, _, _, changed =>
      have differs : crc8 (b :: byteOf p.length :: p) ≠ crc8 (code :: byteOf p.length :: p) :=
        crc8_set_ne (bytes := code :: byteOf p.length :: p) (i := 0) (Nat.zero_lt_succ _) changed
      rw [List.set_cons_zero, parseFrame_of_length length, if_neg differs]
    | j + 2, inside, _, changed =>
      rw [List.set_cons_succ, List.set_cons_succ]
      simp only [List.getElem?_cons_succ] at changed
      by_cases within : j < p.length
      · rw [List.getElem?_append_left within] at changed
        have differs : crc8 (code :: byteOf p.length :: p.set j b) ≠ crc8 (code :: byteOf p.length :: p) :=
          crc8_set_ne (bytes := code :: byteOf p.length :: p) (i := j + 2) (Nat.succ_lt_succ (Nat.succ_lt_succ within)) changed
        rw [List.set_append_left _ _ within, parseFrame_of_length (by rw [List.length_set]; exact length), if_neg differs]
      · obtain rfl : j = p.length := by omega
        rw [List.getElem?_append_right le_rfl, Nat.sub_self] at changed
        rw [List.set_append_right _ _ le_rfl, Nat.sub_self, List.set_cons_zero, parseFrame_of_length length,
          if_neg fun same => changed (congrArg some same)]

end Sys2Proof.Machine

/-! PROOF. Transactions: reads, starts and bytes, bad frames and stalls, and the request rows against their bytes (O25 to O32). -/

namespace Sys2Proof.Machine

variable {s t : State} {x : Link}

/-! ### Ports -/

theorem Port.quiet_of_none {p : Port} (none : p.trans = .none) : p.quiet = { p with frame := [], overlong := false } := by
  rw [Port.quiet, none]

theorem State.endTransaction_none (none : (s.port x).trans = .none) : s.endTransaction x = s := by
  simp only [State.endTransaction, none]

theorem Port.refusesCommand_iff (p : Port) (code : Byte) :
    p.refusesCommand code = true ↔ p.latch = true ∨ (p.pendingMark = true ∧ code ≠ 0x1C) := by
  simp only [Port.refusesCommand, Bool.or_eq_true, Bool.and_eq_true, bne_iff_ne]

theorem State.running_high {act : State → State} (high : s.resetHeld = false) : s.running act = act s := by
  rw [State.running, high]; rfl

theorem State.request_high (high : s.resetHeld = false) (code : Byte) (p : List Byte) (take : State → State × Answer) :
    s.request x code p take = s.frameTransaction x code p fun t => t.answered x code take := by
  rw [State.request, high]; rfl

theorem State.frameTransaction_refused {code : Byte} (refuses : ((s.endTransaction x).port x).refusesCommand code = true)
    (p : List Byte) (done : State → State) : s.frameTransaction x code p done =
      (s.endTransaction x).setPort x { ((s.endTransaction x).port x).quiet with latch := true, acked := false } := by
  have quiet : ((s.endTransaction x).port x).quiet.refusesCommand code = true := refuses
  unfold State.frameTransaction
  exact if_pos quiet

theorem State.frameTransaction_taken {code : Byte} (takes : ((s.endTransaction x).port x).refusesCommand code = false)
    {p : List Byte} (short : p.length ≤ 32) (done : State → State) : s.frameTransaction x code p done =
      done ((s.endTransaction x).setPort x { ((s.endTransaction x).port x).quiet with acked := true }) := by
  have quiet : ¬((s.endTransaction x).port x).quiet.refusesCommand code = true := Bool.eq_false_iff.mp takes
  unfold State.frameTransaction
  exact (if_neg quiet).trans (if_neg (Nat.not_lt.mpr short))

/-- Settles O31: the row stops at the command byte. -/
theorem refusedCommandOnlySetsLatch : Obligations.RefusedCommandOnlySetsLatch := by
  intro c x code p s request high none refused
  have ended : s.endTransaction x = s := State.endTransaction_none none
  have refuses : ((s.endTransaction x).port x).refusesCommand code = true := by
    rw [ended]; exact (Port.refusesCommand_iff ..).mpr refused
  rw [exec_request request, State.request_high high, State.frameTransaction_refused refuses, ended, Port.quiet_of_none none]

/-! ### Reads and starts -/

theorem Response.read_length (r : Response) (count : Nat) : (r.read count).length = count := by
  rw [Response.read, List.length_append, List.length_take, List.length_replicate]; omega

theorem Response.read_getElem (r : Response) {count i : Nat} (h : i < count) :
    (r.read count)[i]? = some (r.bytes.getD i 0xFF) := by
  rw [Response.read, List.getD_eq_getElem?_getD]
  by_cases inside : i < r.bytes.length
  · rw [List.getElem?_append_left (by rw [List.length_take]; omega), List.getElem?_take_of_lt h,
      List.getElem?_eq_getElem inside, Option.getD_some]
  · rw [List.getElem?_append_right (by rw [List.length_take]; omega), List.length_take, List.getElem?_replicate,
      if_pos (by omega), List.getElem?_eq_none (Nat.le_of_not_lt inside), Option.getD_none]

/-- Settles O28. -/
theorem readAndStartTransactions : Obligations.ReadAndStartTransactions := by
  refine ⟨fun x count s high none => ?_, fun x a r s high none => ?_⟩
  · have read : s.readTransaction x count = s.setPort x { s.port x with
        frame := [], overlong := false, latch := false, acked := true, readOut := (s.port x).response.read count } := by
      rw [State.readTransaction, State.endTransaction_none none, Port.quiet_of_none none]
    have port : ((s.readTransaction x count).port x).readOut = (s.port x).response.read count := by
      rw [read, State.setPort_port_self]
    refine ⟨s.readTransaction x count, congrArg _ (State.running_high high), ?_, fun i inside => ?_, ?_⟩
    · rw [port]; exact Response.read_length ..
    · rw [port]; exact Response.read_getElem _ inside
    · rw [port]; exact read
  · have start : s.start x a r = s.setPort x (if a = s.targetAddress then
        { s.port x with trans := if r then .read else .write, frame := [], overlong := false, acked := true }
        else { s.port x with acked := false }) := by
      rw [State.start, State.endTransaction_none none]
      dsimp only
      split <;> rfl
    exact congrArg Host.Outcome.next ((State.running_high high).trans start)

/-! ### One byte -/

theorem State.receive_first (write : (s.port x).trans = .write) (empty : (s.port x).frame = []) (byte : Byte) :
    s.receive x byte = s.setPort x
      (if (s.port x).refusesCommand byte then (s.port x).refuseFrame else (s.port x).keep byte) := by
  simp only [State.receive, write, State.receiveWrite, empty]

theorem State.receive_length {code byte : Byte} (write : (s.port x).trans = .write) (one : (s.port x).frame = [code])
    (short : byte.toNat ≤ 32) : s.receive x byte = s.setPort x ((s.port x).keep byte) := by
  simp only [State.receive, write, State.receiveWrite, one, if_neg (Nat.not_lt.mpr short)]

theorem State.receive_long {code byte : Byte} (write : (s.port x).trans = .write) (one : (s.port x).frame = [code])
    (long : 32 < byte.toNat) : s.receive x byte = (s.setPort x (s.port x).refuseFrame).badFrame x code := by
  simp only [State.receive, write, State.receiveWrite, one, if_pos long]

theorem State.receive_body {code len : Byte} {rest : List Byte} (write : (s.port x).trans = .write)
    (body : (s.port x).frame = code :: len :: rest) (byte : Byte) : s.receive x byte = s.setPort x
      (if rest.length ≤ len.toNat then (s.port x).keep byte else { s.port x with overlong := true, acked := false }) := by
  have count : (s.port x).frame.length ≤ len.toNat + 2 ↔ rest.length ≤ len.toNat := by
    rw [body, List.length_cons, List.length_cons]; omega
  simp only [State.receive, write, State.receiveWrite, body]
  rw [← body]
  simp only [count]
  split <;> rfl

theorem State.receive_refusing (refusing : (s.port x).trans = .refusing) (byte : Byte) :
    s.receive x byte = s.setPort x { s.port x with acked := false } := by
  simp only [State.receive, refusing]

theorem State.receive_out (out : (s.port x).trans = .none ∨ (s.port x).trans = .read) (byte : Byte) : s.receive x byte = s := by
  rcases out with out | out <;> simp only [State.receive, out]

/-! ### A bad frame counted -/

theorem State.abortSweep_none (none : (s.sweepEngine x).context = none) : s.abortSweep x = s := by
  simp only [State.abortSweep, none]

theorem State.lapseHolds_offers (s : State) (x : Link) (c : LapseCause) (y : Link) :
    ∃ es, (s.lapseHolds x c).port y = (s.port y).offers es := by
  unfold State.lapseHolds
  split
  · exact ⟨[_], State.post_port ..⟩
  · exact ⟨[], rfl⟩

theorem State.lapseHolds_rest (s : State) (x : Link) (c : LapseCause) :
    { s.lapseHolds x c with holds := s.holds, ports := s.ports } = s := by
  unfold State.lapseHolds
  split <;> rfl

/-- `t` is `s` with link `x`'s port at `q` and one bad frame counted (R171): a link that reaches the limit is DEGRADED, its holds
gone; nothing else moves but the events told. -/
structure State.CountsBad (s : State) (x : Link) (q : Port) (t : State) : Prop where
  port : ∃ events overflow alert, t.port x = { q with
    badFrames := holdUp 255 q.badFrames
    presence := if q.presence = .present ∧ s.settings.badLimit.get x ≤ holdUp 255 q.badFrames then .degraded else q.presence
    events := events, overflow := overflow, alert := alert }
  rest : { t with holds := s.holds, ports := s.ports } = s
  below : ¬(q.presence = .present ∧ s.settings.badLimit.get x ≤ holdUp 255 q.badFrames) →
    t.holds = s.holds ∧ t.port x.other = s.port x.other
  degraded : q.presence = .present → s.settings.badLimit.get x ≤ holdUp 255 q.badFrames →
    ∀ k, t.hold k = if s.hold k = some x then none else s.hold k

/-- A count where no sweep is in progress. -/
theorem State.countBad_counts (none : (s.sweepEngine x).context = none) (q : Port) :
    s.CountsBad x q ((s.setPort x q).countBad x) := by
  let counted : Port := { q with badFrames := holdUp 255 q.badFrames }
  by_cases limit : q.presence = .present ∧ s.settings.badLimit.get x ≤ holdUp 255 q.badFrames
  · have present : ((s.setPort x counted).port x).presence = .present := by rw [State.setPort_port_self]; exact limit.1
    have eq : (s.setPort x q).countBad x = (s.setPort x counted).changePresence x .degraded := by
      unfold State.countBad
      rw [State.setPort_port_self, State.setPort_setPort]
      exact if_pos ⟨limit.1, by rw [State.setPort_port_self]; exact limit.2⟩
    let degraded := s.setPort x (counted.withPresence .degraded)
    have left : (s.setPort x counted).changePresence x .degraded =
        (degraded.lapseHolds x .degraded).postTo x.other (.peerLink x .degraded .present) EventOrigin.nobody := by
      unfold State.changePresence State.leavePresent
      dsimp only
      rw [present, State.setPort_port_self, State.setPort_setPort]
      have idle : ((degraded.lapseHolds x .degraded).sweepEngine x).context = Option.none := by
        rw [State.sweepEngine, (degraded.lapseHolds_links x .degraded).1]; exact none
      exact congrArg (fun u : State => u.postTo x.other (.peerLink x .degraded .present) EventOrigin.nobody)
        (State.abortSweep_none idle)
    rw [eq, left]
    obtain ⟨es, he⟩ := degraded.lapseHolds_offers x .degraded x
    obtain ⟨ev, ov, al, hp⟩ := (degraded.port x).offers_eq es
    refine ⟨⟨ev, ov, al, ?_⟩, ?_, fun no => absurd limit no, fun _ _ k => ?_⟩
    · rw [State.postTo, State.setPort_port, if_neg (Link.other_ne x).symm, he, hp, State.setPort_port_self, if_pos limit]
      rfl
    · exact congrArg (fun u : State => { u with ports := s.ports }) (degraded.lapseHolds_rest x .degraded)
    · exact degraded.lapseHolds_hold x .degraded k
  · have eq : (s.setPort x q).countBad x = s.setPort x counted := by
      unfold State.countBad
      rw [State.setPort_port_self, State.setPort_setPort]
      exact if_neg fun h => limit ⟨h.1, by have := h.2; rw [State.setPort_port_self] at this; exact this⟩
    rw [eq]
    refine ⟨⟨q.events, q.overflow, q.alert, ?_⟩, rfl, fun _ => ⟨rfl, State.setPort_port_other ..⟩,
      fun present reached => absurd ⟨present, reached⟩ limit⟩
    rw [State.setPort_port_self, if_neg limit]

theorem State.badFrame_counts (none : (s.sweepEngine x).context = none) (q : Port) (echo : Byte) :
    s.CountsBad x { q with response := { status := .badFrame, echo := echo, generation := s.generation, payload := [] } }
      ((s.setPort x q).badFrame x echo) := by
  have answered : (s.setPort x q).respond x .badFrame echo [] = s.setPort x
      { q with response := { status := .badFrame, echo := echo, generation := s.generation, payload := [] } } := by
    rw [State.respond, State.setPort_port_self, State.setPort_setPort]; rfl
  rw [State.badFrame, answered]
  exact State.countBad_counts none _

/-- Settles O29: one lemma for each kind of byte. -/
theorem frameByteIsKeptOrRefused : Obligations.FrameByteIsKeptOrRefused := by
  intro x byte s high
  have exec_eq : exec (.frameByte x byte) s = .next (s.receive x byte) := congrArg Host.Outcome.next (State.running_high high)
  rw [exec_eq]
  refine ⟨fun write empty => ?_, fun code write one short => ?_, fun code write one long none => ?_,
    fun code len rest write body => ?_, fun refusing => ?_, fun out => ?_⟩
  · rw [State.receive_first write empty]
    simp only [Port.refusesCommand_iff, Port.keep, Port.refuseFrame, empty, List.nil_append]
  · rw [State.receive_length write one short, Port.keep, one, List.singleton_append]
  · rw [State.receive_long write one long]
    obtain ⟨⟨ev, ov, al, port⟩, rest, -, -⟩ := State.badFrame_counts none (s.port x).refuseFrame code
    exact ⟨_, rfl, (congrArg Port.trans port :), (congrArg Port.frame port :), (congrArg Port.latch port :),
      (congrArg Port.acked port :), (congrArg Port.response port :),
      fun below => (congrArg Port.badFrames port).trans (holdUp_of_lt below), rest⟩
  · rw [State.receive_body write body, Port.keep, body]
    rfl
  · rw [State.receive_refusing refusing]
  · rw [State.receive_out out]

/-! ### Stalls and timeouts -/

theorem State.changePresence_rest (s : State) (x : Link) (p : Presence) :
    { s.changePresence x p with holds := s.holds, sweeps := s.sweeps, banks := s.banks, ports := s.ports } = s := by
  have lapsed (u : State) (c : LapseCause) : { u.lapseHolds x c with
      holds := s.holds, sweeps := s.sweeps, banks := s.banks, ports := s.ports } =
      { u with holds := s.holds, sweeps := s.sweeps, banks := s.banks, ports := s.ports } := by
    unfold State.lapseHolds
    split <;> rfl
  have aborted (u : State) : { u.abortSweep x with holds := s.holds, sweeps := s.sweeps, banks := s.banks, ports := s.ports } =
      { u with holds := s.holds, sweeps := s.sweeps, banks := s.banks, ports := s.ports } := by
    unfold State.abortSweep
    split <;> rfl
  have entered : { s.presenceEntered x p with holds := s.holds, sweeps := s.sweeps, banks := s.banks, ports := s.ports } = s := by
    unfold State.presenceEntered
    split
    · rw [State.leavePresent, aborted, lapsed]; rfl
    · rfl
  refine Eq.trans ?_ entered
  show { State.postTo (if p = .absent then (s.presenceEntered x p).dropBank x else s.presenceEntered x p) x.other _ _ with
    holds := s.holds, sweeps := s.sweeps, banks := s.banks, ports := s.ports } = _
  split <;> rfl

/-- What becomes of a link at its timeout (R171, R172). -/
theorem State.changePresence_absent (s : State) (x : Link) :
    ((s.changePresence x .absent).port x).presence = .absent ∧ ((s.changePresence x .absent).port x).silence = 0 ∧
      ((s.changePresence x .absent).bankPort x).bank = none ∧
      ((s.changePresence x .absent).bankPort x).counter = (s.bankPort x).counter ∧
      (s.changePresence x .absent).bankPort x.other = s.bankPort x.other ∧
      ((s.changePresence x .absent).port x.other).presence = (s.port x.other).presence ∧
      ((s.port x).presence = .present → ((s.changePresence x .absent).sweepEngine x).context = none ∧
        ∀ k, (s.changePresence x .absent).hold k = if s.hold k = some x then none else s.hold k) ∧
      ((s.port x).presence = .degraded → (s.changePresence x .absent).holds = s.holds ∧
        (s.changePresence x .absent).sweepEngine x = s.sweepEngine x) := by
  let told := EventBody.peerLink x .absent (s.port x).presence
  have eq : s.changePresence x .absent = ((s.presenceEntered x .absent).dropBank x).postTo x.other told EventOrigin.nobody := rfl
  obtain ⟨presence, silence⟩ := s.presenceEntered_port x .absent
  have port : (s.changePresence x .absent).port x = (s.presenceEntered x .absent).port x := by
    rw [eq, State.postTo, State.setPort_port, if_neg (Link.other_ne x).symm]; rfl
  have banks : (s.presenceEntered x .absent).banks = s.banks := by
    unfold State.presenceEntered
    split
    · rw [State.leavePresent, (State.abortSweep_links _ x).2, (State.lapseHolds_links _ x _).2]; rfl
    · rfl
  have bank (y : Link) : (s.changePresence x .absent).bankPort y =
      if y = x then { s.bankPort x with bank := none } else s.bankPort y := by
    have same (z : Link) : (s.presenceEntered x .absent).bankPort z = s.bankPort z := by rw [State.bankPort, banks]; rfl
    have dropped := (s.presenceEntered x .absent).dropBank_bankPort x y
    rw [same, same] at dropped
    exact dropped
  have other : ((s.changePresence x .absent).port x.other).presence = (s.port x.other).presence := by
    rw [eq, State.postTo, State.setPort_port_self, Port.offer_presence]
    show ((s.presenceEntered x .absent).port x.other).presence = _
    unfold State.presenceEntered
    split
    · rw [(State.leavePresent_apart _ x .absent).1, State.setPort_port_other]
    · rw [State.setPort_port_other]
  refine ⟨by rw [port, presence], by rw [port, silence]; rfl, by rw [bank, if_pos rfl], by rw [bank, if_pos rfl],
    by rw [bank, if_neg (Link.other_ne x)], other, fun present => ?_, fun degraded => ?_⟩
  · have entered : s.presenceEntered x .absent = (s.setPort x ((s.port x).withPresence .absent)).leavePresent x .absent :=
      if_pos present
    refine ⟨?_, fun k => ?_⟩
    · show ((s.presenceEntered x .absent).sweepEngine x).context = none
      rw [entered, State.leavePresent, State.abortSweep_context]
    · show (s.presenceEntered x .absent).hold k = _
      rw [entered, State.leavePresent, State.hold, (State.abortSweep_links _ x).1]
      exact State.lapseHolds_hold (s.setPort x ((s.port x).withPresence .absent)) x _ k
  · have entered : s.presenceEntered x .absent = s.setPort x ((s.port x).withPresence .absent) :=
      if_neg (by rw [degraded]; exact nofun)
    refine ⟨?_, ?_⟩
    · show (s.presenceEntered x .absent).holds = _; rw [entered]; rfl
    · show (s.presenceEntered x .absent).sweepEngine x = _; rw [entered]; rfl

theorem State.timeoutDue_iff : s.timeoutDue x = true ↔ (s.port x).presence ≠ .absent ∧ 0 < s.settings.linkTimeout.get x ∧
    s.settings.linkTimeout.get x ≤ (s.port x).silence := by
  simp only [State.timeoutDue, Bool.and_eq_true, bne_iff_ne, decide_eq_true_eq, and_assoc]

theorem State.running_id {act : State → State} (idle : act s = s) : s.running act = s := by
  unfold State.running
  split
  · rfl
  · exact idle

/-- Settles O30: a stall is a bad frame of the quiet port, and a timeout a change to ABSENT. -/
theorem stallAndTimeoutActOnTheLink : Obligations.StallAndTimeoutActOnTheLink := by
  refine ⟨fun x s high stalled busy none => ?_, fun x s idle => ?_, fun x s high here set late => ?_, fun x s early => ?_⟩
  · have eq : s.busStall x =
        (s.setPort x { (s.port x).quiet with stallDue := false, acked := false }).countBad x := if_pos ⟨stalled.ge, busy⟩
    obtain ⟨⟨ev, ov, al, port⟩, rest, -, -⟩ :=
      State.countBad_counts none { (s.port x).quiet with stallDue := false, acked := false }
    refine ⟨_, congrArg Host.Outcome.next ((State.running_high high).trans eq), ?_, ?_, ?_, ?_, ?_, fun below => ?_, rest⟩
    case refine_5 => rw [port]; exact stalled
    case refine_6 => rw [port]; exact holdUp_of_lt below
    all_goals rw [port]; rfl
  · have eq : s.busStall x = s := if_neg fun due => idle.elim (fun low => Nat.not_le.mpr low due.1) due.2
    exact congrArg Host.Outcome.next (State.running_id eq)
  · have eq : s.timeout x = s.changePresence x .absent := if_pos (State.timeoutDue_iff.mpr ⟨here, set, late⟩)
    obtain ⟨presence, silence, bank, counter, otherBank, other, present, degraded⟩ := s.changePresence_absent x
    exact ⟨_, congrArg Host.Outcome.next ((State.running_high high).trans eq), presence, silence, bank, counter, otherBank, other,
      present, degraded, s.changePresence_rest x .absent⟩
  · have eq : s.timeout x = s := by
      refine if_neg fun due => ?_
      obtain ⟨here, set, late⟩ := State.timeoutDue_iff.mp due
      rcases early with absent | off | short
      · exact here absent
      · exact absurd off (Nat.ne_of_gt set)
      · exact Nat.not_le.mpr short late
    exact congrArg Host.Outcome.next (State.running_id eq)

/-! ### Presence at a valid frame -/

/-- A valid frame of a PRESENT link clears the counts of R171. -/
theorem State.validFrame_of_present (present : (s.port x).presence = .present) :
    s.validFrame x = s.setPort x { s.port x with badFrames := 0, silence := 0 } := if_pos present

/-- A valid frame of another link makes it PRESENT, the other link being told. -/
theorem State.validFrame_of_out (out : (s.port x).presence ≠ .present) : s.validFrame x =
    (s.setPort x { s.port x with presence := .present, badFrames := 0, silence := 0 }).postTo x.other
      (.peerLink x .present (s.port x).presence) EventOrigin.nobody := by
  have stays : ¬((s.setPort x { s.port x with badFrames := 0, silence := 0 }).port x).presence = .present := by
    rw [State.setPort_port_self]; exact out
  unfold State.validFrame State.changePresence
  dsimp only
  rw [if_neg out, if_neg stays, State.setPort_port_self, State.setPort_setPort]
  rfl

theorem State.setPort_comm (s : State) (x : Link) (p q : Port) :
    (s.setPort x p).setPort x.other q = (s.setPort x.other q).setPort x p := by cases x <;> rfl

/-- A request from a link that can take it, whatever its presence. -/
theorem State.request_taken (high : s.resetHeld = false) (none : (s.port x).trans = .none) (latch : (s.port x).latch = false)
    (mark : (s.port x).pendingMark = false) (code : Byte) {p : List Byte} (short : p.length ≤ 32)
    (take : State → State × Answer) : s.request x code p take =
      (s.setPort x { s.port x with frame := [], overlong := false, acked := true }).answered x code take := by
  have ended : s.endTransaction x = s := State.endTransaction_none none
  have takes : ((s.endTransaction x).port x).refusesCommand code = false := by
    rw [ended, Port.refusesCommand, latch, mark]; rfl
  rw [State.request_high high, State.frameTransaction_taken takes short, ended, Port.quiet_of_none none]

/-- A valid frame of a link that is not PRESENT is one of the same link PRESENT, the other link having been told. -/
theorem State.validFrame_peer (out : (s.port x).presence ≠ .present) (e : Event)
    (told : e = { body := .peerLink x .present (s.port x).presence, source := EventOrigin.nobody, stamp := s.stamp }) (p : Port)
    (counts : p.presence = .present ∧ p.badFrames = 0 ∧ p.silence = 0) (same : { p with
      presence := (s.port x).presence, badFrames := (s.port x).badFrames, silence := (s.port x).silence } = s.port x) :
    (s.setPort x { s.port x with frame := [], overlong := false, acked := true }).validFrame x =
      (((s.setPort x p).setPort x.other ((s.port x.other).offer e)).setPort x
        { p with frame := [], overlong := false, acked := true }).validFrame x := by
  have out' : ((s.setPort x { s.port x with frame := [], overlong := false, acked := true }).port x).presence ≠ .present := by
    rw [State.setPort_port_self]; exact out
  have present' : ((((s.setPort x p).setPort x.other ((s.port x.other).offer e)).setPort x
      { p with frame := [], overlong := false, acked := true }).port x).presence = .present := by
    rw [State.setPort_port_self]; exact counts.1
  obtain ⟨present, bad, silence⟩ := counts
  rw [State.validFrame_of_out out', State.validFrame_of_present present']
  simp only [State.setPort_port_self, State.setPort_setPort]
  rw [State.setPort_comm s x p, State.setPort_setPort, State.postTo]
  simp only [State.setPort_port_other]
  rw [State.setPort_comm, told]
  have ports : { s.port x with frame := [], overlong := false, acked := true, presence := .present, badFrames := 0, silence := 0 } =
      { p with frame := [], overlong := false, acked := true, badFrames := 0, silence := 0 } := by
    rw [← same, ← present]
  rw [← ports]
  rfl

/-- Settles O32: the valid frame's effect on presence is the same before the request as at it. -/
theorem firstValidFrameMakesPresent : Obligations.FirstValidFrameMakesPresent := by
  intro c x code p s request short high none latch mark out
  let e : Event := { body := .peerLink x .present (s.port x).presence, source := EventOrigin.nobody, stamp := s.stamp }
  let q : Port := { s.port x with presence := .present, badFrames := 0, silence := 0 }
  have port : (((s.setPort x q).setPort x.other ((s.port x.other).offer e)).port x) = q := by
    rw [State.setPort_port, if_neg (Link.other_ne x).symm, State.setPort_port_self]
  refine ⟨_, rfl, ⟨high, by rw [port]; exact none, by rw [port]; exact latch, by rw [port]; exact mark, by rw [port]⟩, ?_⟩
  rw [exec_request request, exec_request request, State.request_taken high none latch mark code short,
    State.request_taken (s := (s.setPort x q).setPort x.other ((s.port x.other).offer e)) high (by rw [port]; exact none)
      (by rw [port]; exact latch) (by rw [port]; exact mark) code short, State.answered, State.answered, port,
    State.validFrame_peer out e rfl q ⟨rfl, rfl, rfl⟩ rfl]

/-! ### Commands and lengths that no request has -/

theorem mem_requestCodes {code : Byte} {n : Nat} (value : code.toNat = n) (mem : BitVec.ofNat 8 n ∈ requestCodes) :
    code ∈ requestCodes := by
  rw [← value, BitVec.ofNat_toNat, BitVec.setWidth_eq] at mem
  exact mem

theorem requestOf_unknown {code : Byte} (unknown : code ∉ requestCodes) (x : Link) (p : List Byte) (s : State) :
    requestOf x code p s = s.refuse .badCommand := by
  unfold requestOf
  split
  case h_22 => rfl
  all_goals exact absurd (mem_requestCodes ‹_› (by decide)) unknown

theorem length_mem {p q : List Byte} {l : List Nat} (same : p = q) (mem : q.length ∈ l) : p.length ∈ l := same ▸ mem

theorem requestOf_wrongLength {code : Byte} {p : List Byte} (known : code ∈ requestCodes)
    (wrong : p.length ∉ payloadLengths code) (x : Link) (s : State) : requestOf x code p s = s.refuse .badLength := by
  have none {q : List Byte} (takes : q.length ∈ payloadLengths code) (same : p = q) : False := wrong (length_mem same takes)
  simp only [requestCodes, List.mem_cons, List.not_mem_nil, or_false] at known
  rcases known with h | h | h | h | h | h | h | h | h | h | h | h | h | h | h | h | h | h | h | h | h <;> subst h
  · exact requestStatus.eq_2 x p s fun _ => none (List.mem_singleton_self 1)
  · exact requestOutletRead.eq_2 x p s fun _ _ => none (List.mem_singleton_self 2)
  · exact requestFeedRead.eq_2 x p s fun _ => none (List.mem_singleton_self 1)
  · exact requestBranchRead.eq_2 x p s fun _ => none (List.mem_singleton_self 1)
  · exact requestEventsRead.eq_2 x p s (none (List.mem_singleton_self 0))
  · exact requestEnergyRead.eq_2 x p s fun _ => none (List.mem_singleton_self 1)
  · exact requestSettingRead.eq_2 x p s fun _ _ => none (List.mem_singleton_self 2)
  · exact requestSwitch.eq_3 x p s (fun _ _ _ _ => none (List.mem_cons_self (a := 4)))
      fun _ _ _ _ _ => none (List.mem_cons_of_mem 4 (List.mem_singleton_self 5))
  · exact requestCancel.eq_2 x p s fun _ => none (List.mem_singleton_self 1)
  · exact requestHold.eq_2 x p s fun _ _ _ => none (List.mem_singleton_self 3)
  · exact requestRelease.eq_2 x p s fun _ _ _ => none (List.mem_singleton_self 3)
  · exact requestHeartbeat.eq_2 x p s fun _ _ _ => none (List.mem_singleton_self 3)
  · exact requestSnapshot.eq_2 x p s (none (List.mem_singleton_self 0))
  · exact requestShed.eq_2 x p s fun _ => none (List.mem_singleton_self 1)
  · exact requestShedClear.eq_2 x p s fun _ _ => none (List.mem_singleton_self 2)
  · exact requestFaultClear.eq_2 x p s fun _ => none (List.mem_singleton_self 1)
  · exact requestMonitorReset.eq_2 x p s fun _ => none (List.mem_singleton_self 1)
  · exact requestSettingWrite.eq_2 x p s fun _ _ _ _ _ _ => none (List.mem_singleton_self 6)
  · exact requestSweep.eq_2 x p s fun _ _ _ _ _ _ _ _ _ _ _ _ _ => none (List.mem_singleton_self 13)
  · exact requestSweepAbort.eq_2 x p s (none (List.mem_singleton_self 0))
  · exact requestLinkReset.eq_2 x p s (none (List.mem_singleton_self 0))

theorem State.Ready.takes (ready : s.Ready x) (code : Byte) : (s.port x).refusesCommand code = false := by
  rw [Port.refusesCommand, ready.latch, ready.pendingMark]; rfl

/-- Settles O26. -/
theorem badCommandAndLengthAreAnswered : Obligations.BadCommandAndLengthAreAnswered := by
  refine ⟨fun x code p s ready unknown short => ?_, fun c x code p s request ready short wrong => ?_⟩
  · have row : exec (.badCommand x code p) s = .next (s.request x code p (requestOf x code p)) := rfl
    rw [row, ready.request_alone short (requestOf_unknown unknown x p _)]
  · have known : code ∈ requestCodes := by
      cases c
      all_goals cases request
      all_goals decide
    rw [exec_request request, ready.request_alone short (requestOf_wrongLength known wrong x _)]

/-! ### A frame's bytes in a row -/

variable {q : Port} {code len : Byte}

/-- Bytes up to the CRC's place are kept. -/
theorem State.receive_kept (write : q.trans = .write) {bytes : List Byte} :
    ∀ {body : List Byte}, body.length + bytes.length ≤ len.toNat + 1 →
      bytes.foldl (fun t b => t.receive x b) (s.setPort x { q with frame := code :: len :: body, acked := true }) =
        s.setPort x { q with frame := code :: len :: (body ++ bytes), acked := true } := by
  induction bytes with
  | nil => intro body _; rw [List.append_nil]; rfl
  | cons b bytes ih =>
    intro body fits
    rw [List.length_cons] at fits
    have inside : body.length ≤ len.toNat := by omega
    have one : (s.setPort x { q with frame := code :: len :: body, acked := true }).receive x b =
        s.setPort x { q with frame := code :: len :: (body ++ [b]), acked := true } := by
      rw [State.receive_body (rest := body) (by rw [State.setPort_port_self]; exact write) (by rw [State.setPort_port_self]),
        State.setPort_port_self, State.setPort_setPort, if_pos inside]
      rfl
    rw [List.foldl_cons, one, ih (by rw [List.length_append, List.length_singleton]; omega), List.append_assoc,
      List.singleton_append]

/-- A byte after the CRC makes the frame over-long, and so it stays. -/
theorem State.receive_overlong (write : q.trans = .write) {body : List Byte} (frame : q.frame = code :: len :: body)
    (full : len.toNat < body.length) {bytes : List Byte} (more : bytes ≠ []) :
    ∃ acked, bytes.foldl (fun t b => t.receive x b) (s.setPort x q) =
      s.setPort x { q with overlong := true, acked := acked } := by
  have one (p : Port) (write : p.trans = .write) (frame : p.frame = code :: len :: body) (b : Byte) :
      (s.setPort x p).receive x b = s.setPort x { p with overlong := true, acked := false } := by
    rw [State.receive_body (rest := body) (by rw [State.setPort_port_self]; exact write)
      (by rw [State.setPort_port_self]; exact frame), State.setPort_port_self, State.setPort_setPort,
      if_neg (Nat.not_le.mpr full)]
  refine ⟨false, ?_⟩
  induction bytes using List.reverseRecOn with
  | nil => exact absurd rfl more
  | append_singleton bytes b ih =>
    rw [List.foldl_append, List.foldl_cons, List.foldl_nil]
    by_cases last : bytes = []
    · rw [last, List.foldl_nil, one q write frame]
    · rw [ih last, one]
      · exact write
      · exact frame

/-- Every byte of a frame refused is refused. -/
theorem State.receive_refused (refusing : (s.port x).trans = .refusing) (bytes : List Byte) :
    ∃ acked, bytes.foldl (fun t b => t.receive x b) s = s.setPort x { s.port x with acked := acked } := by
  induction bytes using List.reverseRecOn with
  | nil => exact ⟨_, (State.setPort_self s x).symm⟩
  | append_singleton bytes b ih =>
    obtain ⟨acked, eq⟩ := ih
    refine ⟨false, ?_⟩
    rw [List.foldl_append, List.foldl_cons, List.foldl_nil, eq, State.receive_refusing (by rw [State.setPort_port_self]; exact refusing),
      State.setPort_port_self, State.setPort_setPort]

/-! ### A bad frame as a whole -/

/-- The transaction fields of the link's port do not count. -/
theorem State.CountsBad.setPort {u : State} (h : s.CountsBad x q u) (frame : List Byte) (trans : Transaction) (overlong acked : Bool) :
    s.CountsBad x { q with trans := trans, frame := frame, overlong := overlong, acked := acked }
      (u.setPort x { u.port x with trans := trans, frame := frame, overlong := overlong, acked := acked }) := by
  obtain ⟨ev, ov, al, port⟩ := h.port
  refine ⟨⟨ev, ov, al, by rw [State.setPort_port_self, port]⟩, h.rest, fun below => ?_, h.degraded⟩
  rw [State.setPort_port_other]
  exact h.below below

theorem State.start_own (idle : (s.port x).trans = .none) : s.start x s.targetAddress false =
    s.setPort x { s.port x with trans := .write, frame := [], overlong := false, acked := true } := by
  rw [State.start, State.endTransaction_none idle]
  exact if_pos rfl

/-- What the bytes of a bad frame come to, the transaction ended: one bad frame answered and counted, the latch set by a length
byte above 32. -/
theorem State.writeBytes_bad (ready : s.Ready x) (none : (s.sweepEngine x).context = none) {first : Byte} {rest : List Byte}
    (bad : parseFrame (first :: rest) = Option.none) :
    ∃ q : Port, s.CountsBad x q (s.writeBytes x (first :: rest)) ∧ q.trans = .none ∧ q.presence = .present ∧
      q.badFrames = (s.port x).badFrames ∧ q.silence = (s.port x).silence ∧
      q.response = { status := .badFrame, echo := first, generation := s.generation, payload := [] } ∧
      q.latch = (rest.head?.map fun l => decide (32 < l.toNat)).getD false := by
  let open' : Port := { s.port x with trans := .write, frame := [], overlong := false, acked := true }
  have begun : s.start x s.targetAddress false = s.setPort x open' := State.start_own ready.quiet
  let one : Port := { open' with frame := [first], acked := true }
  have kept : (s.setPort x open').receive x first = s.setPort x one := by
    rw [State.receive_first (by rw [State.setPort_port_self]) (by rw [State.setPort_port_self]), State.setPort_port_self,
      State.setPort_setPort]
    exact congrArg (s.setPort x) (if_neg (c := open'.refusesCommand first = true) (Bool.eq_false_iff.mp (ready.takes first)))
  have ended (p : Port) (write : p.trans = .write) (frame : p.frame.headD 0 = first ∧ p.frame ≠ [])
      (wrong : p.overlong = true ∨ parseFrame p.frame = Option.none) :
      (s.setPort x p).endTransaction x = (s.setPort x p.quiet).badFrame x first := by
    have nonempty : p.frame.isEmpty = false := by rw [List.isEmpty_eq_false_iff]; exact frame.2
    rw [State.endTransaction]
    simp only [State.setPort_port_self, write, State.setPort_setPort, State.completeFrame, nonempty, Bool.false_eq_true, if_false]
    split
    · next closed parsed =>
        exact wrong.elim (fun w => absurd (w.symm.trans closed) nofun) fun w => absurd (w.symm.trans parsed) nofun
    · rw [frame.1]
  have answered (p : Port) (same : p.presence = .present ∧ p.badFrames = (s.port x).badFrames ∧ p.silence = (s.port x).silence ∧
      p.latch = false) : ∃ q : Port, s.CountsBad x q ((s.setPort x p.quiet).badFrame x first) ∧ q.trans = .none ∧
        q.presence = .present ∧ q.badFrames = (s.port x).badFrames ∧ q.silence = (s.port x).silence ∧
        q.response = { status := .badFrame, echo := first, generation := s.generation, payload := [] } ∧ q.latch = false :=
    ⟨_, State.badFrame_counts none p.quiet first, rfl, same.1, same.2.1, same.2.2.1, rfl, same.2.2.2⟩
  have writes : s.writeBytes x (first :: rest) =
      (rest.foldl (fun t b => t.receive x b) (s.setPort x one)).endTransaction x := by
    rw [State.writeBytes, begun, List.foldl_cons, kept]
  rw [writes]
  cases rest with
  | nil =>
    rw [List.foldl_nil, ended one rfl ⟨rfl, nofun⟩ (.inr bad)]
    exact answered one ⟨ready.present, rfl, rfl, ready.latch⟩
  | cons len body =>
    rw [List.foldl_cons]
    by_cases long : 32 < len.toNat
    · have refused : (s.setPort x one).receive x len = (s.setPort x one.refuseFrame).badFrame x first := by
        rw [State.receive_long (code := first) (by rw [State.setPort_port_self]) (by rw [State.setPort_port_self]) long,
          State.setPort_port_self, State.setPort_setPort]
      have counts := State.badFrame_counts none one.refuseFrame first
      obtain ⟨ev, ov, al, port⟩ := counts.port
      have refusing : (((s.setPort x one.refuseFrame).badFrame x first).port x).trans = .refusing := congrArg Port.trans port
      obtain ⟨acked, eq⟩ := State.receive_refused refusing body
      have quiet : (((s.setPort x one.refuseFrame).badFrame x first).setPort x
          { ((s.setPort x one.refuseFrame).badFrame x first).port x with acked := acked }).endTransaction x =
          ((s.setPort x one.refuseFrame).badFrame x first).setPort x
            { ((s.setPort x one.refuseFrame).badFrame x first).port x with
              trans := .none, frame := [], overlong := false, acked := acked } := by
        rw [State.endTransaction]
        simp only [State.setPort_port_self, refusing, State.setPort_setPort, Port.quiet]
      rw [refused, eq, quiet]
      exact ⟨_, counts.setPort [] .none false acked, rfl, ready.present, rfl, rfl, rfl, (decide_eq_true long).symm⟩
    · have short : (s.setPort x one).receive x len = s.setPort x { one with frame := [first, len], acked := true } := by
        rw [State.receive_length (code := first) (by rw [State.setPort_port_self]) (by rw [State.setPort_port_self])
          (Nat.le_of_not_lt long), State.setPort_port_self, State.setPort_setPort]
        rfl
      have latch : (((len :: body).head?.map fun l => decide (32 < l.toNat)).getD false) = false := decide_eq_false long
      rw [short, latch]
      by_cases fits : body.length ≤ len.toNat + 1
      · rw [State.receive_kept (q := one) (body := []) rfl (by rw [List.length_nil]; omega),
          ended { one with frame := first :: len :: ([] ++ body), acked := true } rfl ⟨rfl, nofun⟩ (.inr bad)]
        exact answered { one with frame := first :: len :: ([] ++ body), acked := true } ⟨ready.present, rfl, rfl, ready.latch⟩
      · let inside := body.take (len.toNat + 1)
        have count : inside.length = len.toNat + 1 := by rw [List.length_take]; omega
        have more : body.drop (len.toNat + 1) ≠ [] := by rw [ne_eq, List.drop_eq_nil_iff]; exact fits
        let full : Port := { one with frame := first :: len :: ([] ++ inside), acked := true }
        obtain ⟨acked, spills⟩ := State.receive_overlong (s := s) (x := x) (q := full) (code := first) (len := len) (body := inside)
          rfl rfl (by omega) more
        have all : body.foldl (fun t b => t.receive x b) (s.setPort x { one with frame := [first, len], acked := true }) =
            s.setPort x { full with overlong := true, acked := acked } := by
          rw [← spills, ← List.take_append_drop (len.toNat + 1) body, List.foldl_append,
            State.receive_kept (q := one) (body := []) rfl (by rw [List.length_nil, Nat.zero_add]; exact count.le),
            List.take_append_drop]
        rw [all, ended { full with overlong := true, acked := acked } rfl ⟨rfl, nofun⟩ (.inl rfl)]
        exact answered { full with overlong := true, acked := acked } ⟨ready.present, rfl, rfl, ready.latch⟩

/-- Settles O27. -/
theorem badFrameIsAnsweredAndCounted : Obligations.BadFrameIsAnsweredAndCounted := by
  intro x first rest s ready none bad
  obtain ⟨q, counts, trans, present, badFrames, silence, response, latch⟩ := State.writeBytes_bad ready none bad
  obtain ⟨ev, ov, al, port⟩ := counts.port
  have count : ((s.writeBytes x (first :: rest)).port x).badFrames = holdUp 255 q.badFrames := congrArg Port.badFrames port
  have presence : ((s.writeBytes x (first :: rest)).port x).presence =
      if q.presence = .present ∧ s.settings.badLimit.get x ≤ holdUp 255 q.badFrames then .degraded else q.presence :=
    congrArg Port.presence port
  refine ⟨_, congrArg Host.Outcome.next (State.running_high ready.running), (congrArg Port.response port).trans response, ?_,
    (congrArg Port.silence port).trans silence, (congrArg Port.trans port).trans trans, (congrArg Port.latch port).trans latch,
    counts.rest, fun below => ?_, fun reached => ?_⟩
  · rw [count, badFrames]; rfl
  · rw [count] at below
    have under : ¬(q.presence = .present ∧ s.settings.badLimit.get x ≤ holdUp 255 q.badFrames) :=
      fun h => Nat.not_le.mpr below h.2
    exact ⟨by rw [presence, if_neg under, present], counts.below under⟩
  · rw [count] at reached
    exact ⟨by rw [presence, if_pos ⟨present, reached⟩], counts.degraded present reached⟩

end Sys2Proof.Machine

/-! PROOF. The requests that read: STATUS, OUTLET_READ, FEED_READ, BRANCH_READ, ENERGY_READ, SETTING_READ and SNAPSHOT (O33, O35, O36, O45). -/

namespace Sys2Proof.Machine

variable {s t : State} {x : Link}

/-! ### A request that answers alone -/

/-- A request whose answer leaves the state `t` beside the taken frame. -/
theorem State.Ready.exec_apart (ready : s.Ready x) {c : Instr} {code : Byte} {p : List Byte} {st : Status} {payload : List Byte}
    (request : c.request = some (x, code, p)) (short : p.length ≤ 32)
    (taken : requestOf x code p (s.setPort x (s.port x).took) =
      (t.setPort x (t.port x).took, { status := st, payload := payload })) :
    exec c s = .next (t.answeredOnly x st code payload) := by
  rw [exec_request request, ready.request_eq short, taken, State.answered_alone]

/-- A request that leaves the state that has taken the frame changes nothing but its answer. -/
theorem State.Ready.exec_alone (ready : s.Ready x) {c : Instr} {code : Byte} {p : List Byte} {st : Status} {payload : List Byte}
    (request : c.request = some (x, code, p)) (short : p.length ≤ 32)
    (taken : requestOf x code p (s.setPort x (s.port x).took) =
      (s.setPort x (s.port x).took, { status := st, payload := payload })) :
    exec c s = .next (s.answeredOnly x st code payload) := by
  rw [exec_request request, ready.request_alone short taken]

theorem State.Ready.exec_refused (ready : s.Ready x) {c : Instr} {code : Byte} {p : List Byte} {st : Status}
    (request : c.request = some (x, code, p)) (short : p.length ≤ 32)
    (refused : requestOf x code p (s.setPort x (s.port x).took) = (s.setPort x (s.port x).took).refuse st) :
    exec c s = .next (s.answeredOnly x st code []) :=
  ready.exec_alone request short refused

/-! ### SETTING_READ -/

/-- Settles O36. -/
theorem settingReadReturnsStoredValue : Obligations.SettingReadReturnsStoredValue := by
  intro x id index s ready
  refine ⟨fun t named => ?_, fun unknown => ?_⟩
  · refine ready.exec_alone rfl (by simp) (?_ : requestSettingRead x [id, index] _ = _)
    simp only [requestSettingRead, named, settingPayload, State.setPort_settings]
  · refine ready.exec_refused rfl (by simp) (?_ : requestSettingRead x [id, index] _ = _)
    simp only [requestSettingRead, unknown]

/-! ### ENERGY_READ -/

theorem pageOutlets_eq : ∀ p : Branch, pageOutlets p =
    [⟨4 * p.val, by omega⟩, ⟨4 * p.val + 1, by omega⟩, ⟨4 * p.val + 2, by omega⟩, ⟨4 * p.val + 3, by omega⟩] := by decide

theorem pageOutlets_of {p : Branch} {k0 k1 k2 k3 : Outlet} (h0 : k0.val = 4 * p.val) (h1 : k1.val = 4 * p.val + 1)
    (h2 : k2.val = 4 * p.val + 2) (h3 : k3.val = 4 * p.val + 3) : pageOutlets p = [k0, k1, k2, k3] := by
  rw [pageOutlets_eq, List.cons.injEq, List.cons.injEq, List.cons.injEq, List.cons.injEq]
  exact ⟨Fin.ext h0.symm, Fin.ext h1.symm, Fin.ext h2.symm, Fin.ext h3.symm, rfl⟩

/-- Settles O35. -/
theorem energyReadReturnsPage : Obligations.EnergyReadReturnsPage := by
  intro x s ready
  refine ⟨fun n beyond => ?_, fun n page absent => ?_, fun n b k0 k1 k2 k3 bank h0 h1 h2 h3 => ?_⟩
  · refine ready.exec_refused rfl (by simp) (?_ : requestEnergyRead x [n] _ = _)
    simp only [requestEnergyRead, branchFrom_none beyond]
  · refine ready.exec_refused rfl (by simp) (?_ : requestEnergyRead x [n] _ = _)
    have p : branchFrom n = some ⟨n.toNat, by omega⟩ := branchFrom_of rfl
    have none : ((s.setPort x (s.port x).took).bankPort x).bank = Option.none := absent
    simp only [requestEnergyRead, p, none]
  · have page : n.toNat < 6 := by omega
    have p : branchFrom n = some ⟨n.toNat, page⟩ := branchFrom_of rfl
    have some : ((s.setPort x (s.port x).took).bankPort x).bank = some b := bank
    refine ⟨rfl, ready.exec_alone rfl (by simp) (?_ : requestEnergyRead x [n] _ = _)⟩
    simp only [requestEnergyRead, p, some, Bank.page, pageOutlets_of (p := ⟨n.toNat, page⟩) h0 h1 h2 h3, List.map_cons,
      List.map_nil, List.flatten_cons, List.flatten_nil, List.append_nil, Energy.bytes, mwhOf, List.append_assoc]
    rfl

/-! ### SNAPSHOT -/

/-- Settles O45. -/
theorem snapshotCopiesEveryRegister : Obligations.SnapshotCopiesEveryRegister := by
  intro x s ready
  let n := (s.bankPort x).counter + 1
  refine ⟨?_, fun p some short => ?_⟩
  · exact ready.exec_apart
      (t := s.setBank x { bank := .some { sequence := n, stamp := s.stamp, copies := s.energy }, counter := n })
      rfl (by simp) rfl
  · exact ready.exec_refused rfl short (requestSnapshot.eq_2 x p _ some)

/-! ### The reports -/

theorem State.statusPage0_took (s : State) (x : Link) : (s.setPort x (s.port x).took).statusPage0 x = s.statusPage0 x := by
  cases x <;> rfl

theorem not_page {n : Byte} (h : 1 < n.toNat) : n ≠ 0 ∧ n ≠ 1 := by
  refine ⟨?_, ?_⟩ <;> rintro rfl <;> exact absurd h (by decide)

theorem isSome_eq_bne (f : Option RelayFault) : f.isSome = (f != none) := by cases f <;> rfl

theorem State.paused_eq (s : State) (k : Outlet) :
    s.paused k = decide (¬(s.contact k = .closed ∧ s.entryOf k = none ∧ (s.driver k).fault = none)) := by
  rw [State.paused, Bool.eq_iff_iff, decide_eq_true_iff, Bool.not_eq_true', ← Bool.not_eq_true, Bool.and_eq_true,
    Bool.and_eq_true, beq_iff_eq, Option.isNone_iff_eq_none, Option.isNone_iff_eq_none, and_assoc]

theorem level_eq_opened (l : Option BreakerLevel) : (l == some .opened) = decide (l = some .opened) := by
  cases l with
  | none => rfl
  | some v => cases v <;> rfl

theorem State.tripByte_eq (s : State) : s.tripByte = fun k =>
    byteOf ((look s.settings.shedMode k).code * 64 + if 63 ≤ s.tripRun k then 63 else s.tripRun k) := by
  funext k
  rw [State.tripByte, Nat.min_comm, Nat.min_def]

theorem length_optionBytes {α : Type} {n : Nat} {f : α → List Byte} (each : ∀ a, (f a).length = n) (o : Option α) :
    (optionBytes n f o).length = n := by
  cases o with
  | none => exact List.length_replicate
  | some a => exact each a

theorem length_outletPart0 (s : State) (k : Outlet) : (s.outletPart0 k).length = 35 := by
  unfold State.outletPart0 State.monitorBytes
  cases s.entryOf k <;> cases (s.monitor k).spread <;> rfl

theorem length_outletPart1 (s : State) (k : Outlet) : (s.outletPart1 k).length = 45 := by
  unfold State.outletPart1
  cases (s.meter k).cycleResult <;> cases (s.meter k).windowResult <;> rfl

theorem length_feedReport (s : State) (f : Feed) : (s.feedReport f).length = 35 := by
  simp only [State.feedReport, List.length_append, length_optionBytes (n := 5) (f := fun c : BitVec 40 => bytes5 c.toNat) (fun _ => rfl),
    length_optionBytes (n := 4) (f := FeedCycle.bytes) (fun _ => rfl),
    length_optionBytes (n := 6) (f := FeedWindow.bytes) (fun _ => rfl),
    length_optionBytes (n := 11) (f := Frequency.bytes) (fun _ => rfl)]
  rfl

theorem length_branchReport (s : State) (b : Branch) :
    (s.branchReport b).length = 21 + (s.sequencer b).line.length + (s.outletsOf b).length := by
  simp only [State.branchReport, List.length_append, List.length_map]
  rfl

/-- Settles O33. -/
theorem readsReportAndChangeNothing : Obligations.ReadsReportAndChangeNothing := by
  intro x s ready
  dsimp only
  refine ⟨⟨s.statusPage0 x, ?_, ?_, ?_⟩, ?_, fun page beyond => ?_, fun n k hk => ⟨⟨s.outletPart0 k, ?_, ?_, ?_⟩,
    ⟨s.outletPart1 k, ?_, ?_, ?_⟩, fun part beyond => ?_⟩, fun n part beyond => ?_, fun n f hf => ⟨s.feedReport f, ?_, ?_, ?_⟩,
    fun n beyond => ?_, fun n b hb => ⟨s.branchReport b, ?_, ?_, ?_⟩, fun n beyond => ?_⟩
  · rfl
  · simp only [State.statusPage0, isSome_eq_bne]
    rfl
  · exact ready.exec_alone rfl (by simp) (by rw [← State.statusPage0_took]; rfl)
  · exact ready.exec_alone rfl (by simp) (by rw [List.flatMap_def]; rfl)
  · refine ready.exec_refused rfl (by simp) (?_ : requestStatus x [page] _ = _)
    simp only [requestStatus, not_page beyond, if_false]
  · exact length_outletPart0 s k
  · simp only [State.outletPart0, State.monitorBytes, State.paused_eq]
    generalize s.entryOf k = e
    generalize (s.monitor k).spread = spread
    cases e <;> cases spread <;> rfl
  · refine ready.exec_alone rfl (by simp) (?_ : requestOutletRead x [n, 0] _ = _)
    simp only [requestOutletRead, outletFrom_of hk, if_true]
    rfl
  · exact length_outletPart1 s k
  · simp only [State.outletPart1, meterPresence]
    generalize (s.meter k).cycleResult = cycle
    generalize (s.meter k).windowResult = window
    cases cycle <;> cases window <;> rfl
  · refine ready.exec_alone rfl (by simp) (?_ : requestOutletRead x [n, 1] _ = _)
    simp only [requestOutletRead, outletFrom_of hk]
    rfl
  · refine ready.exec_refused rfl (by simp) (?_ : requestOutletRead x [n, part] _ = _)
    simp only [requestOutletRead, outletFrom_of hk, not_page beyond, if_false]
  · refine ready.exec_refused rfl (by simp) (?_ : requestOutletRead x [n, part] _ = _)
    simp only [requestOutletRead, outletFrom_none beyond]
  · exact length_feedReport s f
  · simp only [State.feedReport, feedPresence]
    generalize (s.tracker f).lastCrossing = crossing
    generalize (s.tracker f).cycleResult = cycle
    generalize (s.tracker f).windowResult = window
    generalize (s.tracker f).frequency = frequency
    cases crossing <;> cases cycle <;> cases window <;> cases frequency <;> rfl
  · refine ready.exec_alone rfl (by simp) (?_ : requestFeedRead x [n] _ = _)
    simp only [requestFeedRead, feedFrom_of hf]
    rfl
  · refine ready.exec_refused rfl (by simp) (?_ : requestFeedRead x [n] _ = _)
    simp only [requestFeedRead, feedFrom_none beyond]
  · exact length_branchReport s b
  · simp only [State.branchReport, State.tripByte_eq, causeFlags, level_eq_opened]
    rfl
  · refine ready.exec_alone rfl (by simp) (?_ : requestBranchRead x [n] _ = _)
    simp only [requestBranchRead, branchFrom_of hb]
    rfl
  · refine ready.exec_refused rfl (by simp) (?_ : requestBranchRead x [n] _ = _)
    simp only [requestBranchRead, branchFrom_none beyond]

/-! ### EVENTS_READ -/

/-- What an EVENTS_READ carries is a first part of the queue that fits, and as long as the number and the room allow. -/
theorem takeFitting_spec : ∀ (count room : Nat) (es : List Event), ∃ left, es = takeFitting count room es ++ left ∧
    (takeFitting count room es).length ≤ count ∧ (((takeFitting count room es).map Event.bytes).flatten).length ≤ room ∧
    ((takeFitting count room es).length = count ∨ left = [] ∨ ∃ e, left.head? = some e ∧
      room < (((takeFitting count room es).map Event.bytes).flatten).length + e.bytes.length)
  | 0, _, es => ⟨es, rfl, le_rfl, Nat.zero_le _, .inl rfl⟩
  | _ + 1, _, [] => ⟨[], rfl, Nat.zero_le _, Nat.zero_le _, .inr (.inl rfl)⟩
  | count + 1, room, e :: es => by
    by_cases fits : e.bytes.length ≤ room
    · obtain ⟨left, split, number, bytes, stops⟩ := takeFitting_spec count (room - e.bytes.length) es
      have taken : takeFitting (count + 1) room (e :: es) = e :: takeFitting count (room - e.bytes.length) es := if_pos fits
      have length : (((e :: takeFitting count (room - e.bytes.length) es).map Event.bytes).flatten).length =
          e.bytes.length + ((((takeFitting count (room - e.bytes.length) es).map Event.bytes).flatten).length) := by
        rw [List.map_cons, List.flatten_cons, List.length_append]
      refine ⟨left, ?_, ?_, ?_, ?_⟩
      · rw [taken, List.cons_append, ← split]
      · rw [taken, List.length_cons]; omega
      · rw [taken, length]; omega
      · rw [taken, length, List.length_cons]
        refine stops.imp (congrArg (· + 1)) (.imp_right ?_)
        rintro ⟨next, head, stop⟩
        exact ⟨next, head, by omega⟩
    · have taken : takeFitting (count + 1) room (e :: es) = [] := if_neg fits
      rw [taken]
      exact ⟨e :: es, rfl, Nat.zero_le _, Nat.zero_le _, .inr (.inr ⟨e, rfl, by simpa using fits⟩)⟩

theorem EventBody.length_detail_le (b : EventBody) : b.detail.length ≤ 16 := by
  cases b
  case hangDetected _ _ _ _ _ spread => cases spread <;> exact Nat.le_of_ble_eq_true rfl
  case hangActive _ _ _ spread => cases spread <;> exact Nat.le_of_ble_eq_true rfl
  case hangGaveUp _ _ _ _ spread => cases spread <;> exact Nat.le_of_ble_eq_true rfl
  all_goals exact Nat.le_of_ble_eq_true rfl

theorem Event.length_bytes_le (e : Event) : e.bytes.length ≤ 61 := by
  have length : e.bytes.length = 11 + e.body.detail.length := by rw [Event.bytes, List.length_append]; rfl
  have detail := e.body.length_detail_le
  omega

theorem State.eventsTaken_took (s : State) (x : Link) : (s.setPort x (s.port x).took).eventsTaken x = s.eventsTaken x := by
  rw [State.eventsTaken, State.setPort_port_self]; rfl

/-- Settles O34. -/
theorem eventsReadDrainsOldestFirst : Obligations.EventsReadDrainsOldestFirst := by
  intro x s ready
  obtain ⟨left, split, number, bytes, stops⟩ := takeFitting_spec 4 61 (s.port x).events
  have rest : (s.port x).events.drop (s.eventsTaken x).length = left := by
    rw [split]
    exact List.drop_left
  refine ⟨s.eventsTaken x, left, split, number, bytes, fun some none => ?_, stops, ?_⟩
  · have all : (s.port x).events = left := by rw [split]; exact congrArg (· ++ left) none
    rcases stops with four | empty | ⟨e, head, stop⟩
    · exact absurd (four.symm.trans (congrArg List.length none)) (by decide)
    · exact some (all.trans empty)
    · have short := e.length_bytes_le
      have zero : (((takeFitting 4 61 (s.port x).events).map Event.bytes).flatten).length = 0 :=
        congrArg (fun l => ((List.map Event.bytes l).flatten).length) none
      omega
  · have left_eq : (s.setPort x (s.port x).took).eventsLeft x = left := by
      rw [State.eventsLeft, State.eventsTaken_took, State.setPort_port_self]; exact rest
    have payload : (s.setPort x (s.port x).took).eventsPayload x =
        [byteOf (s.eventsTaken x).length, byteOf left.length, byteOf (if (s.port x).overflow then 1 else 0)] ++
          ((s.eventsTaken x).map Event.bytes).flatten := by
      rw [State.eventsPayload, State.eventsTaken_took, left_eq, State.setPort_port_self]; rfl
    have row : exec (.eventsRead x []) s = .next (s.request x 0x05 [] (requestEventsRead x [])) := rfl
    rw [row, ready.request_eq (by simp)]
    simp only [requestEventsRead, payload, left_eq, State.respond, State.setPort_port_self, State.setPort_setPort]
    rfl

end Sys2Proof.Machine

/-! PROOF. HEARTBEAT and MONITOR_RESET, LINK_RESET, and the timers of SECOND_TICK (O44, O51, O52). -/

namespace Sys2Proof.Machine

variable {s t : State} {x : Link}

/-! ### Heartbeats -/

/-- A monitor that has had a heartbeat (R142). -/
def Monitor.beaten : Monitor :=
  { state := .watching, silence := 0, retries := 0, evidence := 0, spread := none, placementPending := false,
    activeMark := false, grace := 0 }

theorem Monitor.heartbeat_eq (m : Monitor) : m.heartbeat = Monitor.beaten := rfl

theorem State.heartbeatAt_monitor (s : State) (j k : Outlet) : (s.heartbeatAt j).monitor k =
    if k = j ∧ (s.monitor k).state ≠ .off then Monitor.beaten else s.monitor k := by
  unfold State.heartbeatAt
  by_cases same : k = j
  · subst same
    by_cases off : (s.monitor k).state = .off
    · rw [if_pos off, if_neg fun h => h.2 off]
    · rw [if_neg off, if_pos ⟨rfl, off⟩, State.setMonitor_monitor, if_pos rfl, Monitor.heartbeat_eq]
  · rw [if_neg (fun h : k = j ∧ _ => same h.1)]
    split
    · rfl
    · rw [State.setMonitor_monitor, if_neg same]

theorem State.heartbeatAt_rest (s : State) (k : Outlet) : { s.heartbeatAt k with monitors := s.monitors } = s := by
  unfold State.heartbeatAt
  split <;> rfl

/-- The heartbeats of the outlets of a list that a mask has. -/
def State.heartbeats (s : State) (mask : Vector Bool 24) (l : List Outlet) : State :=
  l.foldl (fun t k => if look mask k then t.heartbeatAt k else t) s

theorem State.heartbeats_rest (s : State) (mask : Vector Bool 24) (l : List Outlet) :
    { s.heartbeats mask l with monitors := s.monitors } = s := by
  induction l generalizing s with
  | nil => rfl
  | cons j l ih =>
    have one : { (if look mask j then s.heartbeatAt j else s) with monitors := s.monitors } = s := by
      split
      · exact s.heartbeatAt_rest j
      · rfl
    exact (congrArg (fun u : State => { u with monitors := s.monitors }) (ih _)).trans one

theorem State.heartbeats_monitor (s : State) (mask : Vector Bool 24) (l : List Outlet) (k : Outlet) :
    (s.heartbeats mask l).monitor k =
      if k ∈ l ∧ look mask k = true ∧ (s.monitor k).state ≠ .off then Monitor.beaten else s.monitor k := by
  induction l generalizing s with
  | nil => rw [if_neg fun h => absurd h.1 List.not_mem_nil]; rfl
  | cons j l ih =>
    have one : (if look mask j then s.heartbeatAt j else s).monitor k =
        if k = j ∧ look mask k = true ∧ (s.monitor k).state ≠ .off then Monitor.beaten else s.monitor k := by
      by_cases masked : look mask j = true
      · rw [if_pos masked, State.heartbeatAt_monitor]
        by_cases same : k = j
        · subst same; simp only [masked, true_and]
        · rw [if_neg fun h => same h.1, if_neg fun h => same h.1]
      · rw [if_neg masked]
        by_cases same : k = j
        · subst same; rw [if_neg fun h => masked h.2.1]
        · rw [if_neg fun h => same h.1]
    refine (ih _).trans ?_
    simp only [one, List.mem_cons]
    by_cases here : k = j
    · subst here
      simp only [true_and, true_or]
      split
      · next reached => split <;> rfl
      · next no => exact if_neg fun h => no h.2
    · simp only [here, false_and, false_or, if_false]

theorem State.look_watched (s : State) (mask : Vector Bool 24) (k : Outlet) :
    look (s.watched mask) k = (look mask k && decide ((s.monitor k).state ≠ .off)) := by
  rw [State.watched, look_tab24]
  cases (s.monitor k).state <;> rfl

theorem State.heldByOther_iff (s : State) (x : Link) (k : Outlet) : s.heldByOther x k = true ↔ s.hold k = some x.other :=
  beq_iff_eq

/-- Settles O44: the heartbeats are one fold over the outlets, and what it does at one outlet is said by `heartbeats_monitor`. -/
theorem heartbeatAndResetClearMonitors : Obligations.HeartbeatAndResetClearMonitors := by
  refine ⟨fun x a b c s ready => ?_, fun x n s ready => ⟨fun beyond => ?_, fun k hk => ⟨fun held => ?_, fun free off => ?_,
    fun free on => ?_⟩⟩⟩
  · let mask := maskFrom a b c
    let u := s.setPort x (s.port x).took
    let t : State := { s with monitors := (u.heartbeats mask allOutlets).monitors }
    refine ⟨t.answeredOnly x .ok 0x14 (maskBytes (s.watched mask)), s.watched mask, ?_, fun k => ?_, fun k => ?_, rfl⟩
    · refine ready.exec_apart (t := t) rfl (by simp) (?_ : requestHeartbeat x [a, b, c] u = _)
      have rest := u.heartbeats_rest mask allOutlets
      have same : u.heartbeats mask allOutlets = t.setPort x (t.port x).took :=
        congrArg (fun v : State => { v with monitors := (u.heartbeats mask allOutlets).monitors }) rest
      exact congrArg (fun v => (v, _)) same
    · rw [State.look_watched, look_maskFrom]
    · have beaten := u.heartbeats_monitor mask allOutlets k
      refine beaten.trans ?_
      rw [State.look_watched]
      simp only [mem_allOutlets, true_and, Bool.and_eq_true, decide_eq_true_eq]
      rfl
  · refine ready.exec_refused rfl (by simp) (?_ : requestMonitorReset x [n] _ = _)
    simp only [requestMonitorReset, outletFrom_none beyond]
  · refine ready.exec_refused rfl (by simp) (?_ : requestMonitorReset x [n] _ = _)
    simp only [requestMonitorReset, outletFrom_of hk, State.setPort_heldByOther, (s.heldByOther_iff x k).mpr held, if_true]
  · refine ready.exec_refused rfl (by simp) (?_ : requestMonitorReset x [n] _ = _)
    simp only [requestMonitorReset, outletFrom_of hk, State.setPort_heldByOther, mt (s.heldByOther_iff x k).mp free,
      Bool.false_eq_true, if_false, State.setPort_monitor, off, if_true]
  · refine ready.exec_apart (t := s.setMonitor k Monitor.reset) rfl (by simp) (?_ : requestMonitorReset x [n] _ = _)
    simp only [requestMonitorReset, outletFrom_of hk, State.setPort_heldByOther, mt (s.heldByOther_iff x k).mp free,
      Bool.false_eq_true, if_false, State.setPort_monitor, on]
    rfl

/-! ### SECOND_TICK -/

/-- Settles O52. -/
theorem secondTickMovesEveryTimer : Obligations.SecondTickMovesEveryTimer := by
  refine ⟨fun s high last => ?_, fun s early => ?_⟩
  · have due : s.atSecondsEnd = true := (s.atSecondsEnd_iff).mpr (by omega)
    have eq : s.secondTick = s.advanceSecond.secondsPass := (if_pos due).trans (State.running_high high)
    refine ⟨_, congrArg Host.Outcome.next eq, rfl, rfl, ?_, fun b => ?_, fun k => ?_, fun x => ?_, rfl⟩
    · refine List.map_congr_left fun e _ => ?_
      rw [Entry.offHoldFall]; split <;> rfl
    · rw [State.secondsPass_protection, Protection.timerFall]
      show (if (s.protection b).state = .restartWait then _ else s.protection b) = _
      split <;> rfl
    · rw [State.secondsPass_monitor, Monitor.graceFall]
      show (if (s.monitor k).state = .grace then _ else s.monitor k) = _
      split <;> rfl
    · rw [State.secondsPass_port, Port.silenceRise]
      show (if (s.port x).presence = .absent then s.port x else _) = _
      split <;> rfl
  · have idle : s.atSecondsEnd = false := Bool.eq_false_iff.mpr fun due => by have := (s.atSecondsEnd_iff).mp due; omega
    exact congrArg Host.Outcome.next (if_neg (Bool.eq_false_iff.mp idle))

/-! ### LINK_RESET -/

theorem State.anyOf_heldBy (s : State) (x : Link) : anyOf (s.heldBy x) = true ↔ ∃ k, s.hold k = some x := by
  simp only [anyOf, List.any_eq_true, mem_allOutlets, true_and, State.heldBy_look, decide_eq_true_eq]

theorem State.lapseHolds_port_eq (s : State) (x : Link) (c : LapseCause) (y : Link) : (s.lapseHolds x c).port y =
    if anyOf (s.heldBy x) then
      (s.port y).offer { body := .holdLapsed x (s.heldBy x) c, source := EventOrigin.nobody, stamp := s.stamp }
    else s.port y := by
  unfold State.lapseHolds
  split
  · exact State.post_port ..
  · rfl

/-- A queue emptied and offered an event holds it alone. -/
theorem Port.offer_emptied (p : Port) (e : Event) : ({ p.withEvents [] with overflow := false }).offer e =
    { p with events := [e], overflow := false, alert := true } := rfl

/-- What LINK_RESET leaves of its link's port. -/
theorem State.linkReset_port (s : State) (x : Link) : (s.linkReset x).port x = { s.port x with
    events := if anyOf (s.heldBy x) then
      [{ body := .holdLapsed x (s.heldBy x) .linkReset, source := EventOrigin.nobody, stamp := s.stamp }] else []
    overflow := false, alert := anyOf (s.heldBy x), latch := false } := by
  let s1 := s.setPort x { (s.port x).withEvents [] with overflow := false }
  have lapsed : (s1.lapseHolds x .linkReset).port x = _ := s1.lapseHolds_port_eq x .linkReset x
  have port : (s.linkReset x).port x = { (s1.lapseHolds x .linkReset).port x with latch := false } := State.setPort_port_self ..
  have same : s1.heldBy x = s.heldBy x := rfl
  rw [port, lapsed, same, State.setPort_port_self]
  by_cases some : anyOf (s.heldBy x) = true
  · simp only [some, if_true, Port.offer_emptied]
    rfl
  · simp only [Bool.not_eq_true _ ▸ some]
    rfl

theorem State.linkReset_port_other (s : State) (x : Link) : (s.linkReset x).port x.other =
    if anyOf (s.heldBy x) then (s.port x.other).offer
      { body := .holdLapsed x (s.heldBy x) .linkReset, source := EventOrigin.nobody, stamp := s.stamp }
    else s.port x.other := by
  let s1 := s.setPort x { (s.port x).withEvents [] with overflow := false }
  have lapsed := s1.lapseHolds_port_eq x .linkReset x.other
  rw [State.setPort_port_other] at lapsed
  exact (State.setPort_port_other ..).trans lapsed

theorem State.linkReset_hold (s : State) (x : Link) (k : Outlet) :
    (s.linkReset x).hold k = if s.hold k = some x then none else s.hold k := by
  simp only [State.linkReset, State.dropBank, State.setPort_hold, State.setBank_hold, State.setSweep_hold,
    State.lapseHolds_hold]
  rfl

theorem State.linkReset_rest (s : State) (x : Link) :
    { s.linkReset x with holds := s.holds, ports := s.ports, banks := s.banks, sweeps := s.sweeps } = s := by
  let s1 := s.setPort x { (s.port x).withEvents [] with overflow := false }
  exact congrArg (fun u : State => { u with ports := s.ports, banks := s.banks, sweeps := s.sweeps })
    (s1.lapseHolds_rest x .linkReset)

theorem State.linkReset_bankPort (s : State) (x y : Link) :
    (s.linkReset x).bankPort y = if y = x then { s.bankPort x with bank := none } else s.bankPort y := by
  let s1 := s.setPort x { (s.port x).withEvents [] with overflow := false }
  have banks : (s1.lapseHolds x .linkReset).banks = s.banks := (s1.lapseHolds_links x .linkReset).2
  have same (z : Link) : ((s1.lapseHolds x .linkReset).setSweep x
      { (s1.lapseHolds x .linkReset).sweepEngine x with last := none }).bankPort z = s.bankPort z :=
    congrArg (·.get z) banks
  have dropped := State.dropBank_bankPort ((s1.lapseHolds x .linkReset).setSweep x
      { (s1.lapseHolds x .linkReset).sweepEngine x with last := none }) x y
  rw [same, same] at dropped
  exact dropped

theorem State.linkReset_sweepEngine (s : State) (x y : Link) :
    (s.linkReset x).sweepEngine y = if y = x then { s.sweepEngine x with last := none } else s.sweepEngine y := by
  have same (v : State) : (v.lapseHolds x .linkReset).sweepEngine = v.sweepEngine :=
    funext fun z => congrArg (·.get z) (v.lapseHolds_links x .linkReset).1
  simp only [State.linkReset, State.dropBank, State.setPort_sweepEngine, State.setBank_sweepEngine,
    State.setSweep_sweepEngine, same]

/-- Settles O51. -/
theorem linkResetClearsOwnLink : Obligations.LinkResetClearsOwnLink := by
  intro x s ready
  let u := s.setPort x (s.port x).took
  let e : Event := { body := .holdLapsed x (s.heldBy x) .linkReset, source := EventOrigin.nobody, stamp := s.stamp }
  have row : exec (.linkReset x []) s = .next ((u.linkReset x).respond x .ok 0x1F (maskBytes (s.heldBy x))) :=
    congrArg Host.Outcome.next (ready.request_eq (p := []) (by simp) 0x1F (requestLinkReset x []))
  have held : anyOf (s.heldBy x) = true ↔ ∃ k, s.hold k = some x := s.anyOf_heldBy x
  have port : ((u.linkReset x).respond x .ok 0x1F (maskBytes (s.heldBy x))).port x = { (u.linkReset x).port x with
      response := { status := .ok, echo := 0x1F, generation := s.generation, payload := maskBytes (s.heldBy x) } } := by
    rw [State.respond, State.setPort_port_self, congrArg State.generation (u.linkReset_rest x)]
    rfl
  have own : (u.linkReset x).port x = { u.port x with
      events := if anyOf (s.heldBy x) then [e] else [], overflow := false, alert := anyOf (s.heldBy x), latch := false } :=
    u.linkReset_port x
  rw [State.setPort_port_self] at own
  have bank := u.linkReset_bankPort x
  have sweep := u.linkReset_sweepEngine x
  have other : ((u.linkReset x).respond x .ok 0x1F (maskBytes (s.heldBy x))).port x.other =
      if anyOf (s.heldBy x) then (s.port x.other).offer e else s.port x.other := by
    rw [State.respond, State.setPort_port_other, u.linkReset_port_other, State.setPort_port_other]
    rfl
  rw [own] at port
  refine ⟨_, s.heldBy x, e, row, s.heldBy_look x, rfl, u.linkReset_hold x, ?_, congrArg Port.overflow port, ?_,
    congrArg Port.latch port, (congrArg Port.presence port).trans ready.present, congrArg Port.response port, ?_,
    (bank x).trans (if_pos rfl), (bank x.other).trans (if_neg (Link.other_ne x)), ?_,
    (sweep x.other).trans (if_neg (Link.other_ne x)), ?_⟩
  · simp only [port, held]
  · rw [port]; exact held
  · simp only [other, held]
  · exact congrArg SweepEngine.last ((sweep x).trans (if_pos rfl))
  · exact congrArg (fun v : State => { v with ports := s.ports }) (u.linkReset_rest x)

end Sys2Proof.Machine

/-! PROOF. What the queue's operations leave alone, requests that act on the blocks, CANCEL, and the refusals of SWITCH (O39, O41). -/

namespace Sys2Proof.Machine

variable {s t u : State} {x : Link}

/-! ### What a test of a line's head leaves alone -/

/-- `t` is `s` but for the lines, the entries and the drivers. -/
def State.LineOnly (s t : State) : Prop :=
  { t with sequencers := s.sequencers, entries := s.entries, drivers := s.drivers } = s

theorem State.LineOnly.refl (s : State) : s.LineOnly s := rfl

theorem State.LineOnly.trans (h : s.LineOnly t) (g : t.LineOnly u) : s.LineOnly u := by
  unfold State.LineOnly at h g ⊢
  exact (congrArg (fun v : State => { v with sequencers := s.sequencers, entries := s.entries, drivers := s.drivers }) g).trans h

theorem State.LineOnly.ports (h : s.LineOnly t) : t.ports = s.ports := (congrArg State.ports h :)

theorem State.LineOnly.monitors (h : s.LineOnly t) : t.monitors = s.monitors := (congrArg State.monitors h :)

theorem State.LineOnly.tripped (h : s.LineOnly t) : t.tripped = s.tripped := (congrArg State.tripped h :)

theorem State.LineOnly.tripRuns (h : s.LineOnly t) : t.tripRuns = s.tripRuns := (congrArg State.tripRuns h :)

theorem State.LineOnly.protections (h : s.LineOnly t) : t.protections = s.protections := (congrArg State.protections h :)

theorem State.LineOnly.meters (h : s.LineOnly t) : t.meters = s.meters := (congrArg State.meters h :)

theorem State.LineOnly.slots (h : s.LineOnly t) : t.slots = s.slots := (congrArg State.slots h :)

theorem State.LineOnly.nextId (h : s.LineOnly t) : t.nextId = s.nextId := (congrArg State.nextId h :)

theorem State.LineOnly.handling (h : s.LineOnly t) : t.handling = s.handling := (congrArg State.handling h :)

theorem State.LineOnly.settings (h : s.LineOnly t) : t.settings = s.settings := (congrArg State.settings h :)

theorem State.LineOnly.testHead (h : s.LineOnly t) (b : Branch) : s.LineOnly (t.testHead b) := by
  refine h.trans ?_
  unfold State.LineOnly State.testHead
  split
  · rfl
  · split
    · rfl
    · split <;> rfl

theorem State.LineOnly.setSequencer (h : s.LineOnly t) (b : Branch) (q : Sequencer) : s.LineOnly (t.setSequencer b q) :=
  h.trans rfl

theorem State.LineOnly.modEntry (h : s.LineOnly t) (id : Byte) (f : Entry → Entry) : s.LineOnly (t.modEntry id f) :=
  h.trans rfl

theorem State.LineOnly.setDriver (h : s.LineOnly t) (k : Outlet) (d : Driver) : s.LineOnly (t.setDriver k d) :=
  h.trans rfl

theorem State.LineOnly.ite {p : Prop} [Decidable p] (h : s.LineOnly t) (g : s.LineOnly u) : s.LineOnly (if p then t else u) := by
  split
  · exact h
  · exact g

theorem State.LineOnly.joinLine (h : s.LineOnly t) (e : Entry) : s.LineOnly (t.joinLine e) :=
  .ite (((h.modEntry ..).setSequencer ..).testHead _) ((h.modEntry ..).setSequencer ..)

theorem State.LineOnly.sequencerCompletion (h : s.LineOnly t) (b : Branch) (id : Byte) :
    s.LineOnly (t.sequencerCompletion b id) :=
  .ite ((h.setSequencer ..).testHead _) (.ite (.ite ((h.setSequencer ..).testHead _) (h.setSequencer ..)) h)

theorem State.complete_line (s : State) (e : Entry) (r : ActionResult) (d : ResultDetail) :
    (s.ended e r d).LineOnly (s.complete e r d) := by
  rw [State.complete_eq]
  exact (State.LineOnly.refl _).sequencerCompletion ..

/-! ### Requests that act on the blocks -/

theorem Port.offer_response (p : Port) (e : Event) (r : Response) :
    ({ p with response := r }).offer e = { p.offer e with response := r } := by
  unfold Port.offer
  split <;> rfl

theorem Port.offers_response (p : Port) (es : List Event) (r : Response) :
    ({ p with response := r }).offers es = { p.offers es with response := r } := by
  induction es generalizing p with
  | nil => rfl
  | cons e es ih => rw [Port.offers_cons, Port.offers_cons, Port.offer_response, ih]

theorem Acts.generation (h : Acts s t) : t.generation = s.generation := congrArg Fixed.generation h.fixed

/-- What a request's answer adds to the acts of the blocks. -/
theorem Acts.respond {t : State} (h : Acts (s.setPort x (s.port x).took) t) (st : Status) (code : Byte) (payload : List Byte) :
    (s.answeredOnly x st code payload).ActsOnly (t.respond x st code payload) := by
  obtain ⟨held, clock, inputs, measured, holds, links, settings, pending⟩ := h.sameOutside
  refine ⟨⟨held, clock, inputs, measured, holds, links, settings, pending⟩, fun y => ?_⟩
  obtain ⟨es, offered⟩ := h.ports y
  refine ⟨es, ?_⟩
  have same : t.generation = s.generation := h.generation
  rw [State.respond, State.answeredOnly, State.setPort_port, State.setPort_port, Port.after]
  by_cases own : y = x
  · subst own
    rw [State.setPort_port_self] at offered
    rw [if_pos rfl, if_pos rfl, offered, same]
    exact (Port.offers_response ..).symm
  · rw [State.setPort_port, if_neg own] at offered
    rw [if_neg own, if_neg own]
    exact offered

/-- A request from a ready link whose effect is `t`. -/
theorem State.Ready.exec_took (ready : s.Ready x) {c : Instr} {code : Byte} {p : List Byte} {st : Status} {payload : List Byte}
    (request : c.request = some (x, code, p)) (short : p.length ≤ 32)
    (taken : requestOf x code p (s.setPort x (s.port x).took) = (t, { status := st, payload := payload })) :
    exec c s = .next (t.respond x st code payload) := by
  rw [exec_request request, ready.request_eq short, taken]

/-! ### CANCEL -/

theorem State.complete_outlets_erase {e : Entry} {k : Outlet} (entry : s.entryOf k = some e) (distinct : s.EntriesDistinct)
    (r : ActionResult) (d : ResultDetail) :
    (s.complete e r d).entries.map (·.outlet) = (s.entries.map (·.outlet)).erase k := by
  rw [State.complete_outlets, List.Nodup.erase_eq_filter distinct.2, List.filter_map]
  refine congrArg _ (List.filter_congr fun e' live => ?_)
  have outlet := State.outlet_of_entryOf entry
  rw [Bool.eq_iff_iff, bne_iff_ne, Function.comp_apply, bne_iff_ne]
  exact not_congr ⟨fun id => (distinct.eq_of_id live (State.mem_of_entryOf entry) id) ▸ outlet,
    fun same => (distinct.eq_of_outlet live (State.mem_of_entryOf entry) (same.trans outlet.symm)) ▸ rfl⟩

/-- An answer and an event that a request posts are apart. -/
theorem State.told_answered (s : State) (x : Link) (body : EventBody) (source : EventOrigin) (st : Status) (code : Byte)
    (payload : List Byte) : ((s.setPort x (s.port x).took).told body source).respond x st code payload =
      (s.answeredOnly x st code payload).told body source := by
  have offered (p : Port) (e : Event) := p.offer_response e { status := st, echo := code, generation := s.generation, payload := payload }
  cases x
  · exact congrArg (fun p => { s with ports := ⟨p, (s.port .b).offer ⟨body, source, s.stamp⟩⟩ }) (offered (s.port .a).took _).symm
  · exact congrArg (fun p => { s with ports := ⟨(s.port .a).offer ⟨body, source, s.stamp⟩, p⟩ }) (offered (s.port .b).took _).symm

/-- What the completion of an outlet's entry at a link's request comes to. -/
theorem State.ended_answered (s : State) (x : Link) (e : Entry) (r : ActionResult) (d : ResultDetail) (st : Status) (code : Byte)
    (payload : List Byte) : ((s.setPort x (s.port x).took).ended e r d).respond x st code payload =
      (s.answeredOnly x st code payload).ended e r d := by
  have told := s.told_answered x (.actionEnded e.outlet e.id e.kind r d)
    { origin := some e.origin, sweep := e.sweep, tag := e.tag } st code payload
  exact congrArg (fun v : State => { v with
    entries := s.entries.filter fun e' => e'.id != e.id
    monitors := put s.monitors e.outlet
      ((s.monitor e.outlet).afterEnd e.kind e.origin r (look s.settings.bootGrace e.outlet)) }) told

theorem State.LineOnly.respond (h : s.LineOnly t) (x : Link) (st : Status) (code : Byte) (payload : List Byte) :
    (s.respond x st code payload).LineOnly (t.respond x st code payload) :=
  congrArg (fun v : State => v.respond x st code payload) h

/-- A CANCEL that ends the entry, or a SWITCH that does: the entry leaves the queue with its result. -/
theorem State.Ready.cancel_ends (ready : s.Ready x) {e : Entry} {k : Outlet} (entry : s.entryOf k = some e)
    (distinct : s.EntriesDistinct) (r : ActionResult) {n : Byte}
    (taken : requestCancel x [n] (s.setPort x (s.port x).took) =
      ((s.setPort x (s.port x).took).complete e r .none, { status := .ok, payload := [e.id] })) :
    ∃ u, exec (.cancel x [n]) s = .next u ∧ u.entryOf k = none ∧
      u.entries.map (·.outlet) = (s.entries.map (·.outlet)).erase k ∧
      (s.answeredOnly x .ok 0x11 [e.id]).ActsOnly u ∧
      (∃ after, after = (s.answeredOnly x .ok 0x11 [e.id]).ended e r .none ∧ u.ports = after.ports ∧ u.monitors = after.monitors) ∧
      u.tripped = s.tripped ∧ u.tripRuns = s.tripRuns ∧ u.protections = s.protections ∧ u.meters = s.meters ∧ u.slots = s.slots := by
  let u := s.setPort x (s.port x).took
  have acts : Acts u (u.complete e r .none) := (Acts.refl u).complete e r .none
  have line : ((s.answeredOnly x .ok 0x11 [e.id]).ended e r .none).LineOnly
      ((u.complete e r .none).respond x .ok 0x11 [e.id]) := by
    rw [← State.ended_answered]
    exact (u.complete_line e r .none).respond x .ok 0x11 [e.id]
  refine ⟨(u.complete e r .none).respond x .ok 0x11 [e.id], ready.exec_took rfl (by simp) taken,
    State.complete_entryOf (t := u) entry distinct r .none, State.complete_outlets_erase (s := u) entry distinct r .none,
    acts.respond .ok 0x11 [e.id], ⟨_, rfl, line.ports, line.monitors⟩, ?_⟩
  exact ⟨line.tripped, line.tripRuns, line.protections, line.meters, line.slots⟩

/-- Settles O41. -/
theorem cancelEndsOrRefuses : Obligations.CancelEndsOrRefuses := by
  intro x n s ready
  refine ⟨fun beyond => ?_, fun k hk => ?_⟩
  · refine ready.exec_refused rfl (by simp) (?_ : requestCancel x [n] _ = _)
    simp only [requestCancel, outletFrom_none beyond]
  have judged : requestCancel x [n] (s.setPort x (s.port x).took) =
      if s.heldByOther x k then (s.setPort x (s.port x).took).refuse .held
      else match s.entryOf k with
        | none => (s.setPort x (s.port x).took).refuse .already
        | some e => (s.setPort x (s.port x).took).cancelEntry e := by
    simp only [requestCancel, outletFrom_of hk]
    rfl
  refine ⟨fun held => ?_, fun free none => ?_, fun e free entry => ⟨fun ends distinct => ?_, fun begun stays => ?_⟩⟩
  · refine ready.exec_refused rfl (by simp) (Eq.trans judged ?_)
    rw [if_pos ((s.heldByOther_iff x k).mpr held)]
  · refine ready.exec_refused rfl (by simp) (Eq.trans judged ?_)
    rw [if_neg (mt (s.heldByOther_iff x k).mp free), none]
  · rw [if_neg (mt (s.heldByOther_iff x k).mp free), entry] at judged
    by_cases begun : e.begun = false
    · rw [if_pos begun]
      exact ready.cancel_ends entry distinct .cancelled (judged.trans (if_pos begun))
    · rw [if_neg begun]
      have cut := ends.resolve_left begun
      exact ready.cancel_ends entry distinct .cut (judged.trans ((if_neg begun).trans (if_pos cut)))
  · rw [if_neg (mt (s.heldByOther_iff x k).mp free), entry] at judged
    have notFresh : ¬e.begun = false := by rw [begun]; decide
    exact ready.exec_alone rfl (by simp) (judged.trans ((if_neg notFresh).trans (if_neg stays)))

/-! ### The victims -/

theorem State.protection_of_eq (h : t.protections = s.protections) (b : Branch) : t.protection b = s.protection b := by
  rw [State.protection, h]; rfl

/-- A branch's protection in NORMAL, its set emptied and its marks cleared (R134, R136). -/
def Protection.normal (p : Protection) : Protection :=
  { p with state := .normal, victims := Vector.replicate 24 false, manualMark := false, exhaustedMark := false }

theorem State.enterNormal_line (s : State) (b : Branch) (o : RestoreOrigin) :
    ((s.setProtection b (s.protection b).normal).post (.branchNormal b o) EventOrigin.nobody).LineOnly (s.enterNormal b o) :=
  (State.LineOnly.refl _).testHead b

theorem State.enterNormal_protection (s : State) (b : Branch) (o : RestoreOrigin) (j : Branch) :
    (s.enterNormal b o).protection j = if j = b then (s.protection b).normal else s.protection j :=
  (State.protection_of_eq (s.enterNormal_line b o).protections j).trans (State.setProtection_protection ..)

theorem State.settleRestoring_protection (s : State) (b j : Branch) : (s.settleRestoring b).protection j =
    if j = b ∧ (s.protection b).state = .restoring ∧ (s.protection b).noVictims = true then (s.protection b).normal
    else s.protection j := by
  unfold State.settleRestoring
  by_cases settles : (s.protection b).state = .restoring ∧ (s.protection b).noVictims = true
  · rw [if_pos settles, State.enterNormal_protection]
    simp only [settles, and_true, and_self]
  · rw [if_neg settles, if_neg fun h => settles h.2]

theorem Protection.noVictims_iff (p : Protection) : p.noVictims = true ↔ ∀ j, look p.victims j = false := by
  simp only [Protection.noVictims, List.all_eq_true, mem_allOutlets, true_imp_iff, Bool.not_eq_true']

theorem State.dropVictim_protection (s : State) (b : Branch) (k : Outlet) (j : Branch) : (s.dropVictim b k).protection j =
    if j = b then { s.protection b with victims := put (s.protection b).victims k false } else s.protection j :=
  State.setProtection_protection ..

/-- A withdrawal from the victims is what `VictimLeaves` says. -/
theorem State.withdrawVictim_leaves (s : State) (k : Outlet) : s.VictimLeaves k (s.withdrawVictim (s.branchOf k) k) := by
  let b := s.branchOf k
  by_cases leaves : (s.protection b).state ≠ .normal ∧ look (s.protection b).victims k = true
  · have eq : s.withdrawVictim b k = (s.dropVictim b k).settleRestoring b := if_pos leaves
    have dropped := s.dropVictim_protection b k
    have own : (s.dropVictim b k).protection b = { s.protection b with victims := put (s.protection b).victims k false } :=
      (dropped b).trans (if_pos rfl)
    have empty : ((s.dropVictim b k).protection b).noVictims = true ↔
        ∀ j, j ≠ k → look (s.protection b).victims j = false := by
      rw [Protection.noVictims_iff, own]
      refine ⟨fun none j ne => ?_, fun others j => ?_⟩
      · have := none j
        rwa [look_put, if_neg ne] at this
      · rw [look_put]
        split
        · rfl
        · next ne => exact others j ne
    have settled := (s.dropVictim b k).settleRestoring_protection b
    rw [own] at settled empty
    refine ⟨fun j ne => ?_, fun stays => ?_, fun restoring _ last => ?_, fun _ _ remain => ?_⟩
    · rw [eq, settled, if_neg fun h => ne h.1, dropped, if_neg ne]
    · exact absurd leaves fun h => stays.elim h.1 fun no => absurd (no.symm.trans h.2) (by decide)
    · rw [eq, settled, if_pos ⟨rfl, restoring, empty.mpr last⟩]
      rfl
    · rw [eq, settled, if_neg, own]
      rintro ⟨-, restoring, none⟩
      rcases remain with other | ⟨j, ne, victim⟩
      · exact other restoring
      · exact absurd ((empty.mp none j ne).symm.trans victim) (by decide)
  · have eq : s.withdrawVictim b k = s := if_neg leaves
    have stays : ∀ j, (s.withdrawVictim b k).protection j = s.protection j := fun j => congrArg (·.protection j) eq
    exact ⟨fun j _ => stays j, fun _ => stays b,
      fun restoring victim _ => absurd ⟨by rw [restoring]; decide, victim⟩ leaves, fun state victim _ => absurd ⟨state, victim⟩ leaves⟩

theorem State.VictimLeaves.of_same {k : Outlet} (h : u.VictimLeaves k t) {t' : State} (before : u.protections = s.protections)
    (settings : u.settings = s.settings) (after : t'.protections = t.protections) : s.VictimLeaves k t' := by
  have branch : u.branchOf k = s.branchOf k := by rw [State.branchOf, settings]; rfl
  have old : ∀ b, u.protection b = s.protection b := State.protection_of_eq before
  have new : ∀ b, t'.protection b = t.protection b := State.protection_of_eq after
  obtain ⟨others, absent, last, leaves⟩ := h
  simp only [branch, old, ← new] at others absent last leaves
  exact ⟨others, absent, last, leaves⟩

/-- `t` is `s` but for the branches' protection, the lines, the entries, the drivers and the ports. -/
def State.BranchOnly (s t : State) : Prop :=
  { t with protections := s.protections, ports := s.ports, sequencers := s.sequencers, entries := s.entries, drivers := s.drivers } = s

theorem State.BranchOnly.refl (s : State) : s.BranchOnly s := rfl

theorem State.BranchOnly.trans (h : s.BranchOnly t) (g : t.BranchOnly u) : s.BranchOnly u := by
  unfold State.BranchOnly at h g ⊢
  exact (congrArg (fun v : State => { v with
    protections := s.protections, ports := s.ports, sequencers := s.sequencers, entries := s.entries, drivers := s.drivers })
    g).trans h

theorem State.LineOnly.branch (h : s.LineOnly t) : s.BranchOnly t := by
  unfold State.LineOnly at h
  exact congrArg (fun v : State => { v with protections := s.protections, ports := s.ports }) h

theorem State.BranchOnly.setProtection (h : s.BranchOnly t) (b : Branch) (p : Protection) : s.BranchOnly (t.setProtection b p) :=
  h.trans rfl

theorem State.BranchOnly.post (h : s.BranchOnly t) (body : EventBody) (source : EventOrigin) : s.BranchOnly (t.post body source) :=
  h.trans rfl

theorem State.BranchOnly.testHead (h : s.BranchOnly t) (b : Branch) : s.BranchOnly (t.testHead b) :=
  h.trans ((State.LineOnly.refl t).testHead b).branch

theorem State.BranchOnly.monitors (h : s.BranchOnly t) : t.monitors = s.monitors := (congrArg State.monitors h :)

theorem State.BranchOnly.tripped (h : s.BranchOnly t) : t.tripped = s.tripped := (congrArg State.tripped h :)

theorem State.BranchOnly.tripRuns (h : s.BranchOnly t) : t.tripRuns = s.tripRuns := (congrArg State.tripRuns h :)

theorem State.BranchOnly.meters (h : s.BranchOnly t) : t.meters = s.meters := (congrArg State.meters h :)

theorem State.BranchOnly.slots (h : s.BranchOnly t) : t.slots = s.slots := (congrArg State.slots h :)

theorem State.BranchOnly.nextId (h : s.BranchOnly t) : t.nextId = s.nextId := (congrArg State.nextId h :)

theorem State.BranchOnly.handling (h : s.BranchOnly t) : t.handling = s.handling := (congrArg State.handling h :)

theorem State.BranchOnly.settings (h : s.BranchOnly t) : t.settings = s.settings := (congrArg State.settings h :)

/-- What a withdrawal from the victims leaves alone. -/
theorem State.BranchOnly.withdrawVictim (h : s.BranchOnly t) (b : Branch) (k : Outlet) : s.BranchOnly (t.withdrawVictim b k) := by
  unfold State.withdrawVictim State.settleRestoring
  split
  · split
    · exact (((h.setProtection ..).setProtection ..).post ..).testHead b
    · exact h.setProtection ..
  · exact h

/-! ### The refusals of SWITCH -/

/-- A SWITCH with its fields, whatever its tag. -/
theorem requestSwitch_eq (x : Link) (o n h l : Byte) (tag : Option Byte) (s : State) :
    requestSwitch x ([o, n, h, l] ++ tag.toList) s = s.switchFields x o n (number2 h l) tag := by
  cases tag <;> rfl

theorem length_switch (o n h l : Byte) (tag : Option Byte) : ([o, n, h, l] ++ tag.toList).length ≤ 32 := by
  cases tag <;> exact Nat.le_of_ble_eq_true rfl

/-- The request that a SWITCH of known fields comes to. -/
theorem requestSwitch_of {o n : Byte} {k : Outlet} {kind : Kind} (outlet : outletFrom o = some k) (kinds : kindFrom n = some kind)
    (x : Link) (h l : Byte) (tag : Option Byte) (s : State) :
    requestSwitch x ([o, n, h, l] ++ tag.toList) s = s.switchAction x k kind (number2 h l) tag false := by
  rw [requestSwitch_eq, State.switchFields, outlet, kinds]

variable {k : Outlet} {kind : Kind} {off : Nat} {tag : Option Byte} {m : Bool}

/-- A switching request past the checks of hold, fault and shed. -/
theorem State.switchAction_past (free : s.hold k ≠ some x.other) (sound : (s.driver k).fault = none)
    (allowed : kind = .opening ∨ (s.protection (s.branchOf k)).state = .normal) :
    s.switchAction x k kind off tag m = match s.entryOf k with
      | some e => s.switchExisting x k kind off tag m e
      | none => if s.atTarget k kind then (s.accepted k kind, Answer.bare .already) else s.switchPlace x k kind off tag m := by
  have open' : ¬(kind ≠ .opening ∧ s.branchShut (s.branchOf k) = true) := by
    rintro ⟨other, shut⟩
    exact bne_iff_ne.mp shut (allowed.resolve_left other)
  unfold State.switchAction
  rw [if_neg (mt (s.heldByOther_iff x k).mp free), sound, Option.isSome_none, if_neg Bool.false_ne_true, if_neg open'] <;>
    cases s.entryOf k <;> rfl

theorem State.atTarget_iff : s.atTarget k kind = true ↔ (s.driver k).state = .idle ∧
    (kind = .opening ∧ s.contact k = .opened ∨ kind = .closing ∧ s.contact k = .closed) := by
  cases kind <;> simp [State.atTarget]

theorem State.hasRoom_iff : s.hasRoom = true ↔ s.entries.length < 16 := decide_eq_true_iff

/-- An OPEN answered without an entry takes the outlet out of the victims and leaves the rest. -/
theorem State.Ready.open_already (ready : s.Ready x) {c : Instr} {code : Byte} {p : List Byte}
    (request : c.request = some (x, code, p)) (short : p.length ≤ 32)
    (taken : requestOf x code p (s.setPort x (s.port x).took) =
      ((s.setPort x (s.port x).took).accepted k .opening, { status := .already, payload := [] })) :
    ∃ t, exec c s = .next t ∧ s.VictimLeaves k t ∧ (s.answeredOnly x .already code []).ActsOnly t ∧
      t.tripped = s.tripped ∧ t.nextId = s.nextId ∧
      ((s.protection (s.branchOf k)).state = .normal ∨ look (s.protection (s.branchOf k)).victims k = false →
        t = s.answeredOnly x .already code []) := by
  let u := s.setPort x (s.port x).took
  have rest : u.BranchOnly (u.accepted k .opening) := (State.BranchOnly.refl u).withdrawVictim (u.branchOf k) k
  have acts : Acts u (u.accepted k .opening) := (Acts.refl u).accepted k .opening
  refine ⟨_, ready.exec_took request short taken, (u.withdrawVictim_leaves k).of_same rfl rfl rfl, acts.respond .already code [],
    rest.tripped, rest.nextId, fun stays => ?_⟩
  have same : u.accepted k .opening = u :=
    if_neg fun leaves => stays.elim leaves.1 fun no => absurd (no.symm.trans leaves.2) (by decide)
  rw [same]
  exact s.answered_alone x .already code []

/-- Settles O39: each check of R72 is one branch of `switchAction`. -/
theorem switchRefusesInOrder : Obligations.SwitchRefusesInOrder := by
  intro x o n h l tag s ready
  refine ⟨fun bad => ?_, fun k kind outlet kinds => ?_⟩
  · refine ready.exec_refused rfl (length_switch ..) (Eq.trans (requestSwitch_eq ..) ?_)
    rw [State.switchFields]
    split
    · next hk hkind => exact bad.elim (fun no => absurd (no.symm.trans hk) nofun) fun no => absurd (no.symm.trans hkind) nofun
    · rfl
  let u := s.setPort x (s.port x).took
  have judged : requestOf x 0x10 ([o, n, h, l] ++ tag.toList) u = u.switchAction x k kind (number2 h l) tag false :=
    requestSwitch_of outlet kinds x h l tag u
  have freeOf (free : s.hold k ≠ some x.other) : ¬u.heldByOther x k = true := mt (s.heldByOther_iff x k).mp free
  refine ⟨fun held => ?_, fun free faulted => ?_, fun free sound other shut => ?_, fun free sound allowed none =>
    ⟨fun idle opening opened => ?_, fun idle closing closed => ?_, fun away full => ?_⟩⟩
  · exact ready.exec_refused rfl (length_switch ..) (judged.trans (if_pos ((s.heldByOther_iff x k).mpr held)))
  · have some : (u.driver k).fault.isSome = true := Option.isSome_iff_ne_none.mpr faulted
    exact ready.exec_refused rfl (length_switch ..) (judged.trans ((if_neg (freeOf free)).trans (if_pos some)))
  · have none : ¬(u.driver k).fault.isSome = true := by
      show ¬(s.driver k).fault.isSome = true
      rw [sound]; exact Bool.false_ne_true
    have barred : kind ≠ .opening ∧ u.branchShut (u.branchOf k) = true := ⟨other, bne_iff_ne.mpr shut⟩
    exact ready.exec_refused rfl (length_switch ..)
      (judged.trans ((if_neg (freeOf free)).trans ((if_neg none).trans (if_pos barred))))
  all_goals
    have past := State.switchAction_past (s := u) (off := number2 h l) (tag := tag) (m := false) free sound allowed
    have noEntry : u.entryOf k = Option.none := none
    rw [noEntry] at past
  · subst opening
    have here : u.atTarget k .opening = true := State.atTarget_iff.mpr ⟨idle, .inl ⟨rfl, opened⟩⟩
    exact ready.open_already rfl (length_switch ..) (judged.trans (past.trans (if_pos here)))
  · subst closing
    have here : u.atTarget k .closing = true := State.atTarget_iff.mpr ⟨idle, .inr ⟨rfl, closed⟩⟩
    exact ready.exec_apart (t := s.setTripped k false) rfl (length_switch ..) (judged.trans (past.trans (if_pos here)))
  · have notHere : ¬u.atTarget k kind = true := mt State.atTarget_iff.mp away
    have noRoom : ¬u.hasRoom = true := fun room => Nat.not_lt.mpr full (State.hasRoom_iff.mp room)
    exact ready.exec_refused rfl (length_switch ..) (judged.trans (past.trans ((if_neg notHere).trans (if_neg noRoom))))

end Sys2Proof.Machine

/-! PROOF. The first step and what it leaves alone, an answer beside a step, and FAULT_CLEAR (O48). -/

namespace Sys2Proof.Machine

variable {s t u : State} {x : Link} {k : Outlet}

/-! ### What an entry's step leaves alone -/

/-- `t` is `s` but for the lines, the entries, the monitors, the ports and the drivers, whose contacts, faults and coils stay. -/
structure State.StepOnly (s t : State) : Prop where
  rest : { t with sequencers := s.sequencers, entries := s.entries, drivers := s.drivers, ports := s.ports, monitors := s.monitors } = s
  contact : ∀ j, t.contact j = s.contact j
  fault : ∀ j, (t.driver j).fault = (s.driver j).fault
  coil : ∀ j, (t.driver j).coil = (s.driver j).coil

theorem State.StepOnly.refl (s : State) : s.StepOnly s := ⟨rfl, fun _ => rfl, fun _ => rfl, fun _ => rfl⟩

theorem State.StepOnly.trans (h : s.StepOnly t) (g : t.StepOnly u) : s.StepOnly u where
  rest := (congrArg (fun v : State => { v with
    sequencers := s.sequencers, entries := s.entries, drivers := s.drivers, ports := s.ports, monitors := s.monitors })
    g.rest).trans h.rest
  contact j := (g.contact j).trans (h.contact j)
  fault j := (g.fault j).trans (h.fault j)
  coil j := (g.coil j).trans (h.coil j)

theorem State.StepOnly.ite {p : Prop} [Decidable p] (h : s.StepOnly t) (g : s.StepOnly u) : s.StepOnly (if p then t else u) := by
  split
  · exact h
  · exact g

theorem State.StepOnly.setSequencer (h : s.StepOnly t) (b : Branch) (q : Sequencer) : s.StepOnly (t.setSequencer b q) :=
  h.trans ⟨rfl, fun _ => rfl, fun _ => rfl, fun _ => rfl⟩

theorem State.StepOnly.setEntries (h : s.StepOnly t) (es : List Entry) : s.StepOnly (t.setEntries es) :=
  h.trans ⟨rfl, fun _ => rfl, fun _ => rfl, fun _ => rfl⟩

theorem State.StepOnly.modEntry (h : s.StepOnly t) (id : Byte) (f : Entry → Entry) : s.StepOnly (t.modEntry id f) :=
  h.trans ⟨rfl, fun _ => rfl, fun _ => rfl, fun _ => rfl⟩

theorem State.StepOnly.post (h : s.StepOnly t) (body : EventBody) (source : EventOrigin) : s.StepOnly (t.post body source) :=
  h.trans ⟨rfl, fun _ => rfl, fun _ => rfl, fun _ => rfl⟩

theorem State.StepOnly.setMonitor (h : s.StepOnly t) (k : Outlet) (m : Monitor) : s.StepOnly (t.setMonitor k m) :=
  h.trans ⟨rfl, fun _ => rfl, fun _ => rfl, fun _ => rfl⟩

theorem State.StepOnly.setDriver (h : s.StepOnly t) (k : Outlet) {d : Driver} (contact : d.contact = (t.driver k).contact)
    (fault : d.fault = (t.driver k).fault) (coil : d.coil = (t.driver k).coil) : s.StepOnly (t.setDriver k d) := by
  refine h.trans ⟨rfl, fun j => ?_, fun j => ?_, fun j => ?_⟩
  · rw [State.contact, State.setDriver_driver]
    split
    · next same => rw [same]; exact contact
    · rfl
  · rw [State.setDriver_driver]
    split
    · next same => rw [same]; exact fault
    · rfl
  · rw [State.setDriver_driver]
    split
    · next same => rw [same]; exact coil
    · rfl

theorem State.StepOnly.handOver (h : s.StepOnly t) (k : Outlet) (d : Direction) : s.StepOnly (t.handOver k d) :=
  h.setDriver k rfl rfl rfl

theorem State.StepOnly.testHead (h : s.StepOnly t) (b : Branch) : s.StepOnly (t.testHead b) := by
  unfold State.testHead
  split
  · exact h.setSequencer ..
  · split
    · exact h
    · split
      · exact (((h.setSequencer ..).modEntry ..).handOver ..)
      · exact h.setSequencer ..

theorem State.StepOnly.joinLine (h : s.StepOnly t) (e : Entry) : s.StepOnly (t.joinLine e) :=
  .ite (((h.modEntry ..).setSequencer ..).testHead _) ((h.modEntry ..).setSequencer ..)

theorem State.StepOnly.sequencerCompletion (h : s.StepOnly t) (b : Branch) (id : Byte) :
    s.StepOnly (t.sequencerCompletion b id) :=
  .ite ((h.setSequencer ..).testHead _) (.ite (.ite ((h.setSequencer ..).testHead _) (h.setSequencer ..)) h)

theorem State.StepOnly.complete (h : s.StepOnly t) (e : Entry) (r : ActionResult) (d : ResultDetail) : s.StepOnly (t.complete e r d) :=
  (((h.setEntries _).post ..).setMonitor ..).sequencerCompletion ..

theorem State.StepOnly.stepEntry (h : s.StepOnly t) (e : Entry) : s.StepOnly (t.stepEntry e) := by
  unfold State.stepEntry
  split
  · exact h.complete ..
  · exact (h.modEntry ..).handOver ..
  · exact h.complete ..
  · exact h.joinLine e
  · exact h.modEntry ..
  · exact (h.modEntry ..).handOver ..

theorem State.StepOnly.firstStep (h : s.StepOnly t) (k : Outlet) : s.StepOnly (t.firstStep k) := by
  unfold State.firstStep
  split
  · exact h
  · exact .ite (h.stepEntry _) h

/-! ### An answer beside a step -/

/-- A link's response buffer set. -/
def State.setResponse (s : State) (x : Link) (r : Response) : State := s.setPort x { s.port x with response := r }

theorem State.respond_eq (s : State) (x : Link) (st : Status) (code : Byte) (payload : List Byte) : s.respond x st code payload =
    s.setResponse x { status := st, echo := code, generation := s.generation, payload := payload } := rfl

variable (r : Response)

theorem State.post_setResponse (s : State) (x : Link) (body : EventBody) (source : EventOrigin) :
    (s.setResponse x r).post body source = (s.post body source).setResponse x r := by
  have offered (p : Port) (e : Event) := p.offer_response e r
  cases x
  · exact congrArg (fun p => { s with ports := ⟨p, (s.port .b).offer ⟨body, source, s.stamp⟩⟩ }) (offered (s.port .a) _)
  · exact congrArg (fun p => { s with ports := ⟨(s.port .a).offer ⟨body, source, s.stamp⟩, p⟩ }) (offered (s.port .b) _)

theorem State.testHead_setResponse (s : State) (x : Link) (b : Branch) :
    (s.setResponse x r).testHead b = (s.testHead b).setResponse x r := by
  unfold State.testHead
  rw [show (s.setResponse x r).sequencer b = s.sequencer b from rfl]
  split
  · rfl
  · next id rest line =>
    rw [show (s.setResponse x r).entryById id = s.entryById id from rfl]
    split
    · rfl
    · next e entry =>
      rw [show (s.setResponse x r).blockReason b e.outlet = s.blockReason b e.outlet from rfl]
      split <;> rfl

theorem State.setResponse_ite (x : Link) {p : Prop} [Decidable p] (s t : State) :
    (if p then s else t).setResponse x r = if p then s.setResponse x r else t.setResponse x r :=
  apply_ite (fun v : State => v.setResponse x r) p s t

theorem State.joinLine_setResponse (s : State) (x : Link) (e : Entry) :
    (s.setResponse x r).joinLine e = (s.joinLine e).setResponse x r := by
  unfold State.joinLine
  dsimp only
  rw [State.setResponse_ite, ← State.testHead_setResponse]
  rfl

theorem State.sequencerCompletion_setResponse (s : State) (x : Link) (b : Branch) (id : Byte) :
    (s.setResponse x r).sequencerCompletion b id = (s.sequencerCompletion b id).setResponse x r := by
  unfold State.sequencerCompletion State.endClose State.leaveLine
  dsimp only
  rw [State.setResponse_ite, State.setResponse_ite, State.setResponse_ite, ← State.testHead_setResponse,
    ← State.testHead_setResponse]
  rfl

theorem State.complete_setResponse (s : State) (x : Link) (e : Entry) (res : ActionResult) (d : ResultDetail) :
    (s.setResponse x r).complete e res d = (s.complete e res d).setResponse x r := by
  unfold State.complete
  rw [show (s.setResponse x r).setEntries ((s.setResponse x r).entries.filter fun e' => e'.id != e.id) =
      (s.setEntries (s.entries.filter fun e' => e'.id != e.id)).setResponse x r from rfl, State.post_setResponse,
    ← State.sequencerCompletion_setResponse]
  rfl

theorem State.stepEntry_setResponse (s : State) (x : Link) (e : Entry) :
    (s.setResponse x r).stepEntry e = (s.stepEntry e).setResponse x r := by
  unfold State.stepEntry
  rw [show (s.setResponse x r).contact e.outlet = s.contact e.outlet from rfl, State.complete_setResponse,
    State.joinLine_setResponse]
  cases e.kind <;> cases s.contact e.outlet <;> rfl

theorem State.firstStep_setResponse (s : State) (x : Link) (k : Outlet) :
    (s.setResponse x r).firstStep k = (s.firstStep k).setResponse x r := by
  unfold State.firstStep
  rw [show (s.setResponse x r).entryOf k = s.entryOf k from rfl]
  cases s.entryOf k with
  | none => rfl
  | some e =>
    dsimp only
    rw [State.setResponse_ite, State.stepEntry_setResponse]
    rfl

/-! ### A change of contact -/

/-- A change of contact is `moved`, and at a change to OPEN a test of the line (R101). -/
theorem State.setContact_moved (s : State) (k : Outlet) (c : Contact) :
    s.setContact k c = if c ≠ s.contact k ∧ c = .opened then (s.moved k c).testHeadOf k else s.moved k c := by
  unfold State.setContact State.moved
  by_cases same : c = s.contact k
  · rw [if_neg fun h : c ≠ s.contact k ∧ _ => h.1 same]
    simp [same, Monitor.afterMove, State.setDriver, State.monitor, put_look_self]
  · have changed : ¬s.contact k = c := fun h => same h.symm
    cases c with
    | opened =>
      simp only [same, changed, ne_eq, not_false_eq_true, and_self, if_true, if_false, Monitor.afterMove, reduceCtorEq,
        State.setMonitor, State.rememberLoad, State.setDriver, State.setMeter, State.meter, State.monitor, Monitor.withdraw_eq]
      cases (look s.meters k).windowResult <;> rfl
    | closed =>
      simp only [same, ne_eq, not_false_eq_true, not_true_eq_false, and_false, false_and, if_false, Monitor.afterMove, reduceCtorEq,
        State.setDriver, State.monitor, put_look_self]
    | unknown =>
      simp only [same, ne_eq, not_false_eq_true, and_self, and_false, false_and, if_true, if_false, Monitor.afterMove, reduceCtorEq,
        State.setMonitor, State.setDriver, State.monitor, Monitor.withdraw_eq]

theorem State.StepOnly.testHeadOf (h : s.StepOnly t) (k : Outlet) : s.StepOnly (t.testHeadOf k) := by
  unfold State.testHeadOf
  split
  · exact h
  · exact .ite (h.testHead _) h

theorem State.LineOnly.testHeadOf (h : s.LineOnly t) (k : Outlet) : s.LineOnly (t.testHeadOf k) := by
  unfold State.testHeadOf
  split
  · exact h
  · exact .ite (h.testHead _) h

theorem State.setContact_step (s : State) (k : Outlet) (c : Contact) : (s.moved k c).StepOnly (s.setContact k c) := by
  rw [State.setContact_moved]
  exact .ite ((State.StepOnly.refl _).testHeadOf k) (.refl _)

theorem State.moved_driver (s : State) (k : Outlet) (c : Contact) (j : Outlet) :
    (s.moved k c).driver j = if j = k then { s.driver k with contact := c } else s.driver j :=
  look_put ..

theorem State.EntriesDistinct.entryOf (distinct : s.EntriesDistinct) {e : Entry} (live : e ∈ s.entries) :
    s.entryOf e.outlet = some e := by
  obtain ⟨e', found⟩ := Option.isSome_iff_exists.mp
    (List.find?_isSome (p := fun x : Entry => x.outlet == e.outlet).mpr ⟨e, live, beq_self_eq_true _⟩)
  have same : e' = e :=
    distinct.eq_of_outlet (State.mem_of_entryOf found) live (State.outlet_of_entryOf (k := e.outlet) found)
  exact same ▸ found

/-- The head of no line is outlet `k`'s entry where that entry has not joined a line. -/
theorem State.head_apart (lines : s.LinesLive) (distinct : s.EntriesDistinct) (out : ∀ e, s.entryOf k = some e → e.phase ≠ .waitAdmit)
    (b : Branch) : ((s.sequencer b).line.head?.bind s.entryById).map (·.outlet) ≠ some k := by
  intro head
  obtain ⟨e, found, outlet⟩ := Option.map_eq_some_iff.mp head
  obtain ⟨id, first, entry⟩ := Option.bind_eq_some_iff.mp found
  have live := State.mem_of_entryById entry
  obtain ⟨e', live', id', waits, -⟩ := (lines b).2.1 id (List.mem_of_mem_head? first)
  have same : e' = e := distinct.eq_of_id live' live (id'.trans (State.id_of_entryById entry).symm)
  exact out e (outlet ▸ distinct.entryOf live) (same ▸ waits)

/-! ### FAULT_CLEAR -/

/-- The contact that outlet `k`'s sense line shows (R119). -/
def State.shownContact (s : State) (k : Outlet) : Contact :=
  if (s.tracker (s.feedOf k)).state = .tracking then (if s.age k < 192 then .closed else .opened) else .unknown

/-- A contact re-read, and told unless it is unknown. -/
def State.rereadTo (s : State) (k : Outlet) (c : Contact) : State :=
  if c = .unknown then s.setContact k c else (s.setContact k c).post (.outletSwitched k c .reread) EventOrigin.nobody

theorem State.reread_eq (s : State) (k : Outlet) : s.reread k = s.rereadTo k (s.shownContact k) := by
  unfold State.reread State.rereadTo State.shownContact State.isTracking State.senseLive
  by_cases tracking : (s.tracker (s.feedOf k)).state = .tracking
  · by_cases live : s.age k < 192
    · simp [tracking, live, Config.senseAgeMax]
    · simp [tracking, live, Config.senseAgeMax]
  · simp [tracking]

theorem State.rereadTo_step (s : State) (k : Outlet) (c : Contact) : (s.moved k c).StepOnly (s.rereadTo k c) :=
  .ite (s.setContact_step k c) ((s.setContact_step k c).post ..)

theorem exec_firstStep (high : s.resetHeld = false) (k : Outlet) : exec (.firstStep k) s = .next (s.firstStep k) :=
  congrArg Host.Outcome.next (State.running_high high)

theorem exec_firstStep_setResponse (high : s.resetHeld = false) (k : Outlet) (x : Link) (r : Response) :
    exec (.firstStep k) (s.setResponse x r) = .next ((s.firstStep k).setResponse x r) := by
  rw [← State.firstStep_setResponse]
  exact exec_firstStep (s := s.setResponse x r) high k

/-- Settles O48: the re-read contact, and the first step beside the answer. -/
theorem faultClearReReadsContact : Obligations.FaultClearReReadsContact := by
  intro x n s ready
  refine ⟨fun beyond => ?_, fun k hk => ?_⟩
  · refine ready.exec_refused rfl (by simp) (?_ : requestFaultClear x [n] _ = _)
    simp only [requestFaultClear, outletFrom_none beyond]
  let u := s.setPort x (s.port x).took
  have judged : requestFaultClear x [n] u =
      if s.heldByOther x k then u.refuse .held
      else if (s.driver k).fault.isNone then u.refuse .already
      else (u.clearFault k, { status := .ok, payload := [byteOf ((u.clearFault k).contact k).code] }) := by
    simp only [requestFaultClear, outletFrom_of hk]
    rfl
  refine ⟨fun held => ?_, fun free sound => ?_, fun free faulted => ?_⟩
  · exact ready.exec_refused rfl (by simp) (judged.trans (if_pos ((s.heldByOther_iff x k).mpr held)))
  · refine ready.exec_refused rfl (by simp) (judged.trans ((if_neg (mt (s.heldByOther_iff x k).mp free)).trans (if_pos ?_)))
    rw [sound]; rfl
  · have some : ¬(s.driver k).fault.isNone = true := fun none => faulted (Option.isNone_iff_eq_none.mp none)
    rw [if_neg (mt (s.heldByOther_iff x k).mp free), if_neg some] at judged
    let c := s.shownContact k
    let idle := u.setDriver k { (u.driver k).idle with fault := none }
    have cleared : u.clearFault k = (idle.rereadTo k c).firstStep k := congrArg (State.firstStep · k) (idle.reread_eq k)
    have step : (idle.moved k c).StepOnly ((idle.rereadTo k c).firstStep k) := (idle.rereadTo_step k c).firstStep k
    have driver (j : Outlet) : (idle.moved k c).driver j =
        if j = k then { (u.driver k).idle with fault := none, contact := c } else s.driver j := by
      rw [State.moved_driver]
      by_cases own : j = k
      · rw [if_pos own, if_pos own, State.setDriver_driver, if_pos rfl]
      · rw [if_neg own, if_neg own, State.setDriver_driver, if_neg own]; rfl
    have contact : ((idle.rereadTo k c).firstStep k).contact k = c := by
      rw [step.contact, State.contact, driver, if_pos rfl]
    rw [cleared, contact] at judged
    let r : Response := { status := .ok, echo := 0x18, generation := s.generation, payload := [byteOf c.code] }
    have answer : s.answeredOnly x .ok 0x18 [byteOf c.code] = u.setResponse x r := (s.answered_alone x ..).symm
    let w := (idle.rereadTo k c).firstStep k
    have acts : Acts u w := by
      have act := (Acts.refl u).clearFault k
      rwa [cleared] at act
    have fault (j : Outlet) : (w.driver j).fault = if j = k then none else (s.driver j).fault := by
      rw [step.fault, driver]
      split <;> rfl
    have rest := step.rest
    refine ⟨_, c, ready.exec_took rfl (by simp) judged, rfl, (fault k).trans (if_pos rfl), contact, acts.respond .ok 0x18 _,
      fun j other => ⟨(fault j).trans (if_neg other), ?_⟩, ?_, (congrArg State.tripped rest :), (congrArg State.tripRuns rest :),
      (congrArg State.protections rest :), (congrArg State.slots rest :)⟩
    · have same : w.contact j = (idle.moved k c).contact j := step.contact j
      exact same.trans (by rw [State.contact, driver, if_neg other]; rfl)
    · let reread : State := if c = .unknown then (idle.setResponse x r).moved k c
        else ((idle.setResponse x r).moved k c).told (.outletSwitched k c .reread) EventOrigin.nobody
      have beside : reread = (if c = .unknown then idle.moved k c
          else (idle.moved k c).post (.outletSwitched k c .reread) EventOrigin.nobody).setResponse x r := by
        rw [State.setResponse_ite, ← State.post_setResponse]; rfl
      have freed : (s.driverFree k).driver k = (s.driver k).idle := look_put_self ..
      refine ⟨idle.setResponse x r, reread, by rw [answer, freed]; rfl, rfl, ?_, fun distinct lines queued => ?_⟩
      · have meters : reread.meters = (idle.moved k c).meters := by
          rw [beside]
          split <;> rfl
        exact (congrArg State.meters rest :).trans meters.symm
      · have apart := State.head_apart (s := idle) (k := k) lines distinct
          (fun e entry waits => absurd ((queued e entry).symm.trans waits) (by decide)) (idle.branchOf k)
        have settled : idle.rereadTo k c = if c = .unknown then idle.moved k c
            else (idle.moved k c).post (.outletSwitched k c .reread) EventOrigin.nobody := by
          rw [State.rereadTo, State.setContact_eq apart]
        have high : (idle.rereadTo k c).resetHeld = false :=
          (congrArg State.resetHeld (idle.rereadTo_step k c).rest :).trans ready.running
        have same : w.generation = s.generation := acts.generation
        rw [beside, ← settled, exec_firstStep_setResponse high, State.respond_eq, same]

end Sys2Proof.Machine

/-! PROOF. Placements and restoration passes and what they leave alone, and SHED_CLEAR (O47). -/

namespace Sys2Proof.Machine

variable {s t u : State} {x : Link} {k : Outlet} {b : Branch}

/-! ### What a placement leaves alone -/

/-- `t` is `s` but for the queue, the lines, the monitors, the ports, the tripped flags, the arrival's record, and the drivers, whose
contacts and faults stay. -/
structure State.QueueOnly (s t : State) : Prop where
  rest : { t with
    sequencers := s.sequencers, entries := s.entries, drivers := s.drivers, ports := s.ports, monitors := s.monitors
    nextId := s.nextId, tripped := s.tripped, handling := s.handling } = s
  contact : ∀ j, t.contact j = s.contact j
  fault : ∀ j, (t.driver j).fault = (s.driver j).fault

theorem State.QueueOnly.refl (s : State) : s.QueueOnly s := ⟨rfl, fun _ => rfl, fun _ => rfl⟩

theorem State.QueueOnly.trans (h : s.QueueOnly t) (g : t.QueueOnly u) : s.QueueOnly u where
  rest := (congrArg (fun v : State => { v with
    sequencers := s.sequencers, entries := s.entries, drivers := s.drivers, ports := s.ports, monitors := s.monitors
    nextId := s.nextId, tripped := s.tripped, handling := s.handling }) g.rest).trans h.rest
  contact j := (g.contact j).trans (h.contact j)
  fault j := (g.fault j).trans (h.fault j)

theorem State.StepOnly.queue (h : s.StepOnly t) : s.QueueOnly t where
  rest := congrArg (fun v : State => { v with nextId := s.nextId, tripped := s.tripped, handling := s.handling }) h.rest
  contact := h.contact
  fault := h.fault

theorem State.QueueOnly.protections (h : s.QueueOnly t) : t.protections = s.protections := (congrArg State.protections h.rest :)

theorem State.QueueOnly.setEntries (h : s.QueueOnly t) (es : List Entry) : s.QueueOnly (t.setEntries es) :=
  h.trans ⟨rfl, fun _ => rfl, fun _ => rfl⟩

theorem State.QueueOnly.setNextId (h : s.QueueOnly t) (v : Byte) : s.QueueOnly (t.setNextId v) :=
  h.trans ⟨rfl, fun _ => rfl, fun _ => rfl⟩

theorem State.QueueOnly.setTripped (h : s.QueueOnly t) (k : Outlet) (v : Bool) : s.QueueOnly (t.setTripped k v) :=
  h.trans ⟨rfl, fun _ => rfl, fun _ => rfl⟩

theorem State.QueueOnly.note (h : s.QueueOnly t) (f : Handling → Handling) : s.QueueOnly (t.note f) :=
  h.trans ⟨rfl, fun _ => rfl, fun _ => rfl⟩

theorem State.QueueOnly.answerTrip (h : s.QueueOnly t) (k : Outlet) (kind : Kind) : s.QueueOnly (t.answerTrip k kind) := by
  unfold State.answerTrip
  split
  · exact h
  · exact h.setTripped ..

theorem State.QueueOnly.place (h : s.QueueOnly t) (k : Outlet) (kind : Kind) (o : Origin) (m : Bool) (tag : Option Byte)
    (off : Nat) : s.QueueOnly (t.place k kind o m tag off) :=
  (((h.setEntries _).setNextId _).answerTrip ..).trans ((State.StepOnly.refl _).firstStep k).queue

/-! ### What a restoration pass leaves alone -/

/-- `t` is `s` but for the victims of branch `b` and what a placement can change. -/
structure State.PassOnly (b : Branch) (s t : State) : Prop where
  rest : { t with
    sequencers := s.sequencers, entries := s.entries, drivers := s.drivers, ports := s.ports, monitors := s.monitors
    nextId := s.nextId, tripped := s.tripped, handling := s.handling, protections := s.protections } = s
  contact : ∀ j, t.contact j = s.contact j
  fault : ∀ j, (t.driver j).fault = (s.driver j).fault
  others : ∀ j, j ≠ b → t.protection j = s.protection j
  own : ∃ v, t.protection b = { s.protection b with victims := v }

theorem State.PassOnly.refl (b : Branch) (s : State) : s.PassOnly b s :=
  ⟨rfl, fun _ => rfl, fun _ => rfl, fun _ _ => rfl, _, rfl⟩

theorem State.PassOnly.trans (h : s.PassOnly b t) (g : t.PassOnly b u) : s.PassOnly b u where
  rest := (congrArg (fun v : State => { v with
    sequencers := s.sequencers, entries := s.entries, drivers := s.drivers, ports := s.ports, monitors := s.monitors
    nextId := s.nextId, tripped := s.tripped, handling := s.handling, protections := s.protections }) g.rest).trans h.rest
  contact j := (g.contact j).trans (h.contact j)
  fault j := (g.fault j).trans (h.fault j)
  others j ne := (g.others j ne).trans (h.others j ne)
  own := by
    obtain ⟨v, hv⟩ := h.own
    obtain ⟨w, hw⟩ := g.own
    exact ⟨w, by rw [hw, hv]⟩

theorem State.QueueOnly.pass (h : s.QueueOnly t) (b : Branch) : s.PassOnly b t where
  rest := congrArg (fun v : State => { v with protections := s.protections }) h.rest
  contact := h.contact
  fault := h.fault
  others j _ := State.protection_of_eq h.protections j
  own := ⟨_, State.protection_of_eq h.protections b⟩

theorem State.PassOnly.dropVictim (h : s.PassOnly b t) (k : Outlet) : s.PassOnly b (t.dropVictim b k) := by
  refine h.trans ⟨rfl, fun _ => rfl, fun _ => rfl, fun j ne => ?_, put (t.protection b).victims k false, ?_⟩
  · rw [State.dropVictim_protection, if_neg ne]
  · rw [State.dropVictim_protection, if_pos rfl]

theorem State.PassOnly.restoreVictim (h : s.PassOnly b t) {v : State} (restored : t.restoreVictim b k = some v) :
    s.PassOnly b v := by
  unfold State.restoreVictim at restored
  split at restored
  · obtain rfl := Option.some.inj restored
    exact (h.dropVictim k).trans (((State.StepOnly.refl _).post ..).queue.pass b)
  · split at restored
    · obtain rfl := Option.some.inj restored
      exact (h.dropVictim k).trans (((State.StepOnly.refl _).post ..).queue.pass b)
    · split at restored
      · obtain rfl := Option.some.inj restored
        exact h.dropVictim k
      · split at restored
        · obtain rfl := Option.some.inj restored
          exact (h.dropVictim k).trans ((((State.QueueOnly.refl _).note _).place ..).pass b)
        · exact absurd restored nofun

theorem State.PassOnly.returnOver (l : List Outlet) : ∀ {going : Bool} {t : State}, s.PassOnly b t →
    s.PassOnly b (returnOver (fun v _ => v) b l going t) := by
  induction l with
  | nil => intro going t h; exact h
  | cons k l ih =>
    intro going t h
    unfold Machine.returnOver
    split
    · split
      · next v restored => exact ih (h.restoreVictim restored)
      · exact ih h
    · exact ih h

theorem State.PassOnly.passWith (h : s.PassOnly b t) : s.PassOnly b (t.passWith (fun v _ => v) b) := h.returnOver _

/-! ### SHED_CLEAR -/

theorem State.clearShed_protection (s : State) (b j : Branch) : (s.clearShed b).protection j = if j = b then
    { s.protection b with manual := false, restartCount := 0, restartTimer := 0, manualMark := false, exhaustedMark := false }
    else s.protection j :=
  State.setProtection_protection ..

theorem State.BranchOnly.settleRestoring (h : s.BranchOnly t) (b : Branch) : s.BranchOnly (t.settleRestoring b) := by
  unfold State.settleRestoring
  split
  · exact ((h.setProtection ..).post ..).testHead b
  · exact h

/-- A pass of a branch leaves it with fewer victims, or in NORMAL (R135, R136). -/
theorem State.restorationPass_protection (s : State) (b : Branch) :
    (∀ j, j ≠ b → (s.restorationPass b).protection j = s.protection j) ∧
      ∃ v, (s.restorationPass b).protection b = { s.protection b with victims := v } ∨
        (s.restorationPass b).protection b = (s.protection b).normal := by
  have pass := (State.PassOnly.refl b s).passWith
  obtain ⟨v, own⟩ := pass.own
  have settled := (s.passWith (fun t _ => t) b).settleRestoring_protection b
  refine ⟨fun j ne => ?_, v, ?_⟩
  · rw [State.restorationPass, settled, if_neg fun h => ne h.1, pass.others j ne]
  · rw [State.restorationPass, settled, own]
    split
    · exact .inr rfl
    · exact .inl rfl

theorem State.restorationPass_rest (s : State) (b : Branch) :
    (s.restorationPass b).tripRuns = s.tripRuns ∧ (s.restorationPass b).slots = s.slots := by
  have rest := (State.PassOnly.refl b s).passWith.rest
  have settle := (State.BranchOnly.refl (s.passWith (fun t _ => t) b)).settleRestoring b
  exact ⟨settle.tripRuns.trans (congrArg State.tripRuns rest :), settle.slots.trans (congrArg State.slots rest :)⟩

theorem State.beginRestoring_line (s : State) (b : Branch) (o : RestoreOrigin) :
    ((s.setProtection b { s.protection b with state := .restoring, restartTimer := 0 }).post
      (.branchRestoreBegin b (((s.setProtection b { s.protection b with state := .restoring, restartTimer := 0 }).protection b).victims)
        (((s.setProtection b { s.protection b with state := .restoring, restartTimer := 0 }).protection b).restartCount) o)
      EventOrigin.nobody).LineOnly (s.beginRestoring b o) :=
  (State.LineOnly.refl _).testHead b

theorem State.beginRestoring_protection (s : State) (b : Branch) (o : RestoreOrigin) (j : Branch) :
    (s.beginRestoring b o).protection j =
      if j = b then { s.protection b with state := .restoring, restartTimer := 0 } else s.protection j :=
  (State.protection_of_eq (s.beginRestoring_line b o).protections j).trans (State.setProtection_protection ..)

theorem State.beginRestoring_branch (s : State) (b : Branch) (o : RestoreOrigin) : s.BranchOnly (s.beginRestoring b o) :=
  (((State.BranchOnly.refl s).setProtection ..).post ..).testHead b

/-- What an accepted SHED_CLEAR leaves of a branch's protection. -/
structure Protection.Cleared (p : Protection) : Prop where
  manual : p.manual = false
  restartCount : p.restartCount = 0
  manualMark : p.manualMark = false
  exhaustedMark : p.exhaustedMark = false
  restartTimer : p.restartTimer = 0

/-- What becomes of the branch of a SHED_CLEAR, with and without the restore flag. -/
theorem State.clearShed_ends (s : State) (b : Branch) (restore : Bool) (t : State)
    (ends : t = if restore then s.clearRestore b else (s.clearShed b).enterNormal b .cleared) :
    (t.protection b).Cleared ∧ (∀ j, j ≠ b → t.protection j = s.protection j) ∧
      ((t.protection b).state = .normal ∧ (∀ k, look (t.protection b).victims k = false) ∨
        restore = true ∧ (t.protection b).state = .restoring) ∧ t.tripRuns = s.tripRuns ∧ t.slots = s.slots := by
  have cleared := s.clearShed_protection b
  have empty (p : Protection) (k : Outlet) : look p.normal.victims k = false := look_fill false k
  cases restore with
  | false =>
    have entered := (s.clearShed b).enterNormal_protection b .cleared
    have line := (s.clearShed b).enterNormal_line b .cleared
    rw [cleared b, if_pos rfl] at entered
    subst ends
    have own := (entered b).trans (if_pos rfl)
    refine ⟨?_, fun j ne => ?_, .inl ?_, line.tripRuns, line.slots⟩
    · exact own ▸ ⟨rfl, rfl, rfl, rfl, rfl⟩
    · exact (entered j).trans ((if_neg ne).trans ((cleared j).trans (if_neg ne)))
    · exact own ▸ ⟨rfl, empty _⟩
  | true =>
    by_cases restoring : (s.protection b).state = .restoring
    · have same : t = s.clearShed b := ends.trans (if_pos restoring)
      subst same
      have own := (cleared b).trans (if_pos rfl)
      refine ⟨?_, fun j ne => (cleared j).trans (if_neg ne), .inr ⟨rfl, ?_⟩, rfl, rfl⟩
      · exact own ▸ ⟨rfl, rfl, rfl, rfl, rfl⟩
      · exact own ▸ restoring
    · have same : t = ((s.clearShed b).beginRestoring b .cleared).restorationPass b := ends.trans (if_neg restoring)
      subst same
      have begun := (s.clearShed b).beginRestoring_protection b .cleared
      have line := ((State.BranchOnly.refl s).setProtection b _).trans ((s.clearShed b).beginRestoring_branch b .cleared)
      obtain ⟨others, v, own⟩ := ((s.clearShed b).beginRestoring b .cleared).restorationPass_protection b
      obtain ⟨runs, slots⟩ := ((s.clearShed b).beginRestoring b .cleared).restorationPass_rest b
      rw [begun b, if_pos rfl, cleared b, if_pos rfl] at own
      refine ⟨?_, fun j ne => ?_, ?_, runs.trans line.tripRuns, slots.trans line.slots⟩
      · rcases own with own | own <;> exact own ▸ ⟨rfl, rfl, rfl, rfl, rfl⟩
      · rw [others j ne, begun j, if_neg ne, cleared j, if_neg ne]
      · rcases own with own | own
        · exact .inr ⟨rfl, own ▸ rfl⟩
        · exact .inl (own ▸ ⟨rfl, empty _⟩)

/-- Settles O47. -/
theorem shedClearBringsBranchBack : Obligations.ShedClearBringsBranchBack := by
  intro x n flag s ready
  let u := s.setPort x (s.port x).took
  refine ⟨fun bad => ?_, fun b hb listed => ?_⟩
  · refine ready.exec_refused rfl (by simp) (?_ : requestShedClear x [n, flag] u = _)
    have none : branchFrom n = none ∨ codedFrom [false, true] flag = none :=
      bad.imp branchFrom_none fun above => List.getElem?_eq_none above
    simp only [requestShedClear]
    split
    · next b restore hb hr => exact none.elim (fun h => absurd (h.symm.trans hb) nofun) fun h => absurd (h.symm.trans hr) nofun
    · rfl
  obtain ⟨restore, hr⟩ : ∃ restore, codedFrom [false, true] flag = some restore :=
    ⟨_, List.getElem?_eq_getElem (Nat.lt_succ_of_le listed)⟩
  have judged : requestShedClear x [n, flag] u =
      if (s.protection b).state = .normal then u.refuse .notShed
      else if (s.protection b).overcurrent || (s.protection b).breaker then u.refuse .causeActive
      else if restore then (u.clearRestore b, Answer.bare .ok)
      else ((u.clearShed b).enterNormal b .cleared, Answer.bare .ok) := by
    simp only [requestShedClear, branchFrom_of hb, hr]
    rfl
  refine ⟨fun normal => ?_, fun out active => ?_, fun out calm closed => ?_⟩
  · exact ready.exec_refused rfl (by simp) (judged.trans (if_pos normal))
  · have cause : ((s.protection b).overcurrent || (s.protection b).breaker) = true := by simpa using active
    exact ready.exec_refused rfl (by simp) (judged.trans ((if_neg out).trans (if_pos cause)))
  · have cause : ¬((s.protection b).overcurrent || (s.protection b).breaker) = true := by rw [calm, closed]; decide
    let t := if restore then u.clearRestore b else (u.clearShed b).enterNormal b .cleared
    have taken : requestShedClear x [n, flag] u = (t, { status := .ok, payload := [] }) := by
      rw [judged, if_neg out, if_neg cause]
      cases restore <;> rfl
    have acts : Acts u t := by
      have act := (Acts.refl u).requestShedClear x [n, flag]
      rwa [taken] at act
    obtain ⟨⟨manual, count, mark, exhausted, timer⟩, others, state, runs, slots⟩ := u.clearShed_ends b restore t rfl
    refine ⟨_, ready.exec_took rfl (by simp) taken, manual, count, mark, exhausted, timer, fun zero => ?_, fun one => ?_, others,
      runs, slots, acts.respond .ok 0x17 []⟩
    · have off : restore = false := by subst zero; exact (Option.some.inj hr).symm
      exact state.resolve_right fun h => absurd (off.symm.trans h.1) (by decide)
    · exact state.symm.imp_left And.right

end Sys2Proof.Machine

/-! PROOF. A placement's first step, and what the monitors judge and place (O60). -/

namespace Sys2Proof.Machine

variable {s t u : State} {x : Link} {k : Outlet} {b : Branch} {e : Entry}

/-! ### An outlet's entry after a placement -/

theorem State.modEntry_entryOf (s : State) (id : Byte) {f : Entry → Entry} (keeps : ∀ e, (f e).outlet = e.outlet) (k : Outlet) :
    (s.modEntry id f).entryOf k = (s.entryOf k).map fun e => if e.id = id then f e else e := by
  have same : ((fun e : Entry => e.outlet == k) ∘ fun e => if e.id == id then f e else e) = fun e => e.outlet == k := by
    funext e
    rw [Function.comp_apply]
    split
    · rw [keeps]
    · rfl
  rw [State.entryOf, State.modEntry, State.setEntries_entries, List.find?_map, same]
  simp only [beq_iff_eq]
  rfl

theorem State.modEntry_own {f : Entry → Entry} (entry : s.entryOf k = some e) (keeps : ∀ e, (f e).outlet = e.outlet) :
    (s.modEntry e.id f).entryOf k = some (f e) := by
  rw [s.modEntry_entryOf e.id keeps k, entry, Option.map_some, if_pos rfl]

/-- A placement less its first step (R69, R70, R83). -/
def State.placed (s : State) (e : Entry) : State :=
  ((s.setEntries (s.entries ++ [e])).setNextId (e.id + 1)).answerTrip e.outlet e.kind

theorem State.place_eq (s : State) (k : Outlet) (kind : Kind) (o : Origin) (m : Bool) (tag : Option Byte) (off : Nat) :
    s.place k kind o m tag off = (s.placed (s.newEntry k kind o m tag off)).firstStep k := rfl

theorem State.placed_queue (s : State) (e : Entry) : s.QueueOnly (s.placed e) :=
  ((((State.QueueOnly.refl s).setEntries _).setNextId _).answerTrip ..)

theorem State.placed_entries (s : State) (e : Entry) : (s.placed e).entries = s.entries ++ [e] := by
  unfold State.placed State.answerTrip
  split <;> rfl

theorem State.placed_entryOf (free : s.entryOf e.outlet = none) : (s.placed e).entryOf e.outlet = some e := by
  rw [State.entryOf, s.placed_entries, List.find?_append, show s.entries.find? _ = none from free]
  simp

theorem State.stepEntry_cycle (cycle : e.kind = .cycle) :
    s.stepEntry e = if s.contact e.outlet = .opened then s.startOffHold e else s.startOpening e := by
  rw [State.stepEntry, cycle]
  cases s.contact e.outlet <;> rfl

theorem State.stepEntry_opening (opening : e.kind = .opening) :
    s.stepEntry e = if s.contact e.outlet = .opened then s.complete e .done .noPulse else s.startOpening e := by
  rw [State.stepEntry, opening]
  cases s.contact e.outlet <;> rfl

theorem State.stepEntry_closing (closing : e.kind = .closing) :
    s.stepEntry e = if s.contact e.outlet = .closed then s.complete e .done .noPulse else s.joinLine e := by
  rw [State.stepEntry, closing]
  cases s.contact e.outlet <;> rfl

/-- The first step of a CYCLE changes its entry's phase and its outlet's driver alone (R75). -/
theorem State.firstStep_cycle (entry : s.entryOf k = some e) (cycle : e.kind = .cycle) :
    (∃ e', (s.firstStep k).entryOf k = some e' ∧ e' = { e with phase := e'.phase, begun := e'.begun, offHold := e'.offHold }) ∧
      { s.firstStep k with entries := s.entries, drivers := s.drivers } = s ∧
      ∀ j, j ≠ k → (s.firstStep k).driver j = s.driver j := by
  have outlet := State.outlet_of_entryOf entry
  unfold State.firstStep
  rw [entry]
  dsimp only
  split
  · rw [State.stepEntry_cycle cycle]
    split
    · exact ⟨⟨_, State.modEntry_own entry fun _ => rfl, rfl⟩, rfl, fun j _ => rfl⟩
    · refine ⟨⟨_, State.modEntry_own (f := fun x => { x with phase := .opening, begun := true }) entry fun _ => rfl, rfl⟩, rfl,
        fun j other => ?_⟩
      · exact (State.setDriver_driver ..).trans (if_neg (outlet ▸ other))
  · exact ⟨⟨e, entry, rfl⟩, rfl, fun j _ => rfl⟩

/-! ### The verdict -/

theorem State.verdictDue_iff : s.verdictDue k = true ↔ (s.monitor k).state = .watching ∧
    look s.settings.monWindow k * 3840 ≤ (s.monitor k).silence ∧ s.contact k = .closed ∧ s.entryOf k = none ∧
      (s.driver k).fault = none := by
  rw [State.verdictDue, Bool.and_eq_true, Bool.and_eq_true, beq_iff_eq, decide_eq_true_iff, Bool.not_eq_true',
    State.paused_eq_false, and_assoc]
  rfl

theorem State.stallPasses_iff : s.stallPasses k = true ↔ look s.settings.stallBand k = 0 ∨
    (s.monitor k).evidence ≠ 0 ∧
      ∃ lo hi : Int, (s.monitor k).spread = some (lo, hi) ∧ hi - lo ≤ look s.settings.stallBand k := by
  rw [State.stallPasses, Monitor.stallPasses, Bool.or_eq_true, beq_iff_eq, Bool.and_eq_true, bne_iff_ne]
  refine or_congr_right (and_congr_right fun _ => ?_)
  cases (s.monitor k).spread with
  | none => simp
  | some p => simp [Prod.ext_iff]

/-- What a change of one monitor and an event leave alone. -/
theorem State.setMonitor_post (s : State) (k : Outlet) (m : Monitor) (body : EventBody) (source : EventOrigin) :
    ((s.setMonitor k m).post body source).monitor k = m ∧
      { (s.setMonitor k m).post body source with monitors := s.monitors, ports := s.ports } = s :=
  ⟨State.setMonitor_monitor_self .., rfl⟩

theorem State.reportHang_report (s : State) (k : Outlet) (r : HangReason) :
    (s.reportHang k r).monitor k = { s.monitor k with state := .reported, placementPending := false } ∧
      { s.reportHang k r with monitors := s.monitors, ports := s.ports } = s :=
  s.setMonitor_post ..

theorem State.enterSuspect_post (s : State) (k : Outlet) (x : Link) :
    (s.enterSuspect k).monitor k = { s.monitor k with state := .suspect, activeMark := true } ∧
      (s.enterSuspect k).port x = (if (s.monitor k).activeMark = true then s.port x else (s.port x).offer
        { body := .hangActive k (s.monitor k).silence (s.monitor k).evidence (s.monitor k).spread,
          source := EventOrigin.nobody, stamp := s.stamp }) ∧
      { s.enterSuspect k with monitors := s.monitors, ports := s.ports } = s := by
  unfold State.enterSuspect
  by_cases active : (s.monitor k).activeMark = true
  · rw [if_pos active, if_pos active]
    refine ⟨(State.setMonitor_monitor_self ..).trans ?_, rfl, rfl⟩
    rw [← active]
  · rw [if_neg active, if_neg active]
    exact ⟨State.setMonitor_monitor_self .., State.post_port .., rfl⟩

/-- What a try's placement leaves (R148): a CYCLE of the monitor's, the retry count raised. -/
structure State.CyclePlaced (s : State) (k : Outlet) (t : State) : Prop where
  entry : ∃ e, t.entryOf k = some e ∧ e.kind = .cycle ∧ e.origin = .monitor ∧ e.sweep = false ∧ e.tag = none ∧
    e.offTime = look s.settings.cycleOff k
  monitor : t.monitor k = { s.monitor k with placementPending := false, retries := (s.monitor k).retries + 1 }
  tripped : t.isTripped k = false
  others : ∀ j, j ≠ k → t.monitor j = s.monitor j ∧ t.isTripped j = s.isTripped j ∧ t.driver j = s.driver j
  protections : t.protections = s.protections

/-- The monitor's part of a try's placement, of the entry that takes the next free id (R148, R149). -/
def State.cycleTried (s : State) (k : Outlet) : State :=
  (s.setMonitor k { s.monitor k with placementPending := false, retries := (s.monitor k).retries + 1 }).note
    fun h => { h with tries := s.freeId :: h.tries }

theorem State.placeCycle_eq (allowed : ¬((s.driver k).fault.isSome = true ∨ s.branchShut (s.branchOf k) = true)) :
    s.placeCycle k = ((s.cycleTried k).place k .cycle .monitor false none (look s.settings.cycleOff k)).postHang k (.cycle s.freeId) :=
  if_neg allowed

theorem State.placed_cycle (s : State) (cycle : e.kind = .cycle) :
    s.placed e = ((s.setEntries (s.entries ++ [e])).setNextId (e.id + 1)).setTripped e.outlet false := by
  rw [State.placed, State.answerTrip, cycle]
  rfl

/-- What a placement of a CYCLE leaves (R70, R75, R83). -/
theorem State.place_cycle (free : s.entryOf k = none) (o : Origin) (m : Bool) (tag : Option Byte) (off : Nat)
    (placed : t = s.place k .cycle o m tag off) :
    (∃ e, t.entryOf k = some e ∧ e.kind = .cycle ∧ e.origin = o ∧ e.sweep = m ∧ e.tag = tag ∧ e.offTime = off) ∧
      t.monitors = s.monitors ∧ t.tripped = put s.tripped k false ∧ t.protections = s.protections ∧
      ∀ j, j ≠ k → t.driver j = s.driver j := by
  let e := s.newEntry k .cycle o m tag off
  have entry : (s.placed e).entryOf k = some e := State.placed_entryOf (e := e) free
  obtain ⟨⟨e', entry', same⟩, rest, drivers⟩ := State.firstStep_cycle entry rfl
  have stands := s.placed_cycle (e := e) rfl
  rw [State.place_eq] at placed
  subst placed
  refine ⟨⟨e', entry', ?_⟩, (congrArg State.monitors rest :).trans ?_, (congrArg State.tripped rest :).trans ?_,
    (congrArg State.protections rest :).trans ?_, fun j other => (drivers j other).trans ?_⟩
  · rw [same]
    exact ⟨rfl, rfl, rfl, rfl, rfl⟩
  all_goals
    rw [stands]
    rfl

theorem State.placeCycle_placed (free : s.entryOf k = none) (sound : (s.driver k).fault = none)
    (normal : (s.protection (s.branchOf k)).state = .normal) : s.CyclePlaced k (s.placeCycle k) := by
  have allowed : ¬((s.driver k).fault.isSome = true ∨ s.branchShut (s.branchOf k) = true) := by
    rintro (fault | shut)
    · rw [sound] at fault; exact absurd fault (by decide)
    · exact bne_iff_ne.mp shut normal
  obtain ⟨u, placed⟩ : ∃ u, u = (s.cycleTried k).place k .cycle .monitor false none (look s.settings.cycleOff k) := ⟨_, rfl⟩
  rw [State.placeCycle_eq allowed, ← placed]
  obtain ⟨entry, monitors, tripped, protections, drivers⟩ := State.place_cycle (s := s.cycleTried k) (k := k) free _ _ _ _ placed
  have monitor (j : Outlet) (t : State) (same : t.monitors = (s.cycleTried k).monitors) : t.monitor j =
      if j = k then { s.monitor k with placementPending := false, retries := (s.monitor k).retries + 1 } else s.monitor j := by
    rw [State.monitor, same]; exact look_put ..
  have trip (j : Outlet) (t : State) (same : t.tripped = put s.tripped k false) :
      t.isTripped j = if j = k then false else s.isTripped j := by
    rw [State.isTripped, same]; exact look_put ..
  refine ⟨entry, (monitor k _ monitors).trans (if_pos rfl), (trip k _ tripped).trans (if_pos rfl), fun j other =>
    ⟨(monitor j _ monitors).trans (if_neg other), (trip j _ tripped).trans (if_neg other), drivers j other⟩, protections⟩

/-- A try of a pending verdict at a free outlet. -/
theorem State.tryPlace_of (expired : (s.monitor k).state = .expired) (pending : (s.monitor k).placementPending = true)
    (free : s.entryOf k = none) (room : s.entries.length < 16) :
    s.tryPlace k = match s.hold k with
      | some x => s.reportHang k (.held x)
      | none => s.placeCycle k :=
  (if_pos ⟨expired, pending, free, State.hasRoom_iff.mpr room⟩).trans (by cases s.hold k <;> rfl)

theorem State.tryPlace_idle (idle : (s.monitor k).state ≠ .expired ∨ (s.monitor k).placementPending = false ∨ s.entryOf k ≠ none ∨
    16 ≤ s.entries.length ∨ s.hold k = none ∧ ((s.driver k).fault ≠ none ∨ (s.protection (s.branchOf k)).state ≠ .normal)) :
    s.tryPlace k = s := by
  by_cases tries : (s.monitor k).state = .expired ∧ (s.monitor k).placementPending = true ∧ s.entryOf k = none ∧ s.hasRoom = true
  · obtain ⟨expired, pending, free, room⟩ := tries
    have short := State.hasRoom_iff.mp room
    rw [State.tryPlace_of expired pending free short]
    rcases idle with out | calm | entry | full | ⟨unheld, barred⟩
    · exact absurd expired out
    · exact absurd (pending.symm.trans calm) (by decide)
    · exact absurd free entry
    · exact absurd short (Nat.not_lt.mpr full)
    · rw [unheld]
      exact if_pos (barred.imp Option.isSome_iff_ne_none.mpr bne_iff_ne.mpr)
  · exact if_neg tries

/-- A try at an unheld outlet leaves the other monitors and the branches. -/
theorem State.tryPlace_others (unheld : s.hold k = none) : ((s.tryPlace k).monitor k).state = (s.monitor k).state ∧
    (∀ j, j ≠ k → (s.tryPlace k).monitor j = s.monitor j) ∧ (s.tryPlace k).protections = s.protections := by
  by_cases tries : ((s.monitor k).state = .expired ∧ (s.monitor k).placementPending = true ∧ s.entryOf k = none ∧
      s.entries.length < 16) ∧ (s.driver k).fault = none ∧ (s.protection (s.branchOf k)).state = .normal
  · obtain ⟨⟨expired, pending, free, room⟩, sound, normal⟩ := tries
    have placed := State.placeCycle_placed free sound normal
    rw [State.tryPlace_of expired pending free room, unheld]
    exact ⟨by rw [placed.monitor], fun j other => (placed.others j other).1, placed.protections⟩
  · rw [State.tryPlace_idle]
    · exact ⟨rfl, fun _ _ => rfl, rfl⟩
    · by_contra none
      simp only [not_or, not_not, unheld, ne_eq, true_and, Nat.not_le, Bool.not_eq_false] at none
      exact tries ⟨⟨none.1, none.2.1, none.2.2.1, none.2.2.2.1⟩, none.2.2.2.2⟩

theorem State.giveVerdict_report (reports : look s.settings.monAction k = .report ∨ s.hold k ≠ none) :
    ∃ r, s.giveVerdict k = s.reportHang k r := by
  unfold State.giveVerdict
  cases action : look s.settings.monAction k with
  | report => exact ⟨_, rfl⟩
  | cycle =>
    cases hold : s.hold k with
    | some x => exact ⟨_, rfl⟩
    | none => exact absurd (reports.resolve_left (by rw [action]; decide)) (not_not_intro hold)

theorem State.giveVerdict_cycle (cycles : look s.settings.monAction k = .cycle) (unheld : s.hold k = none) :
    s.giveVerdict k = if (s.monitor k).retries < look s.settings.retryLimit k then
        ((s.setMonitor k { s.monitor k with state := .expired, placementPending := true }).noteTry k).tryPlace k
      else (s.setMonitor k { s.monitor k with state := .gaveUp }).post
        (.hangGaveUp k (s.monitor k).retries (s.monitor k).silence (s.monitor k).evidence (s.monitor k).spread)
        EventOrigin.nobody := by
  unfold State.giveVerdict
  rw [cycles, unheld]

/-- Settles O60. -/
theorem monitorsJudgeAndPlace : Obligations.MonitorsJudgeAndPlace := by
  refine ⟨fun k s idle => ?_, fun k s idle => ?_, fun k s high expired pending free room held => ?_, fun k s out => ?_,
    fun k s high watching silent closed free sound => ?_,
    fun k s high expired pending free room unheld sound normal _ => ?_, fun k s high grace => ⟨fun zero => ?_, fun left => ?_⟩⟩
  · refine congrArg Host.Outcome.next (State.running_id (if_neg fun due => ?_))
    obtain ⟨watching, silent, closed, free, sound⟩ := State.verdictDue_iff.mp due
    rcases idle with h | h | h | h | h
    · exact h watching
    · exact absurd silent (Nat.not_le.mpr h)
    · exact h closed
    · exact h free
    · exact h sound
  · exact congrArg Host.Outcome.next (State.running_id (State.tryPlace_idle idle))
  · obtain ⟨y, hold⟩ := Option.ne_none_iff_exists'.mp held
    have tried : s.tryPlace k = s.reportHang k (.held y) := by
      rw [State.tryPlace_of expired pending free room, hold]
    obtain ⟨own, rest⟩ := s.reportHang_report k (.held y)
    have acts : Acts s (s.reportHang k (.held y)) := tried ▸ (Acts.refl s).tryPlace k
    exact ⟨_, congrArg Host.Outcome.next ((State.running_high high).trans tried), own, rest, acts.only⟩
  · exact congrArg Host.Outcome.next (State.running_id (if_neg fun h => out h.1))
  · have due : s.verdictDue k = true := State.verdictDue_iff.mpr ⟨watching, silent, closed, free, sound⟩
    have acts : Acts s (s.verdictTest k) := (Acts.refl s).verdictTest k
    have exec : exec (.verdict k) s = .next (s.verdictTest k) := congrArg Host.Outcome.next (State.running_high high)
    have tested : s.verdictTest k = if s.stallPasses k then s.giveVerdict k else s.enterSuspect k := if_pos due
    rw [exec]
    refine ⟨fun fails => ?_, fun stalls reports => ?_, fun stalls cycles unheld spent => ?_, fun stalls cycles unheld left => ?_⟩
    · rw [if_neg (mt State.stallPasses_iff.mp fails)] at tested
      rw [tested] at acts ⊢
      exact ⟨_, rfl, (s.enterSuspect_post k .a).1, fun x => (s.enterSuspect_post k x).2.1, (s.enterSuspect_post k .a).2.2, acts.only⟩
    all_goals rw [if_pos (State.stallPasses_iff.mpr stalls)] at tested
    · obtain ⟨r, report⟩ := State.giveVerdict_report reports
      rw [tested, report] at acts ⊢
      obtain ⟨own, rest⟩ := s.reportHang_report k r
      exact ⟨_, rfl, own, rest, acts.only⟩
    · rw [tested, State.giveVerdict_cycle cycles unheld, if_neg (Nat.not_lt.mpr spent)] at acts ⊢
      exact ⟨_, rfl, (s.setMonitor_post ..).1, (s.setMonitor_post ..).2, acts.only⟩
    · rw [tested, State.giveVerdict_cycle cycles unheld, if_pos left] at acts ⊢
      let pending := (s.setMonitor k { s.monitor k with state := .expired, placementPending := true }).noteTry k
      obtain ⟨own, others, protections⟩ := State.tryPlace_others (s := pending) (k := k) unheld
      refine ⟨_, rfl, own.trans (congrArg Monitor.state (State.setMonitor_monitor_self ..)),
        fun j other => (others j other).trans (look_put_other _ _ other), protections, ?_, acts.only⟩
      exact congrArg Host.Outcome.next (State.running_high (s := pending) high)
  · have placed := State.placeCycle_placed free sound normal
    have tried : s.tryPlace k = s.placeCycle k := by rw [State.tryPlace_of expired pending free room, unheld]
    have acts : Acts s (s.placeCycle k) := tried ▸ (Acts.refl s).tryPlace k
    obtain ⟨e, entry, kind, origin, sweep, tag, off⟩ := placed.entry
    exact ⟨_, e, congrArg Host.Outcome.next ((State.running_high high).trans tried), entry, kind, origin, sweep, tag, off,
      placed.tripped, placed.monitor, placed.others, placed.protections, acts.only⟩
  · exact congrArg Host.Outcome.next ((State.running_high high).trans ((if_pos ⟨grace, zero⟩).trans (by
      rw [Monitor.expireGrace, Monitor.clearEvidence, ← zero])))
  · exact congrArg Host.Outcome.next (State.running_id (if_neg fun h => (Nat.ne_of_gt left) h.2))

end Sys2Proof.Machine

/-! PROOF. The head of a line and an entry's way through its phases (O57). -/

namespace Sys2Proof.Machine

variable {s t u : State} {x : Link} {k : Outlet} {b : Branch} {e : Entry} {id : Byte} {rest : List Byte}

/-! ### The head of a line -/

theorem exec_admission (high : s.resetHeld = false) (b : Branch) : exec (.admission b) s = .next (s.testHead b) :=
  congrArg Host.Outcome.next (State.running_high high)

theorem State.modEntry_entryById (s : State) (id : Byte) {f : Entry → Entry} (keeps : ∀ e, (f e).id = e.id) (i : Byte) :
    (s.modEntry id f).entryById i = (s.entryById i).map fun e => if e.id = id then f e else e := by
  have same : ((fun e : Entry => e.id == i) ∘ fun e => if e.id == id then f e else e) = fun e => e.id == i := by
    funext e
    rw [Function.comp_apply]
    split
    · rw [keeps]
    · rfl
  rw [State.entryById, State.modEntry, State.setEntries_entries, List.find?_map, same]
  simp only [beq_iff_eq]
  rfl

theorem State.headroom_iff : s.headroom b k = true ↔ look s.settings.branchLimit b = 0 ∨
    (s.protection b).sum.getD 0 + (s.meter k).remembered ≤ look s.settings.branchLimit b := by
  rw [State.headroom, Bool.or_eq_true, beq_iff_eq, decide_eq_true_iff]

theorem State.testHead_of (line : (s.sequencer b).line = id :: rest) (entry : s.entryById id = some e) :
    s.testHead b = match s.blockReason b e.outlet with
      | .none => s.admitHead b id rest e.outlet
      | r => s.setSequencer b { s.sequencer b with reason := r } := by
  simp only [State.testHead, line, entry] <;> cases s.blockReason b e.outlet <;> rfl

theorem State.testHead_blocked (line : (s.sequencer b).line = id :: rest) (entry : s.entryById id = some e)
    (blocked : s.blockReason b e.outlet ≠ .none) :
    s.testHead b = s.setSequencer b { s.sequencer b with reason := s.blockReason b e.outlet } := by
  rw [State.testHead_of line entry]
  split
  · next h => exact absurd h blocked
  · rfl

theorem State.testHead_admits (line : (s.sequencer b).line = id :: rest) (entry : s.entryById id = some e)
    (free : s.blockReason b e.outlet = .none) : s.testHead b = s.admitHead b id rest e.outlet := by
  rw [State.testHead_of line entry, free]

/-- What an admission leaves (R98, R108). -/
structure State.Admitted (s : State) (b : Branch) (id : Byte) (rest : List Byte) (k : Outlet) (t : State) : Prop where
  line : (t.sequencer b).line = rest
  inProgress : (t.sequencer b).inProgress = some id
  pulseMark : (t.sequencer b).pulseMark = false
  entries : t.entries = (s.modEntry id fun e => { e with phase := .closing, begun := true }).entries
  step : ∃ st, (t.driver k).step = some st ∧ st.direction = .close ∧ st.source = .entry ∧
    st.delay = look s.settings.closeDelay k ∧ st.pulse = look s.settings.pulseLength k
  drivers : ∀ j, j ≠ k → t.driver j = s.driver j

theorem State.admitHead_admitted (s : State) (b : Branch) (id : Byte) (rest : List Byte) (k : Outlet) :
    s.Admitted b id rest k (s.admitHead b id rest k) where
  line := congrArg Sequencer.line (look_put_self ..)
  inProgress := congrArg Sequencer.inProgress (look_put_self ..)
  pulseMark := congrArg Sequencer.pulseMark (look_put_self ..)
  entries := rfl
  step := ⟨_, congrArg Driver.step (look_put_self ..), rfl, rfl, rfl, rfl⟩
  drivers _ other := look_put_other _ _ other

/-! ### Joining the line -/

/-- Where an entry that joins its line stands: in the line, or admitted at once (R94, R101). -/
theorem State.joinLine_ends (entry : s.entryOf k = some e) (distinct : s.EntriesDistinct) :
    ∃ e', (s.joinLine e).entryOf k = some e' ∧
      (e'.phase = .waitAdmit ∧ e.id ∈ ((s.joinLine e).sequencer (s.branchOf k)).line ∨ e'.phase = .closing) := by
  have outlet := State.outlet_of_entryOf entry
  let line := s.lineWith e (s.sequencer (s.branchOf e.outlet)).line
  let joined := (s.modEntry e.id fun x => { x with phase := .waitAdmit }).setSequencer (s.branchOf e.outlet)
    { s.sequencer (s.branchOf e.outlet) with line := line }
  have waits : joined.entryOf k = some { e with phase := .waitAdmit } := State.modEntry_own entry fun _ => rfl
  have inLine (reason : BlockReason) : e.id ∈ ((joined.setSequencer (s.branchOf e.outlet)
      { joined.sequencer (s.branchOf e.outlet) with reason := reason }).sequencer (s.branchOf k)).line := by
    rw [← outlet, State.setSequencer_sequencer, if_pos rfl]
    show e.id ∈ (joined.sequencer (s.branchOf e.outlet)).line
    rw [State.setSequencer_sequencer, if_pos rfl]
    exact (s.lineWith_perm e _).mem_iff.mpr (List.mem_cons_self ..)
  have stays : joined.setSequencer (s.branchOf e.outlet) { joined.sequencer (s.branchOf e.outlet) with
      reason := (joined.sequencer (s.branchOf e.outlet)).reason } = joined := joined.setSequencer_self _
  have eq : s.joinLine e = if line.head? = some e.id then joined.testHead (s.branchOf e.outlet) else joined := rfl
  rw [eq]
  by_cases first : line.head? = some e.id
  · rw [if_pos first]
    obtain ⟨rest, head⟩ : ∃ rest, line = e.id :: rest := by
      cases h : line with
      | nil => rw [h] at first; exact absurd first nofun
      | cons i rest => rw [h] at first; exact ⟨rest, by rw [Option.some.inj first]⟩
    have head' : (joined.sequencer (s.branchOf e.outlet)).line = e.id :: rest := by
      rw [State.setSequencer_sequencer, if_pos rfl]; exact head
    have found : joined.entryById e.id = some { e with phase := .waitAdmit } := by
      have live : s.entryById e.id = some e := by
        obtain ⟨e', h⟩ := Option.isSome_iff_exists.mp (List.find?_isSome (p := fun x : Entry => x.id == e.id).mpr
          ⟨e, State.mem_of_entryOf entry, beq_self_eq_true _⟩)
        have same := distinct.eq_of_id (State.mem_of_entryById h) (State.mem_of_entryOf entry) (State.id_of_entryById (id := e.id) h)
        exact same ▸ h
      refine (s.modEntry_entryById e.id (f := fun x => { x with phase := .waitAdmit }) (fun _ => rfl) e.id).trans ?_
      rw [live, Option.map_some, if_pos rfl]
    by_cases free : joined.blockReason (s.branchOf e.outlet) e.outlet = .none
    · rw [State.testHead_admits head' found free]
      have admitted := joined.admitHead_admitted (s.branchOf e.outlet) e.id rest e.outlet
      let closes (x : Entry) : Entry := { x with phase := .closing, begun := true }
      have closing : (joined.modEntry e.id closes).entryOf k = some (closes { e with phase := .waitAdmit }) :=
        State.modEntry_own (e := { e with phase := .waitAdmit }) waits fun _ => rfl
      exact ⟨_, (congrArg (fun es : List Entry => es.find? fun x : Entry => x.outlet == k) admitted.entries).trans closing, .inr rfl⟩
    · rw [State.testHead_blocked head' found free]
      exact ⟨_, waits, .inl ⟨rfl, inLine _⟩⟩
  · rw [if_neg first, ← stays]
    exact ⟨_, waits, .inl ⟨rfl, inLine _⟩⟩

/-! ### The first step -/

/-- The sequencer's part of the completion of an entry in QUEUED is none (R94, R98). -/
theorem State.complete_apart (entry : s.entryOf k = some e) (distinct : s.EntriesDistinct) (lines : s.LinesLive)
    (apart : e.phase ≠ .waitAdmit ∧ e.phase ≠ .closing) (r : ActionResult) (d : ResultDetail) :
    s.complete e r d = s.ended e r d := by
  rw [State.complete_eq]
  obtain ⟨-, waiting, closing⟩ := lines (s.branchOf e.outlet)
  have own (e' : Entry) (live : e' ∈ s.entries) (same : e'.id = e.id) : e' = e :=
    distinct.eq_of_id live (State.mem_of_entryOf entry) same
  have notClosing : ¬(s.sequencer (s.branchOf e.outlet)).inProgress = some e.id := by
    intro h
    obtain ⟨e', live, same, phase, -⟩ := closing _ h
    exact apart.2 (own e' live same ▸ phase)
  have notWaiting : ¬(s.sequencer (s.branchOf e.outlet)).line.contains e.id = true := by
    intro h
    obtain ⟨e', live, same, phase, -⟩ := waiting _ (List.contains_iff_mem.mp h)
    exact apart.1 (own e' live same ▸ phase)
  exact (if_neg notClosing).trans (if_neg notWaiting)

theorem State.firstStep_of (entry : s.entryOf k = some e) (queued : e.phase = .queued) (idle : (s.driver k).state = .idle) :
    s.firstStep k = s.stepEntry e := by
  simp only [State.firstStep, entry, queued, idle, and_self, if_true]

theorem State.firstStep_idle (idle : (s.driver k).state ≠ .idle ∨ ∀ e, s.entryOf k = some e → e.phase ≠ .queued) :
    s.firstStep k = s := by
  unfold State.firstStep
  split
  · rfl
  · next e entry => exact if_neg fun h => idle.elim (fun out => out h.2) fun out => out e entry h.1

theorem State.offHoldTurn_idle (idle : ∀ e, s.entryOf k = some e → ¬(e.phase = .offHold ∧ e.offHold = 0)) :
    s.offHoldTurn k = s := by
  unfold State.offHoldTurn
  split
  · rfl
  · next e entry => exact if_neg (idle e entry)

/-- What an open step handed over leaves of its driver (R108). -/
theorem State.startOpening_driver (s : State) (e : Entry) (k : Outlet) (own : e.outlet = k) :
    ((s.startOpening e).driver k).state = (if (s.tracker (s.feedOf k)).state = .tracking then .waitPhase else .waitSlot) ∧
      (∃ st, ((s.startOpening e).driver k).step = some st ∧ st.direction = .opening ∧ st.delay = look s.settings.openDelay k) ∧
      ∀ j, j ≠ k → (s.startOpening e).driver j = s.driver j := by
  subst own
  refine ⟨(congrArg Driver.state (look_put_self ..)).trans ?_, ⟨_, congrArg Driver.step (look_put_self ..), rfl, rfl⟩,
    fun j other => look_put_other _ _ other⟩
  show (if (s.newStep e.outlet .opening .entry).sync = true then DriverState.waitPhase else .waitSlot) = _
  simp only [State.newStep, State.isTracking, beq_iff_eq]

/-- Settles O57. -/
theorem entriesMoveThroughPhases : Obligations.EntriesMoveThroughPhases := by
  refine ⟨fun b id rest e s high line entry => ⟨fun allowed none ready room => ?_, ?_⟩, fun b s high line => ?_, fun k s idle => ?_,
    fun k s out => ?_, fun k e s high entry queued idle distinct => ?_, fun k e s high entry holding distinct => ⟨fun left => ?_, fun zero => ?_⟩⟩
  · have free : s.blockReason b e.outlet = .none := by
      have open' : ¬((s.protection b).state ≠ .normal ∧ (s.protection b).state ≠ .restoring) := fun h => allowed.elim h.1 h.2
      simp only [State.blockReason, open', none, Nat.not_lt.mpr ready, State.headroom_iff.mpr room, if_false, if_true,
        Option.isSome_none, Bool.false_eq_true]
    have admitted := s.admitHead_admitted b id rest e.outlet
    have eq := State.testHead_admits line entry free
    have acts : Acts s (s.testHead b) := (Acts.refl s).testHead b
    have found : (s.admitHead b id rest e.outlet).entryById id = some { e with phase := .closing, begun := true } := by
      refine (congrArg (fun es : List Entry => es.find? fun x : Entry => x.id == id) admitted.entries).trans ?_
      refine (s.modEntry_entryById id (f := fun x => { x with phase := .closing, begun := true }) (fun _ => rfl) id).trans ?_
      rw [entry, Option.map_some, if_pos (State.id_of_entryById entry)]
    rw [exec_admission high, eq]
    exact ⟨_, _, rfl, admitted.line, admitted.inProgress, admitted.pulseMark, found, rfl, rfl, admitted.step, admitted.drivers, rfl,
      (eq ▸ acts).sameOutside⟩
  · intro shut early overloaded blocked
    have sets (reason : BlockReason) (bars : reason ≠ .none) (why : s.blockReason b e.outlet = reason) : blocked reason := by
      show exec (.admission b) s = _
      rw [exec_admission high, State.testHead_blocked line entry (why ▸ bars), why]
    have shut_iff : shut ↔ (s.protection b).state ≠ .normal ∧ (s.protection b).state ≠ .restoring := not_or
    refine ⟨fun h => sets .state nofun ?_, fun h busy => sets .inProgress nofun ?_, fun h none soon => sets .stagger nofun ?_,
      fun h none late loaded => sets .headroom nofun ?_⟩
    · exact if_pos (shut_iff.mp h)
    · exact (if_neg (mt shut_iff.mpr h)).trans (if_pos (Option.isSome_iff_ne_none.mpr busy))
    · refine (if_neg (mt shut_iff.mpr h)).trans ((if_neg ?_).trans (if_pos soon))
      rw [none]; decide
    · refine (if_neg (mt shut_iff.mpr h)).trans ((if_neg ?_).trans ((if_neg late).trans (if_neg fun room => ?_)))
      · rw [none]; decide
      · exact (State.headroom_iff.mp room).elim loaded.1 (Nat.not_le.mpr loaded.2)
  · rw [exec_admission high]
    simp only [State.testHead, line]
  · exact congrArg Host.Outcome.next (State.running_id (State.firstStep_idle idle))
  · exact congrArg Host.Outcome.next (State.running_id (State.offHoldTurn_idle fun e entry h => out e entry h.1))
  · have outlet := State.outlet_of_entryOf entry
    have acts : Acts s (s.firstStep k) := (Acts.refl s).firstStep k
    have step := State.firstStep_of entry queued idle
    have contact : s.contact e.outlet = s.contact k := congrArg s.contact outlet
    have exec : exec (.firstStep k) s = .next (s.stepEntry e) := (exec_firstStep high k).trans (congrArg _ step)
    rw [step] at acts
    have opens (away : s.contact k ≠ .opened) (eq : s.stepEntry e = s.startOpening e) :
        ∃ t e', Machine.exec (.firstStep k) s = .next t ∧ t.entryOf k = some e' ∧ e'.phase = .opening ∧ e'.begun = true ∧
          (t.driver k).state = (if (s.tracker (s.feedOf k)).state = .tracking then .waitPhase else .waitSlot) ∧
          (∃ st, (t.driver k).step = some st ∧ st.direction = .opening ∧ st.delay = look s.settings.openDelay k) ∧
          (∀ j, j ≠ k → t.driver j = s.driver j) ∧ t.ports = s.ports ∧ s.SameOutside t := by
      obtain ⟨state, steps, others⟩ := s.startOpening_driver e k outlet
      have same := acts.sameOutside
      rw [eq] at same exec
      exact ⟨_, _, exec, State.modEntry_own (f := fun x => { x with phase := .opening, begun := true }) entry fun _ => rfl,
        rfl, rfl, state, steps, others, rfl, same⟩
    refine ⟨fun there => ?_, fun kind away => opens away ?_, fun cycle opened => ?_, fun closing away => ?_⟩
    · have ends : s.stepEntry e = s.complete e .done .noPulse := by
        rcases there with ⟨kind, at'⟩ | ⟨kind, at'⟩
        · rw [State.stepEntry_opening kind, contact, if_pos at']
        · rw [State.stepEntry_closing kind, contact, if_pos at']
      have stepOnly : s.StepOnly (s.complete e .done .noPulse) := (State.StepOnly.refl s).complete ..
      rw [ends] at acts exec
      refine ⟨_, exec, State.complete_entryOf entry distinct .done .noPulse, stepOnly.contact k, acts.only, fun lines => ?_⟩
      exact State.complete_apart entry distinct lines ⟨by rw [queued]; decide, by rw [queued]; decide⟩ _ _
    · rcases kind with kind | kind
      · rw [State.stepEntry_opening kind, contact, if_neg away]
      · rw [State.stepEntry_cycle kind, contact, if_neg away]
    · rw [State.stepEntry_cycle cycle, contact, if_pos opened] at exec
      exact ⟨_, _, exec, State.modEntry_own (f := fun x => { x with phase := .offHold, begun := true, offHold := x.offTime })
        entry fun _ => rfl, rfl, rfl, rfl, rfl⟩
    · have joins : s.stepEntry e = s.joinLine e := by rw [State.stepEntry_closing closing, contact, if_neg away]
      rw [joins] at acts exec
      obtain ⟨e', entry', where'⟩ := State.joinLine_ends entry distinct
      have line : s.LineOnly (s.joinLine e) := (State.LineOnly.refl s).joinLine e
      exact ⟨_, e', exec, entry', line.ports, acts.sameOutside, where'⟩
  · refine congrArg Host.Outcome.next (State.running_id (State.offHoldTurn_idle fun e' entry' h => ?_))
    rw [entry] at entry'
    exact Nat.ne_of_gt left (Option.some.inj entry' ▸ h.2)
  · have turn : s.offHoldTurn k = (s.noteReturn e.id).joinLine e := by
      simp only [State.offHoldTurn, entry, holding, zero, and_self, if_true]
    have acts : Acts s (s.offHoldTurn k) := (Acts.refl s).offHoldTurn k
    have line : (s.noteReturn e.id).LineOnly ((s.noteReturn e.id).joinLine e) := (State.LineOnly.refl _).joinLine e
    obtain ⟨e', entry', where'⟩ := State.joinLine_ends (s := s.noteReturn e.id) entry distinct
    rw [turn] at acts
    exact ⟨_, e', congrArg Host.Outcome.next ((State.running_high high).trans turn), entry', line.ports, acts.sameOutside, where'⟩

end Sys2Proof.Machine

/-! PROOF. How a step ends, and the end of a verify window (O59). -/

namespace Sys2Proof.Machine

variable {s t u : State} {x : Link} {k : Outlet} {b : Branch} {e : Entry} {id : Byte} {st : Step} {how : HowSet}

/-! ### The driver of an outlet without an entry -/

theorem State.outlet_ne_of_none (none : s.entryOf k = none) (live : e ∈ s.entries) : e.outlet ≠ k :=
  fun same => State.entryOf_none none (same ▸ List.mem_map_of_mem live)

theorem State.testHead_driver (none : s.entryOf k = none) (b : Branch) : (s.testHead b).driver k = s.driver k := by
  unfold State.testHead
  split
  · rfl
  · split
    · rfl
    · next e entry =>
      split
      · exact look_put_other _ _ (State.outlet_ne_of_none none (State.mem_of_entryById entry)).symm
      · rfl

theorem State.sequencerCompletion_driver (none : s.entryOf k = none) (b : Branch) (id : Byte) :
    (s.sequencerCompletion b id).driver k = s.driver k := by
  unfold State.sequencerCompletion State.endClose State.leaveLine
  dsimp only
  split
  · exact State.testHead_driver (s := s.setSequencer b _) none b
  · split
    · split
      · exact State.testHead_driver (s := s.setSequencer b _) none b
      · rfl
    · rfl

theorem State.ended_entryOf (entry : s.entryOf k = some e) (distinct : s.EntriesDistinct) (r : ActionResult) (d : ResultDetail) :
    (s.ended e r d).entryOf k = none := by
  refine List.find?_eq_none.mpr fun e' live => ?_
  obtain ⟨live, other⟩ := List.mem_filter.mp live
  rw [beq_iff_eq]
  intro same
  have eq := distinct.eq_of_outlet live (State.mem_of_entryOf entry) (same.trans (State.outlet_of_entryOf entry).symm)
  exact bne_iff_ne.mp other (congrArg Entry.id eq)

/-- The completion of an outlet's entry leaves the outlet's driver alone. -/
theorem State.complete_driver (entry : s.entryOf k = some e) (distinct : s.EntriesDistinct) (r : ActionResult) (d : ResultDetail) :
    (s.complete e r d).driver k = s.driver k := by
  rw [State.complete_eq]
  exact State.sequencerCompletion_driver (s := s.ended e r d) (State.ended_entryOf entry distinct r d) _ _

/-! ### A head that is barred -/

/-- The test of a head changes the blocking reason alone where the branch is neither NORMAL nor RESTORING (R97). -/
theorem State.testHead_shut (shut : (s.protection b).state ≠ .normal ∧ (s.protection b).state ≠ .restoring) :
    ∃ r, s.testHead b = s.setSequencer b { s.sequencer b with reason := r } := by
  cases line : (s.sequencer b).line with
  | nil => exact ⟨.none, by simp only [State.testHead, line]⟩
  | cons id rest =>
    cases entry : s.entryById id with
    | none => exact ⟨_, (by simp only [State.testHead, line, entry] : s.testHead b = s).trans (s.setSequencer_self b).symm⟩
    | some e =>
      have barred : s.blockReason b e.outlet = .state := if_pos shut
      exact ⟨_, State.testHead_blocked line entry (by rw [barred]; decide)⟩

/-! ### The end of a step -/

/-- The driver free, the contact the commanded one, and OUTLET_SWITCHED (R115, R116). -/
def State.switched (s : State) (k : Outlet) (st : Step) (how : HowSet) : State :=
  ((s.driverFree k).moved k st.direction.target).told (.outletSwitched k st.direction.target how) (s.stepOrigin k st.source)

theorem State.stepOrigin_entry (entry : s.entryOf k = some e) (own : st.source = .entry) :
    s.stepOrigin k st.source = { origin := some e.origin, sweep := e.sweep, tag := e.tag } := by
  simp only [State.stepOrigin, own, entry]
  rfl

theorem State.reportEnd_entry (entry : s.entryOf k = some e) (how : HowSet) : s.reportEnd k .entry how =
    if e.kind = .cycle ∧ e.phase = .opening then s.startOffHold e else s.complete e .done how.detail := by
  simp only [State.reportEnd, entry]

theorem State.reportEnd_urgent (entry : s.entryOf k = some e) (m : UrgentMode) (how : HowSet) : s.reportEnd k (.urgent m) how =
    if s.triedNow e.id then s.complete e .preempted .none else s := by
  simp only [State.reportEnd, entry]

theorem State.reportEnd_none (none : s.entryOf k = none) (source : StepSource) (how : HowSet) : s.reportEnd k source how = s := by
  cases source <;> simp only [State.reportEnd, none]

/-- A completion is what `CloseEnds` says where its entry stands in no line. -/
theorem State.complete_closeEnds (high : s.resetHeld = false) (entry : s.entryOf k = some e)
    (out : e.id ∉ (s.sequencer (s.branchOf k)).line) (r : ActionResult) (d : ResultDetail) :
    (s.ended e r d).CloseEnds (s.branchOf k) e.id (s.complete e r d) := by
  have outlet := State.outlet_of_entryOf entry
  subst outlet
  rw [State.complete_eq]
  exact State.closeEnds_of (s := s.ended e r d) high out

theorem State.stepOrigin_urgent (urgent : st.source ≠ .entry) : s.stepOrigin k st.source = EventOrigin.nobody := by
  unfold State.stepOrigin
  split
  · next h _ => exact absurd h urgent
  · rfl

/-- A step's end where the outlet's entry is not the head of the line. -/
theorem State.endStep_eq (apart : ((s.sequencer (s.branchOf k)).line.head?.bind s.entryById).map (·.outlet) ≠ some k) :
    s.endStep k st how = ((s.switched k st how).reportEnd k st.source how).firstStep k := by
  have moved : (s.setDriver k (s.driver k).idle).setContact k st.direction.contact =
      (s.driverFree k).moved k st.direction.target := by
    rw [State.setContact_eq (s := s.setDriver k (s.driver k).idle) apart, Direction.contact_eq]
    rfl
  unfold State.endStep
  dsimp only
  rw [moved, Direction.contact_eq]
  rfl

theorem State.StepOnly.reportEnd (h : s.StepOnly t) (k : Outlet) (source : StepSource) (how : HowSet) :
    s.StepOnly (t.reportEnd k source how) := by
  unfold State.reportEnd
  split
  · exact .ite (h.modEntry ..) (h.complete ..)
  · exact .ite (h.complete ..) h
  · exact h

/-- A step's end changes what a contact's change and the end of an entry change. -/
theorem State.endStep_step (s : State) (k : Outlet) (st : Step) (how : HowSet) :
    ((s.driverFree k).moved k st.direction.target).StepOnly (s.endStep k st how) := by
  rw [← Direction.contact_eq]
  exact ((((s.driverFree k).setContact_step k st.direction.contact).post ..).reportEnd ..).firstStep k

theorem State.endStep_contact (s : State) (k : Outlet) (st : Step) (how : HowSet) :
    (s.endStep k st how).contact k = if st.direction = .close then .closed else .opened := by
  rw [(s.endStep_step k st how).contact, State.contact, State.moved_driver, if_pos rfl]
  rfl

/-- A step's end is what `StepEnds` says (R77, R79, R115, R116). -/
theorem State.endStep_ends (high : s.resetHeld = false) (distinct : s.EntriesDistinct) (lines : s.LinesLive)
    (k : Outlet) (st : Step) (how : HowSet) : s.StepEnds k st how (s.endStep k st how) := by
  have ends (out : ∀ e, s.entryOf k = some e → e.phase ≠ .waitAdmit) :
      s.endStep k st how = ((s.switched k st how).reportEnd k st.source how).firstStep k :=
    State.endStep_eq (State.head_apart lines distinct out _)
  have outOf {e : Entry} (entry : s.entryOf k = some e) (out : e.phase ≠ .waitAdmit) :
      ∀ e, s.entryOf k = some e → e.phase ≠ .waitAdmit := fun e' entry' =>
    Option.some.inj (entry.symm.trans entry') ▸ out
  have distinct' : (s.switched k st how).EntriesDistinct := distinct
  refine ⟨fun e entry own cycle opening => ?_, fun e entry own phase => ?_, fun urgent none => ?_, fun e urgent entry queued fresh => ?_⟩
  · have entry' : (s.switched k st how).entryOf k = some e := entry
    have offHold : ((s.switched k st how).startOffHold e).entryOf k = some { e with phase := .offHold, begun := true, offHold := e.offTime } :=
      State.modEntry_own (f := fun x => { x with phase := .offHold, begun := true, offHold := x.offTime }) entry' fun _ => rfl
    rw [ends (outOf entry (by rw [opening]; decide)), own, State.reportEnd_entry entry', if_pos ⟨cycle, opening⟩,
      State.firstStep_idle (.inr fun e' at' => Option.some.inj (offHold.symm.trans at') ▸ nofun)]
    have entries : s.entries.map (fun e' => if e'.id = e.id then { e with phase := .offHold, begun := true, offHold := e.offTime } else e') =
        s.entries.map fun e' => if e'.id == e.id then { e' with phase := .offHold, begun := true, offHold := e'.offTime } else e' := by
      refine List.map_congr_left fun e' live => ?_
      simp only [beq_iff_eq]
      split
      · next same => rw [distinct.eq_of_id live (State.mem_of_entryOf entry) same]
      · rfl
    rw [entries, State.startOffHold, State.switched, State.stepOrigin_entry entry own]
    rfl
  · have entry' : (s.switched k st how).entryOf k = some e := entry
    have waits : e.phase ≠ .waitAdmit := by rcases phase with h | ⟨h, -⟩ <;> rw [h] <;> decide
    have notCycle : ¬(e.kind = .cycle ∧ e.phase = .opening) := by
      rintro ⟨cycle, opening⟩
      rcases phase with h | ⟨-, h⟩
      · exact absurd (h.symm.trans opening) (by decide)
      · exact h cycle
    have detail : how.detail = if how = .unverified then .unverified else .none := by cases how <;> rfl
    have gone := State.complete_entryOf entry' distinct' .done how.detail
    have out : e.id ∉ ((s.switched k st how).sequencer ((s.switched k st how).branchOf k)).line := by
      intro inLine
      obtain ⟨e', live, same, phase', -⟩ := (lines (s.branchOf k)).2.1 _ inLine
      exact waits (distinct.eq_of_id live (State.mem_of_entryOf entry) same ▸ phase')
    have closes := State.complete_closeEnds (s := s.switched k st how) high entry' out .done how.detail
    rw [ends (outOf entry waits), own, State.reportEnd_entry entry', if_neg notCycle,
      State.firstStep_idle (.inr fun e' at' => absurd (gone.symm.trans at') nofun)]
    rw [detail] at closes ⊢
    unfold State.switched at closes ⊢
    rwa [State.stepOrigin_entry entry own] at closes ⊢
  · have none' : (s.switched k st how).entryOf k = Option.none := none
    rw [ends fun e entry => absurd (none.symm.trans entry) nofun, State.reportEnd_none none',
      State.firstStep_idle (.inr fun e entry => absurd (none'.symm.trans entry) nofun), State.switched,
      State.stepOrigin_urgent urgent]
  · have entry' : (s.switched k st how).entryOf k = some e := entry
    have fresh' : ¬(s.switched k st how).triedNow e.id = true := Bool.eq_false_iff.mp fresh
    have reports : (s.switched k st how).reportEnd k st.source how = s.switched k st how := by
      cases source : st.source with
      | entry => exact absurd source urgent
      | urgent m => rw [State.reportEnd_urgent entry', if_neg fresh']
    rw [ends (outOf entry (by rw [queued]; decide)), reports, ← exec_firstStep (s := s.switched k st how) high, State.switched,
      State.stepOrigin_urgent urgent]

/-! ### Relay faults and withdrawals -/

/-- A relay fault shown, told and with its verdict withdrawn (R118, R149). -/
def State.faultTold (s : State) (k : Outlet) (f : RelayFault) (source : EventOrigin) : State :=
  let shown := (s.setDriver k { (s.driverFree k).driver k with state := .faulted, fault := some f }).moved k f.contact
  (shown.setMonitor k (shown.monitor k).withdrawn).told (.relayFault k f false) source

theorem State.declareFault_eq (apart : ((s.sequencer (s.branchOf k)).line.head?.bind s.entryById).map (·.outlet) ≠ some k) :
    s.declareFault k st = (s.faultTold k st.direction.fault (s.stepOrigin k st.source)).failEntry k st.direction.fault := by
  have free : (s.driverFree k).driver k = (s.driver k).idle := look_put_self ..
  have moved := State.setContact_eq (s := s.setDriver k { (s.driver k).idle with state := .faulted, fault := some st.direction.fault })
    (k := k) (c := st.direction.fault.contact) apart
  unfold State.declareFault State.faultTold
  dsimp only
  rw [moved, free]
  rfl

theorem State.faultTold_driver (s : State) (k : Outlet) (f : RelayFault) (source : EventOrigin) :
    (s.faultTold k f source).driver k = { (s.driver k).idle with state := .faulted, fault := some f, contact := f.contact } := by
  have free : (s.driverFree k).driver k = (s.driver k).idle := look_put_self ..
  refine (State.moved_driver _ k f.contact k).trans ((if_pos rfl).trans ?_)
  rw [State.setDriver_driver, if_pos rfl, free]

theorem State.failEntry_of (entry : s.entryOf k = some e) (f : RelayFault) : s.failEntry k f = s.complete e .failed f.detail := by
  simp only [State.failEntry, entry]

theorem State.failEntry_none (none : s.entryOf k = none) (f : RelayFault) : s.failEntry k f = s := by
  simp only [State.failEntry, none]

/-- The driver of a faulted outlet keeps what the fault left, and the outlet's entry is gone. -/
theorem State.failEntry_driver (distinct : s.EntriesDistinct) (k : Outlet) (f : RelayFault) :
    (s.failEntry k f).driver k = s.driver k ∧ (s.failEntry k f).entryOf k = none := by
  cases entry : s.entryOf k with
  | none => rw [State.failEntry_none entry]; exact ⟨rfl, entry⟩
  | some e =>
    rw [State.failEntry_of entry]
    exact ⟨State.complete_driver entry distinct .., State.complete_entryOf entry distinct ..⟩

/-- No entry of an outlet stands in the line whose entry's id is not in it. -/
theorem State.head_apart_of_out (distinct : s.EntriesDistinct) (b : Branch)
    (out : ∀ e, s.entryOf k = some e → e.id ∉ (s.sequencer b).line) :
    ((s.sequencer b).line.head?.bind s.entryById).map (·.outlet) ≠ some k := by
  intro head
  obtain ⟨e, found, outlet⟩ := Option.map_eq_some_iff.mp head
  obtain ⟨id, first, entry⟩ := Option.bind_eq_some_iff.mp found
  have same := State.id_of_entryById entry
  exact out e (outlet ▸ distinct.entryOf (State.mem_of_entryById entry)) (same ▸ List.mem_of_mem_head? first)

/-- What a withdrawn close leaves (R102): its entry first in the line, its driver free and the branch without a close in
progress. -/
structure State.Withdrawn (s : State) (k : Outlet) (e : Entry) (t : State) : Prop where
  entry : t.entryOf k = some { e with phase := .waitAdmit }
  head : (t.sequencer (s.branchOf k)).line.head? = some e.id
  inProgress : (t.sequencer (s.branchOf k)).inProgress = none
  stagger : (t.sequencer (s.branchOf k)).stagger =
    if (s.sequencer (s.branchOf k)).pulseMark = true then 0 else (s.sequencer (s.branchOf k)).stagger
  driver : ∀ j, t.driver j = if j = k then (s.driver k).idle else s.driver j
  ports : t.ports = s.ports

theorem State.endClose_shut (shut : (s.protection b).state ≠ .normal ∧ (s.protection b).state ≠ .restoring) (q : Sequencer) :
    ∃ r, (s.setSequencer b q).endClose b = s.setSequencer b { q.endClose with reason := r } := by
  obtain ⟨r, tested⟩ := State.testHead_shut (s := (s.setSequencer b q).setSequencer b ((s.setSequencer b q).sequencer b).endClose) shut
  refine ⟨r, tested.trans ?_⟩
  rw [State.setSequencer_setSequencer, State.setSequencer_setSequencer, State.setSequencer_sequencer, if_pos rfl,
    State.setSequencer_sequencer, if_pos rfl]

/-- The queue and the driver of a close that is withdrawn (R102). -/
def State.closeGivenUp (s : State) (k : Outlet) (e : Entry) : State :=
  ((s.giveUp k).modEntry e.id fun x => { x with phase := .waitAdmit }).note fun h => { h with returned := h.returned.erase e.id }

theorem State.withdrawClose_of (entry : s.entryOf k = some e) : s.withdrawClose k =
    ((s.closeGivenUp k e).setSequencer (s.branchOf k) { s.sequencer (s.branchOf k) with
      line := e.id :: (s.sequencer (s.branchOf k)).line.erase e.id }).endClose (s.branchOf k) := by
  simp only [State.withdrawClose, entry] <;> rfl

theorem State.closeGivenUp_entryOf (entry : s.entryOf k = some e) :
    (s.closeGivenUp k e).entryOf k = some { e with phase := .waitAdmit } :=
  State.modEntry_own (s := s.giveUp k) (f := fun x => { x with phase := .waitAdmit }) entry fun _ => rfl

theorem State.withdrawClose_withdrawn (entry : s.entryOf k = some e)
    (shut : (s.protection (s.branchOf k)).state ≠ .normal ∧ (s.protection (s.branchOf k)).state ≠ .restoring) :
    s.Withdrawn k e (s.withdrawClose k) := by
  obtain ⟨r, closed⟩ := State.endClose_shut (s := s.closeGivenUp k e) (b := s.branchOf k) shut
    { s.sequencer (s.branchOf k) with line := e.id :: (s.sequencer (s.branchOf k)).line.erase e.id }
  rw [State.withdrawClose_of entry, closed]
  refine ⟨State.closeGivenUp_entryOf entry, ?_, ?_, ?_, fun j => look_put .., rfl⟩
  all_goals rw [State.setSequencer_sequencer, if_pos rfl] <;> rfl

/-! ### The verify window -/

theorem State.verifyTurn_of (verify : (s.driver k).state = .verify) (step : (s.driver k).step = some st)
    (skip : (s.driver k).skip = 0) (observe : (s.driver k).observe = 0) : s.verifyTurn k = s.endVerify k st := by
  simp only [State.verifyTurn, verify, step, skip, observe, and_self, if_true]

theorem State.verifyTurn_idle (idle : (s.driver k).state ≠ .verify ∨ (s.driver k).skip ≠ 0 ∨ (s.driver k).observe ≠ 0) :
    s.verifyTurn k = s := by
  unfold State.verifyTurn
  split
  · next verify _ => exact if_neg fun h => (idle.resolve_left (not_not_intro verify)).elim (absurd h.1) (absurd h.2)
  · rfl

theorem Step.passes_iff (active : Bool) : st.passes active = true ↔
    st.direction = .close ∧ active = true ∨ st.direction = .opening ∧ active = false := by
  unfold Step.passes
  cases st.direction <;> simp

theorem State.closeBarred_iff : s.closeBarred k = true ↔
    (s.protection (s.branchOf k)).state = .shed ∨ (s.protection (s.branchOf k)).state = .restartWait := by
  rw [State.closeBarred, Bool.or_eq_true, beq_iff_eq, beq_iff_eq]

/-- Settles O59: each branch of `endVerify` is one end of the window. -/
theorem verifyWindowDecidesTheStep : Obligations.VerifyWindowDecidesTheStep := by
  refine ⟨fun k s idle => congrArg Host.Outcome.next (State.running_id (State.verifyTurn_idle idle)),
    fun k st s high verify step skip observe distinct => ?_⟩
  have turn : s.verifyTurn k = s.endVerify k st := State.verifyTurn_of verify step skip observe
  have exec : exec (.verifyWindowEnd k) s = .next (s.endVerify k st) :=
    congrArg Host.Outcome.next ((State.running_high high).trans turn)
  have acts : Acts s (s.endVerify k st) := (Acts.refl s).endVerify k st
  refine ⟨fun passes => ?_, fun fails => ?_⟩
  · have ends : s.endVerify k st = s.endStep k st .verified := if_pos ((Step.passes_iff _).mpr passes)
    rw [ends] at exec acts
    exact ⟨_, exec, s.endStep_contact k st .verified, acts.only, fun lines => State.endStep_ends high distinct lines k st .verified⟩
  have notPasses : ¬st.passes (s.driver k).activeSeen = true := by
    intro passes
    rcases (Step.passes_iff _).mp passes with ⟨d, a⟩ | ⟨d, a⟩ <;> rcases fails with ⟨d', a'⟩ | ⟨d', a'⟩ <;> simp_all
  refine ⟨fun first allowed => ?_, fun first close own shut e entry => ?_, fun second out => ?_⟩
  · have free : ¬(st.direction = .close ∧ st.source = .entry ∧ s.closeBarred k = true) := by
      rintro ⟨close, own, barred⟩
      have shut := State.closeBarred_iff.mp barred
      rcases allowed with h | h | h | h
      · exact absurd (close.symm.trans h) (by decide)
      · exact h own
      all_goals rw [h] at shut; exact absurd shut (by decide)
    rw [exec, State.endVerify, if_neg notPasses, if_pos first, if_neg free]
    rfl
  · have ends : s.endVerify k st = s.withdrawClose k := by
      rw [State.endVerify, if_neg notPasses, if_pos first, if_pos ⟨close, own, State.closeBarred_iff.mpr shut⟩]
    have closed : (s.protection (s.branchOf k)).state ≠ .normal ∧ (s.protection (s.branchOf k)).state ≠ .restoring := by
      rcases shut with h | h <;> rw [h] <;> decide
    have withdrawn := State.withdrawClose_withdrawn entry closed
    have driver := (withdrawn.driver k).trans (if_pos rfl)
    rw [ends] at exec acts
    refine ⟨_, _, exec, withdrawn.entry, rfl, rfl, withdrawn.head, withdrawn.inProgress, withdrawn.stagger, ?_, ?_, ?_, withdrawn.ports,
      acts.sameOutside⟩
    · rw [driver]; rfl
    · rw [driver]; rfl
    · rw [State.contact, driver]; rfl
  · have ends : s.endVerify k st = s.declareFault k st := by rw [State.endVerify, if_neg notPasses, if_neg second]
    have fault : st.direction.fault = if st.direction = .close then RelayFault.stuckOpen else .stuckClosed := by
      cases st.direction <;> rfl
    have contact : st.direction.fault.contact = if st.direction = .close then Contact.opened else .closed := by
      cases st.direction <;> rfl
    have detail : st.direction.fault.detail = if st.direction = .close then ResultDetail.stuckOpen else .stuckClosed := by
      cases st.direction <;> rfl
    have told (source : EventOrigin) : s.faultTold k st.direction.fault source = State.told
        (((s.setDriver k { (s.driverFree k).driver k with
            state := .faulted, fault := some (if st.direction = .close then RelayFault.stuckOpen else .stuckClosed) }).moved k
          (if st.direction = .close then .opened else .closed)).setMonitor k
          (((s.setDriver k { (s.driverFree k).driver k with
              state := .faulted, fault := some (if st.direction = .close then RelayFault.stuckOpen else .stuckClosed) }).moved k
            (if st.direction = .close then .opened else .closed)).monitor k).withdrawn)
        (.relayFault k (if st.direction = .close then RelayFault.stuckOpen else .stuckClosed) false) source := by
      rw [State.faultTold, contact, fault]
    have declared := State.declareFault_eq (st := st) (State.head_apart_of_out distinct (s.branchOf k) out)
    let w := s.faultTold k st.direction.fault (s.stepOrigin k st.source)
    obtain ⟨driver, gone⟩ := State.failEntry_driver (s := w) distinct k st.direction.fault
    rw [s.faultTold_driver k] at driver
    rw [ends, declared] at exec acts
    refine ⟨_, exec, by rw [driver], by rw [driver, fault], by rw [State.contact, driver, contact], gone, acts.only, ?_⟩
    have closes (e : Entry) (entry : s.entryOf k = some e) :
        (w.ended e .failed st.direction.fault.detail).CloseEnds (s.branchOf k) e.id (w.failEntry k st.direction.fault) := by
      rw [State.failEntry_of (s := w) entry]
      exact State.complete_closeEnds (s := w) high entry (out e entry) _ _
    refine ⟨fun own e entry => ?_, fun urgent e entry => ?_, fun none => ?_⟩
    · have ended := closes e entry
      rw [detail] at ended
      rw [← told, ← State.stepOrigin_entry entry own]
      exact ended
    · have ended := closes e entry
      rw [detail] at ended
      rw [← told, ← State.stepOrigin_urgent (s := s) (k := k) urgent]
      exact ended
    · have origin : s.stepOrigin k st.source = EventOrigin.nobody := by
        unfold State.stepOrigin
        split
        · next entry => exact absurd (none.symm.trans entry) nofun
        · rfl
      rw [← told, ← origin]
      exact State.failEntry_none (s := w) none _

end Sys2Proof.Machine

/-! PROOF. Fire phases, the Coil Arbiter's round, and the end of a pulse (O58). -/

namespace Sys2Proof.Machine

variable {s t u : State} {x : Link} {k : Outlet} {b : Branch} {e : Entry} {st : Step}

/-! ### Fire phases -/

theorem fallingFire_iff {tp d phase : Nat} (pos : 0 < tp) :
    phase = fallingFire tp d ↔ (phase : Int) = (((tp / 2 : Nat) : Int) - d) % (tp : Int) := by
  have nonneg : 0 ≤ (((tp / 2 : Nat) : Int) - d) % (tp : Int) := Int.emod_nonneg _ (by omega)
  have eq : ((fallingFire tp d : Nat) : Int) = (((tp / 2 : Nat) : Int) - d) % (tp : Int) := Int.toNat_of_nonneg nonneg
  rw [← eq, Int.natCast_inj]

theorem State.meetPhase_of (waits : (s.driver k).state = .waitPhase) (step : (s.driver k).step = some st) :
    s.meetPhase k = match st.meet (s.tracker st.feed).tp (s.tracker st.feed).phase with
      | none => s
      | some st' => s.setDriver k { s.driver k with state := .waitSlot, step := some st' } := by
  simp only [State.meetPhase, waits, step] <;> rfl

theorem State.meetPhase_met {st' : Step} (waits : (s.driver k).state = .waitPhase) (step : (s.driver k).step = some st)
    (met : st.meet (s.tracker st.feed).tp (s.tracker st.feed).phase = some st') :
    s.meetPhase k = s.setDriver k { s.driver k with state := .waitSlot, step := some st' } := by
  rw [State.meetPhase_of waits step, met]

theorem State.meetPhase_unmet (waits : (s.driver k).state = .waitPhase) (step : (s.driver k).step = some st)
    (unmet : st.meet (s.tracker st.feed).tp (s.tracker st.feed).phase = none) : s.meetPhase k = s := by
  rw [State.meetPhase_of waits step, unmet]

theorem State.meetPhase_idle (out : (s.driver k).state ≠ .waitPhase) : s.meetPhase k = s := by
  unfold State.meetPhase
  split
  · next waits _ => exact absurd waits out
  · rfl

theorem Step.meet_none {tp phase : Nat} (rising : phase = risingFire tp st.delay → st.metRising = true)
    (falling : phase = fallingFire tp st.delay → st.metFalling = true) : st.meet tp phase = none := by
  refine (if_neg fun h => ?_).trans (if_neg fun h => ?_)
  · exact absurd (h.2.symm.trans (rising h.1)) (by decide)
  · exact absurd (h.2.symm.trans (falling h.1)) (by decide)

/-! ### The order of the requests -/

/-- In a list sorted by an asymmetric relation, an element's place is the number of those ahead of it. -/
theorem idxOf_eq_length_filter {α : Type} [BEq α] [LawfulBEq α] {r : α → α → Bool} {l : List α} {a : α}
    (sorted : l.Pairwise fun a b => r a b = true) (asymm : ∀ a b, r a b = true → r b a = false) (mem : a ∈ l) :
    l.idxOf a = (l.filter fun b => r b a).length := by
  induction l with
  | nil => exact absurd mem List.not_mem_nil
  | cons c l ih =>
    obtain ⟨first, sorted⟩ := List.pairwise_cons.mp sorted
    by_cases own : c = a
    · subst own
      have irrefl : r c c = false := by
        cases h : r c c with
        | false => rfl
        | true => exact (asymm c c h).symm.trans h ▸ rfl
      have none : l.filter (fun b => r b c) = [] :=
        List.filter_eq_nil_iff.mpr fun b hb h => absurd (h.symm.trans (asymm c b (first b hb))) (by decide)
      rw [List.idxOf_cons_self, List.filter_cons_of_neg (by rw [irrefl]; decide), none]
      rfl
    · have mem := (List.mem_cons.mp mem).resolve_left (Ne.symm own)
      rw [List.idxOf_cons_ne l own, List.filter_cons_of_pos (p := fun b => r b a) (first a mem), List.length_cons, ih sorted mem]


theorem sorted_allOutlets : allOutlets.Pairwise (· < ·) := by decide

/-- Whether outlet `k` asks for a slot. -/
theorem State.asks_iff {urgent : Bool} : s.asks urgent k = true ↔
    (s.driver k).state = .waitSlot ∧ ∃ st, (s.driver k).step = some st ∧ st.isUrgent = urgent := by
  rw [State.asks, Bool.and_eq_true, beq_iff_eq]
  cases (s.driver k).step <;> simp

theorem Step.isUrgent_eq (st : Step) : st.isUrgent = decide (st.source ≠ .entry) := by
  unfold Step.isUrgent
  cases st.source <;> rfl

/-- Whether a request of outlet `j` is ahead of one of outlet `k` (R111). -/
def State.asksAhead (s : State) (j k : Outlet) : Bool :=
  s.asksAny j && (s.urgentStep j && !s.urgentStep k || s.urgentStep j == s.urgentStep k && decide (j < k))

theorem State.urgentStep_of (step : (s.driver k).step = some st) : s.urgentStep k = st.isUrgent := by
  rw [State.urgentStep, step]; rfl

theorem State.asks_urgentStep {urgent : Bool} (asks : s.asks urgent k = true) : s.urgentStep k = urgent := by
  obtain ⟨-, st, step, source⟩ := State.asks_iff.mp asks
  rw [State.urgentStep_of step, source]

theorem State.asksAny_iff : s.asksAny k = true ↔ s.asks true k = true ∨ s.asks false k = true := Bool.or_eq_true_iff

theorem State.mem_requests : k ∈ s.requests ↔ s.asksAny k = true := by
  rw [State.requests, List.mem_append, List.mem_filter, List.mem_filter, State.asksAny_iff]
  simp only [mem_allOutlets, true_and]

theorem State.requests_sorted (s : State) : s.requests.Pairwise fun j k => s.asksAhead j k = true := by
  have same (urgent : Bool) : (allOutlets.filter (s.asks urgent)).Pairwise fun j k => s.asksAhead j k = true := by
    refine (sorted_allOutlets.filter _).imp_of_mem fun {j k} hj hk below => ?_
    have hj := (List.mem_filter.mp hj).2
    have hk := (List.mem_filter.mp hk).2
    have any : s.asksAny j = true := State.asksAny_iff.mpr (by cases urgent <;> simp [hj])
    rw [State.asksAhead, any, State.asks_urgentStep hj, State.asks_urgentStep hk]
    simp [below]
  refine List.pairwise_append.mpr ⟨same true, same false, fun j hj k hk => ?_⟩
  have hj := (List.mem_filter.mp hj).2
  have hk := (List.mem_filter.mp hk).2
  rw [State.asksAhead, State.asksAny_iff.mpr (.inl hj), State.asks_urgentStep hj, State.asks_urgentStep hk]
  rfl

theorem State.asksAhead_asymm (s : State) (j k : Outlet) (ahead : s.asksAhead j k = true) : s.asksAhead k j = false := by
  unfold State.asksAhead at ahead ⊢
  rw [Bool.and_eq_true] at ahead
  rw [Bool.and_eq_false_iff]
  right
  have ahead := ahead.2
  cases hj : s.urgentStep j <;> cases hk : s.urgentStep k <;> rw [hj, hk] at ahead <;> simp at ahead ⊢ <;> exact le_of_lt ahead

theorem State.requests_nodup (s : State) : s.requests.Nodup :=
  s.requests_sorted.imp_of_mem fun {j k} _ _ ahead same => by
    subst same
    exact absurd ((s.asksAhead_asymm j j ahead).symm.trans ahead) (by decide)

/-- The requests among the first `n` are those with fewer than `n` ahead of them (R111). -/
theorem State.mem_take_requests (s : State) (n : Nat) (k : Outlet) : k ∈ s.requests.take n ↔
    s.asksAny k = true ∧ (allOutlets.filter fun j => s.asksAhead j k).length < n := by
  by_cases asks : s.asksAny k = true
  · have mem := State.mem_requests.mpr asks
    have place := idxOf_eq_length_filter s.requests_sorted s.asksAhead_asymm mem
    have perm : (s.requests.filter fun j => s.asksAhead j k).Perm (allOutlets.filter fun j => s.asksAhead j k) := by
      refine (List.perm_ext_iff_of_nodup (s.requests_nodup.filter _) (nodup_allOutlets.filter _)).mpr fun j => ?_
      rw [List.mem_filter, List.mem_filter, State.mem_requests]
      simp only [mem_allOutlets, true_and, and_iff_right_iff_imp]
      exact fun ahead => (Bool.and_eq_true_iff.mp ahead).1
    rw [List.mem_take_iff_idxOf_lt mem, place, perm.length_eq, and_iff_right asks]
  · refine iff_of_false (fun mem => asks (State.mem_requests.mp (List.mem_of_mem_take mem))) fun h => asks h.1

/-! ### Grants and slips -/

/-- A driver that has been granted its slot: it pulses (R113). -/
def Driver.granted (d : Driver) (st : Step) : Driver :=
  { d with state := .pulse, pulseCount := st.pulse, coil := st.direction.coil, step := some { st with feedLeft := false } }

/-- A driver whose request was not granted: a synchronized ordinary one slips (R112). -/
def Driver.slipped (d : Driver) (st : Step) : Driver :=
  if st.sync = true ∧ st.source = .entry then { d with state := .waitPhase } else d

/-- What grants to the outlets of `l` leave. -/
structure State.Grants (s : State) (l : List Outlet) (t : State) : Prop where
  rest : { t with drivers := s.drivers, slots := s.slots, sequencers := s.sequencers } = s
  slots : t.slots = s.slots ++ l
  granted : ∀ k st, k ∈ l → (s.driver k).step = some st → t.driver k = (s.driver k).granted st
  others : ∀ k, k ∉ l → t.driver k = s.driver k
  sequencer : ∀ b, t.sequencer b = { s.sequencer b with pulseMark := (t.sequencer b).pulseMark }
  pulseMark : ∀ b, (t.sequencer b).pulseMark = true ↔ (s.sequencer b).pulseMark = true ∨
    ∃ k st, k ∈ l ∧ (s.driver k).step = some st ∧ st.direction = .close ∧ s.branchOf k = b

theorem State.grant_of (step : (s.driver k).step = some st) : s.grant k = if st.direction = .close then
      ((s.setDriver k ((s.driver k).granted st)).setSlots (s.slots ++ [k])).pulseStarted (s.branchOf k)
    else (s.setDriver k ((s.driver k).granted st)).setSlots (s.slots ++ [k]) := by
  unfold State.grant
  split
  · next none => exact absurd (none.symm.trans step) nofun
  · next st' step' =>
    obtain rfl := Option.some.inj (step'.symm.trans step)
    dsimp only
    split
    · next close => rw [if_pos close]; rfl
    · next opening => rw [if_neg (by rw [opening]; decide)]; rfl

theorem State.grant_grants (step : (s.driver k).step = some st) : s.Grants [k] (s.grant k) := by
  let started := (s.setDriver k ((s.driver k).granted st)).setSlots (s.slots ++ [k])
  have own (t : State) (same : t.drivers = started.drivers) (j : Outlet) (st' : Step) (mem : j ∈ [k])
      (step' : (s.driver j).step = some st') : t.driver j = (s.driver j).granted st' := by
    obtain rfl := List.mem_singleton.mp mem
    obtain rfl := Option.some.inj (step.symm.trans step')
    rw [State.driver, same]
    exact look_put_self ..
  have apart (t : State) (same : t.drivers = started.drivers) (j : Outlet) (out : j ∉ [k]) : t.driver j = s.driver j := by
    rw [State.driver, same]
    exact look_put_other _ _ fun h => out (List.mem_singleton.mpr h)
  cases direction : st.direction with
  | close =>
    have eq : s.grant k = started.pulseStarted (s.branchOf k) := (State.grant_of step).trans (if_pos direction)
    have sequencer (b : Branch) : (s.grant k).sequencer b =
        if b = s.branchOf k then { s.sequencer (s.branchOf k) with pulseMark := true } else s.sequencer b := by
      rw [eq]; exact look_put ..
    refine ⟨by rw [eq]; rfl, by rw [eq]; rfl, own _ (by rw [eq]; rfl), apart _ (by rw [eq]; rfl), fun b => ?_, fun b => ?_⟩
    · rw [sequencer]
      split
      · next same => rw [same]
      · rfl
    · rw [sequencer]
      split
      · next same => exact iff_of_true rfl (.inr ⟨k, st, List.mem_singleton_self k, step, direction, same.symm⟩)
      · next other =>
        refine ⟨.inl, fun h => h.resolve_right ?_⟩
        rintro ⟨j, -, mem, -, -, branch⟩
        exact other (by rw [← branch, List.mem_singleton.mp mem])
  | opening =>
    have eq : s.grant k = started := (State.grant_of step).trans (if_neg (by rw [direction]; decide))
    refine ⟨by rw [eq]; rfl, by rw [eq]; rfl, own _ (by rw [eq]), apart _ (by rw [eq]), fun b => by rw [eq]; rfl, fun b => ?_⟩
    rw [eq]
    refine ⟨.inl, fun h => h.resolve_right ?_⟩
    rintro ⟨j, st', mem, step', close, -⟩
    rw [List.mem_singleton.mp mem] at step'
    rw [← Option.some.inj (step.symm.trans step'), direction] at close
    exact absurd close (by decide)

theorem State.Grants.cons {l : List Outlet} (first : s.Grants [k] t) (others : t.Grants l u) (fresh : k ∉ l) :
    s.Grants (k :: l) u := by
  have settings : t.settings = s.settings := (congrArg State.settings first.rest :)
  have branch (j : Outlet) : t.branchOf j = s.branchOf j := by rw [State.branchOf, settings]; rfl
  have same (j : Outlet) (mem : j ∈ l) : t.driver j = s.driver j :=
    first.others j fun h => fresh (List.mem_singleton.mp h ▸ mem)
  refine ⟨?_, ?_, fun j st mem step => ?_, fun j out => ?_, fun b => ?_, fun b => ?_⟩
  · exact (congrArg (fun v : State => { v with drivers := s.drivers, slots := s.slots, sequencers := s.sequencers }) others.rest).trans
      first.rest
  · rw [others.slots, first.slots, List.append_assoc, List.singleton_append]
  · by_cases own : j = k
    · subst own
      rw [others.others j fresh]
      exact first.granted j st (List.mem_singleton_self j) step
    · have mem := (List.mem_cons.mp mem).resolve_left own
      rw [others.granted j st mem (by rw [same j mem]; exact step), same j mem]
  · obtain ⟨ne, out⟩ := not_or.mp (mt List.mem_cons.mpr out)
    rw [others.others j out, first.others j fun h => ne (List.mem_singleton.mp h)]
  · rw [others.sequencer b, first.sequencer b]
  · rw [others.pulseMark b, first.pulseMark b, or_assoc]
    refine or_congr_right ⟨?_, ?_⟩
    · rintro (⟨j, st, mem, rest⟩ | ⟨j, st, mem, step, close, at'⟩)
      · exact ⟨j, st, List.mem_cons.mpr (.inl (List.mem_singleton.mp mem)), rest⟩
      · exact ⟨j, st, List.mem_cons.mpr (.inr mem), same j mem ▸ step, close, branch j ▸ at'⟩
    · rintro ⟨j, st, mem, step, close, at'⟩
      rcases List.mem_cons.mp mem with own | mem
      · exact .inl ⟨j, st, List.mem_singleton.mpr own, step, close, at'⟩
      · exact .inr ⟨j, st, mem, (same j mem).symm ▸ step, close, (branch j).trans at'⟩

theorem State.grants_foldl {l : List Outlet} : ∀ {s : State}, l.Nodup → (∀ k, k ∈ l → (s.driver k).step.isSome = true) →
    s.Grants l (l.foldl State.grant s) := by
  induction l with
  | nil =>
    intro s _ _
    exact ⟨rfl, (List.append_nil _).symm, fun _ _ h => absurd h List.not_mem_nil, fun _ _ => rfl, fun _ => rfl,
      fun _ => ⟨.inl, fun h => h.resolve_right fun ⟨_, _, h, _⟩ => absurd h List.not_mem_nil⟩⟩
  | cons k l ih =>
    intro s nodup steps
    obtain ⟨fresh, nodup⟩ := List.nodup_cons.mp nodup
    obtain ⟨st, step⟩ := Option.isSome_iff_exists.mp (steps k (List.mem_cons_self ..))
    have first := State.grant_grants step
    refine first.cons (ih nodup fun j mem => ?_) fresh
    rw [first.others j fun h => fresh (List.mem_singleton.mp h ▸ mem)]
    exact steps j (List.mem_cons_of_mem _ mem)

/-- What slips of the outlets of `l` leave. -/
structure State.Slips (s : State) (l : List Outlet) (t : State) : Prop where
  rest : { t with drivers := s.drivers } = s
  slipped : ∀ k st, k ∈ l → (s.driver k).step = some st → t.driver k = (s.driver k).slipped st
  others : ∀ k, k ∉ l → t.driver k = s.driver k

theorem State.slip_of (step : (s.driver k).step = some st) : s.slip k = s.setDriver k ((s.driver k).slipped st) := by
  have slips : (st.sync && !st.isUrgent) = true ↔ st.sync = true ∧ st.source = .entry := by
    rw [Step.isUrgent_eq]
    simp
  unfold State.slip Driver.slipped
  split
  · next none => exact absurd (none.symm.trans step) nofun
  · next st' step' =>
    obtain rfl := Option.some.inj (step'.symm.trans step)
    by_cases waits : st'.sync = true ∧ st'.source = .entry
    · rw [if_pos (slips.mpr waits), if_pos waits]
    · rw [if_neg (mt slips.mp waits), if_neg waits, s.setDriver_self k]

theorem State.slips_foldl {l : List Outlet} : ∀ {s : State}, l.Nodup → (∀ k, k ∈ l → (s.driver k).step.isSome = true) →
    s.Slips l (l.foldl State.slip s) := by
  induction l with
  | nil => intro s _ _; exact ⟨rfl, fun _ _ h => absurd h List.not_mem_nil, fun _ _ => rfl⟩
  | cons k l ih =>
    intro s nodup steps
    obtain ⟨fresh, nodup⟩ := List.nodup_cons.mp nodup
    obtain ⟨st, step⟩ := Option.isSome_iff_exists.mp (steps k (List.mem_cons_self ..))
    have driver (j : Outlet) : (s.slip k).driver j = if j = k then (s.driver k).slipped st else s.driver j := by
      rw [State.slip_of step, State.setDriver_driver]
    have same (j : Outlet) (mem : j ∈ l) : (s.slip k).driver j = s.driver j :=
      (driver j).trans (if_neg fun own : j = k => fresh (own ▸ mem))
    have later := ih (s := s.slip k) nodup fun j mem => by
      rw [same j mem]; exact steps j (List.mem_cons_of_mem _ mem)
    refine ⟨?_, fun j st' mem step' => ?_, fun j out => ?_⟩
    · refine (congrArg (fun v : State => { v with drivers := s.drivers }) later.rest).trans ?_
      rw [State.slip_of step]
      rfl
    · by_cases own : j = k
      · subst own
        rw [← Option.some.inj (step.symm.trans step')]
        exact (later.others j fresh).trans ((driver j).trans (if_pos rfl))
      · have mem := (List.mem_cons.mp mem).resolve_left own
        exact (later.slipped j st' mem (by rw [same j mem]; exact step')).trans (by rw [same j mem])
    · obtain ⟨ne, out⟩ := not_or.mp (mt List.mem_cons.mpr out)
      exact (later.others j out).trans ((driver j).trans (if_neg ne))

theorem State.step_of_request (asks : s.asksAny k = true) : (s.driver k).step.isSome = true := by
  rcases State.asksAny_iff.mp asks with h | h <;> obtain ⟨-, st, step, -⟩ := State.asks_iff.mp h <;> rw [step] <;> rfl

/-- One round of the arbiter (R111, R112). -/
theorem State.grantRound_round (s : State) : ∃ u, s.Grants (s.requests.take s.freeSlots) u ∧
    u.Slips (s.requests.drop s.freeSlots) s.grantRound ∧
    ∀ k, k ∈ s.requests.drop s.freeSlots → k ∉ s.requests.take s.freeSlots := by
  have nodup : (s.requests.take s.freeSlots ++ s.requests.drop s.freeSlots).Nodup := by
    rw [List.take_append_drop]; exact s.requests_nodup
  obtain ⟨before, after, apart⟩ := List.nodup_append.mp nodup
  have disjoint (k : Outlet) (h : k ∈ s.requests.drop s.freeSlots) : k ∉ s.requests.take s.freeSlots := fun g => apart k g k h rfl
  have grants := State.grants_foldl (s := s) before fun k mem =>
    State.step_of_request (State.mem_requests.mp (List.mem_of_mem_take mem))
  refine ⟨_, grants, State.slips_foldl after fun k mem => ?_, disjoint⟩
  rw [grants.others k (disjoint k mem)]
  exact State.step_of_request (State.mem_requests.mp (List.mem_of_mem_drop mem))

/-! ### The end of a pulse -/

/-- The coil released and the slot freed at the end of a pulse. -/
def State.coilFree (s : State) (k : Outlet) : State :=
  (s.setDriver k { s.driver k with coil := .released }).setSlots (s.slots.erase k)

theorem State.coilFree_driver (s : State) (k : Outlet) : (s.coilFree k).driver k = { s.driver k with coil := .released } :=
  look_put_self ..

theorem State.releaseCoil_eq (ended : (s.driver k).pulseCount = 0) : s.releaseCoil k = s.coilFree k := by
  have same : { s.driver k with coil := .released, pulseCount := 0 } = { s.driver k with coil := .released } := by
    rw [← ended]
  unfold State.releaseCoil State.coilFree
  rw [same]

theorem State.pulseTurn_of (pulse : (s.driver k).state = .pulse) (step : (s.driver k).step = some st) :
    s.pulseTurn k = if (s.driver k).pulseCount = 0 then s.endPulse k st else s := by
  simp only [State.pulseTurn, pulse, step]

theorem State.pulseTurn_idle (out : (s.driver k).state ≠ .pulse) : s.pulseTurn k = s := by
  unfold State.pulseTurn
  split
  · next pulse _ => exact absurd pulse out
  · rfl

theorem State.afterPulse_judged (plain : ∀ e, s.entryOf k = some e → e.preempt = false) (st : Step) :
    s.afterPulse k st = s.judgePulse k st := by
  unfold State.afterPulse
  split
  · next e _ entry => exact if_neg (Bool.eq_false_iff.mp (plain e entry))
  · rfl

theorem State.afterPulse_preempted (own : st.source = .entry) (entry : s.entryOf k = some e) (mark : e.preempt = true) :
    s.afterPulse k st = s.endPreempted k e := by
  simp only [State.afterPulse, own, entry, mark, if_true]

/-- The contact unknown and the outlet's entry pre-empted (R86, R113). -/
def State.preempted (s : State) (k : Outlet) (e : Entry) : State := ((s.driverFree k).moved k .unknown).complete e .preempted .none

theorem State.endPreempted_of {mode : UrgentMode} (waiting : (s.driver k).waitingUrgent = some mode) (e : Entry) :
    s.endPreempted k e = (s.preempted k e).takeUrgent k mode := by
  have moved : (s.setDriver k (s.driver k).idle).setContact k .unknown = (s.driverFree k).moved k .unknown :=
    (State.setContact_moved ..).trans (if_neg fun h : _ ∧ Contact.unknown = .opened => absurd h.2 (by decide))
  unfold State.endPreempted State.preempted
  dsimp only
  rw [waiting, moved]

/-- The driver of a pre-empted outlet, before it takes its urgent open. -/
theorem State.preempted_driver (entry : s.entryOf k = some e) (distinct : s.EntriesDistinct) :
    (s.preempted k e).driver k = { (s.driver k).idle with contact := .unknown } := by
  have free : (s.driverFree k).driver k = (s.driver k).idle := look_put_self ..
  have kept := State.complete_driver (s := (s.driverFree k).moved k .unknown) entry distinct .preempted .none
  rw [State.preempted, kept, State.moved_driver, if_pos rfl, free]

theorem State.preempted_step (s : State) (k : Outlet) (e : Entry) :
    ((s.driverFree k).moved k .unknown).StepOnly (s.preempted k e) := (State.StepOnly.refl _).complete ..

/-- The urgent step that an outlet takes (R120). -/
theorem State.newStep_of (settings : t.settings = s.settings) (trackers : t.trackers = s.trackers) (k : Outlet) (d : Direction)
    (source : StepSource) : t.newStep k d source = s.newStep k d source := by
  simp only [State.newStep, State.isTracking, State.delayFor, State.feedOf, State.branchOf, State.branchFeedOf, State.tracker,
    settings, trackers]

/-- What an outlet whose close pulse ended with its entry's pre-emption mark holds (R113, R120). -/
structure State.TookUrgent (s : State) (k : Outlet) (e : Entry) (mode : UrgentMode) (t : State) : Prop where
  contact : t.contact k = .unknown
  entry : t.entryOf k = none
  coil : (t.driver k).coil = (s.driver k).coil
  slots : t.slots = s.slots
  state : (t.driver k).state =
    if mode = .openSync ∧ (s.tracker (s.feedOf k)).state = .tracking then .waitPhase else .waitSlot
  step : (t.driver k).step = some (s.newStep k .opening (.urgent mode))
  ports : ∀ x, t.port x = (s.port x).offer
    { body := .actionEnded k e.id e.kind .preempted .none,
      source := { origin := some e.origin, sweep := e.sweep, tag := e.tag }, stamp := s.stamp }
  rest : t = (s.preempted k e).setDriver k
    { (s.preempted k e).driver k with state := (t.driver k).state, step := (t.driver k).step }

theorem State.endPreempted_took {mode : UrgentMode} (waiting : (s.driver k).waitingUrgent = some mode)
    (entry : s.entryOf k = some e) (distinct : s.EntriesDistinct) : s.TookUrgent k e mode (s.endPreempted k e) := by
  have stepOnly := s.preempted_step k e
  have before := State.preempted_driver entry distinct
  have step := State.newStep_of (s := s) (t := s.preempted k e) (congrArg State.settings stepOnly.rest :)
    (congrArg State.trackers stepOnly.rest :) k .opening (.urgent mode)
  have gone : (s.preempted k e).entryOf k = none :=
    State.complete_entryOf (t := (s.driverFree k).moved k .unknown) entry distinct _ _
  have ports : (s.preempted k e).ports = (((s.driverFree k).moved k .unknown).ended e .preempted .none).ports :=
    (State.complete_line _ e _ _).ports
  obtain ⟨w, isW⟩ : ∃ w, w = s.preempted k e := ⟨_, rfl⟩
  rw [State.endPreempted_of waiting e]
  rw [← isW] at stepOnly before step gone ports ⊢
  have driver : (w.takeUrgent k mode).driver k = { (w.driver k).idle with
      step := some (w.newStep k .opening (.urgent mode))
      state := if (w.newStep k .opening (.urgent mode)).sync = true ∧ mode = .openSync then .waitPhase else .waitSlot } :=
    look_put_self ..
  rw [step, before] at driver
  refine ⟨?_, gone, ?_, (congrArg State.slots stepOnly.rest :), ?_, ?_, fun x => ?_, ?_⟩
  · rw [State.contact, driver]; rfl
  · rw [driver]; rfl
  · rw [driver]
    simp only [State.newStep, State.isTracking, beq_iff_eq, and_comm]
  · rw [driver]
  · have outlet := State.outlet_of_entryOf entry
    subst outlet
    exact (congrArg (fun p : PerLink Port => p.get x) ports).trans (State.post_port ..)
  · rw [driver, ← isW, before]
    unfold State.takeUrgent
    dsimp only
    rw [step, before]
    rfl

/-- Settles O58: the fire phases, the arbiter's round and the end of a pulse, each in turn. -/
theorem stepsMeetSlotsAndPulse : Obligations.StepsMeetSlotsAndPulse := by
  refine ⟨fun k st s high waits step => ⟨fun phase clear => ?_, fun phase apart clear pos => ?_, fun rising falling => ?_,
    fun pos rising falling => ?_⟩, fun k s out => ?_, fun s high => ?_, fun k s out => ?_,
    fun k st e mode s high pulse step own ended entry mark waiting distinct => ?_, fun k st s high pulse step =>
    ⟨fun left => ?_, fun ended plain => ⟨fun sync kept => ?_, fun unverified => ?_⟩⟩⟩
  · have met : st.meet (s.tracker st.feed).tp (s.tracker st.feed).phase = some { st with metRising := true } := if_pos ⟨phase, clear⟩
    exact congrArg Host.Outcome.next ((State.running_high high).trans (State.meetPhase_met waits step met))
  · have notRising : ¬((s.tracker st.feed).phase = risingFire (s.tracker st.feed).tp st.delay ∧ st.metRising = false) :=
      fun h => apart.elim (absurd h.1) fun met => absurd (met.symm.trans h.2) (by decide)
    have met : st.meet (s.tracker st.feed).tp (s.tracker st.feed).phase = some { st with metFalling := true } :=
      (if_neg notRising).trans (if_pos ⟨(fallingFire_iff pos).mpr phase, clear⟩)
    exact congrArg Host.Outcome.next ((State.running_high high).trans (State.meetPhase_met waits step met))
  · exact congrArg Host.Outcome.next (State.running_id (State.meetPhase_unmet waits step
      (Step.meet_none (fun h => absurd h rising) fun h => absurd h falling)))
  · exact congrArg Host.Outcome.next (State.running_id (State.meetPhase_unmet waits step
      (Step.meet_none rising fun h => falling ((fallingFire_iff pos).mp h))))
  · exact congrArg Host.Outcome.next (State.running_id (State.meetPhase_idle out))
  · intro urgent asks ahead granted
    have urgent_eq : urgent = s.urgentStep := by
      funext k
      show ((s.driver k).step.map fun st => decide (st.source ≠ .entry)).getD false = _
      rw [State.urgentStep, funext Step.isUrgent_eq]
    have asks_eq : asks = s.asksAny := by
      funext k
      rw [Bool.eq_iff_iff, State.asksAny_iff, State.asks_iff, State.asks_iff]
      show (decide ((s.driver k).state = .waitSlot) && (s.driver k).step.isSome) = true ↔ _
      rw [Bool.and_eq_true, decide_eq_true_iff, ← and_or_left, Option.isSome_iff_exists]
      refine and_congr_right fun _ => ⟨fun ⟨st, step⟩ => ?_, fun h => ?_⟩
      · cases source : st.isUrgent
        · exact .inr ⟨st, step, source⟩
        · exact .inl ⟨st, step, source⟩
      · exact h.elim (fun ⟨st, step, _⟩ => ⟨st, step⟩) fun ⟨st, step, _⟩ => ⟨st, step⟩
    have ahead_eq : ahead = s.asksAhead := by
      funext j k
      show (asks j && (urgent j && !urgent k || urgent j == urgent k && decide (j < k))) = _
      rw [urgent_eq, asks_eq]
      rfl
    have granted_iff (k : Outlet) : granted k ↔ k ∈ s.requests.take s.freeSlots := by
      show (asks k = true ∧ (allOutlets.filter fun j => ahead j k).length < 4 - s.slots.length) ↔ _
      rw [State.mem_take_requests, asks_eq, ahead_eq]
      rfl
    obtain ⟨u, grants, slips, disjoint⟩ := s.grantRound_round
    have mem (k : Outlet) (h : asks k = true) : k ∈ s.requests.take s.freeSlots ∨ k ∈ s.requests.drop s.freeSlots := by
      rw [← List.mem_append, List.take_append_drop, State.mem_requests, ← asks_eq]
      exact h
    have slots : s.grantRound.slots = s.slots ++ s.requests.take s.freeSlots := (congrArg State.slots slips.rest :).trans grants.slots
    have sequencer (b : Branch) : s.grantRound.sequencer b = u.sequencer b := by
      rw [State.sequencer, (congrArg State.sequencers slips.rest :)]; rfl
    refine ⟨_, congrArg Host.Outcome.next (State.running_high high), ?_, fun k => ?_, fun b => ⟨?_, ?_⟩, fun k calm => ?_,
      fun k st takes step => ?_, fun k st wants misses step => ?_⟩
    · exact (congrArg (fun v : State => { v with drivers := s.drivers, slots := s.slots, sequencers := s.sequencers })
        slips.rest).trans grants.rest
    · rw [slots, List.mem_append, granted_iff]
    · rw [sequencer]; exact grants.sequencer b
    · rw [sequencer, grants.pulseMark b]
      simp only [granted_iff]
    · have out : k ∉ s.requests := fun h => absurd (State.mem_requests.mp h) (by rw [← asks_eq, calm]; decide)
      rw [slips.others k (mt List.mem_of_mem_drop out), grants.others k (mt List.mem_of_mem_take out)]
    · have taken := (granted_iff k).mp takes
      have driver : s.grantRound.driver k = (s.driver k).granted st :=
        (slips.others k fun h => disjoint k h taken).trans (grants.granted k st taken step)
      rw [slots, driver]
      refine ⟨List.mem_append_right _ taken, rfl, rfl, ?_⟩
      show st.direction.coil = _
      cases st.direction <;> rfl
    · have left := (mem k wants).resolve_left (mt (granted_iff k).mpr misses)
      have same := grants.others k (disjoint k left)
      rw [slips.slipped k st left (by rw [same]; exact step), same]
      rfl
  · exact congrArg Host.Outcome.next (State.running_id (State.pulseTurn_idle out))
  · have turn : s.pulseTurn k = (s.coilFree k).endPreempted k e := by
      rw [State.pulseTurn_of pulse step, if_pos ended, State.endPulse, State.releaseCoil_eq ended]
      exact State.afterPulse_preempted (s := s.coilFree k) own entry mark
    have acts : Acts s (s.pulseTurn k) := (Acts.refl s).pulseTurn k
    have waiting' : ((s.coilFree k).driver k).waitingUrgent = some mode := by rw [State.coilFree_driver]; exact waiting
    have took := State.endPreempted_took (s := s.coilFree k) waiting' entry distinct
    have coil : ((s.coilFree k).driver k).coil = .released := by rw [State.coilFree_driver]
    rw [turn] at acts
    refine ⟨_, congrArg Host.Outcome.next ((State.running_high high).trans turn), took.contact, took.entry, took.coil.trans coil,
      took.slots, took.state, took.step, acts.sameOutside, took.ports, fun lines closing => ?_⟩
    have out : e.id ∉ ((s.coilFree k).sequencer ((s.coilFree k).branchOf k)).line := by
      intro inLine
      obtain ⟨e', live, same, phase, -⟩ := (lines (s.branchOf k)).2.1 _ inLine
      have eq := distinct.eq_of_id live (State.mem_of_entryOf entry) same
      rw [eq, closing] at phase
      exact absurd phase (by decide)
    exact ⟨_, State.complete_closeEnds (s := ((s.coilFree k).driverFree k).moved k .unknown) high entry out .preempted .none, took.rest⟩
  · refine congrArg Host.Outcome.next (State.running_id ?_)
    rw [State.pulseTurn_of pulse step, if_neg (Nat.ne_of_gt left)]
  all_goals
    have turn : s.pulseTurn k = (s.coilFree k).judgePulse k st := by
      rw [State.pulseTurn_of pulse step, if_pos ended, State.endPulse, State.releaseCoil_eq ended]
      exact State.afterPulse_judged (s := s.coilFree k) plain st
    have acts : Acts s (s.pulseTurn k) := (Acts.refl s).pulseTurn k
  · have verifies : ¬(!st.sync || st.feedLeft) = true := by rw [sync, kept]; decide
    refine congrArg Host.Outcome.next ((State.running_high high).trans (turn.trans ((if_neg verifies).trans ?_)))
    rw [State.coilFree_driver]
    show { s with drivers := put (put s.drivers k _) k _, slots := _ } = _
    rw [put_put]
    rfl
  · have ends : (!st.sync || st.feedLeft) = true := by
      rcases unverified with h | h <;> rw [h] <;> simp
    have eq : s.pulseTurn k = (s.coilFree k).endStep k st .unverified := turn.trans (if_pos ends)
    have stepOnly := (s.coilFree k).endStep_step k st .unverified
    have free : ((s.coilFree k).driverFree k).driver k = ((s.coilFree k).driver k).idle := look_put_self ..
    rw [eq] at acts
    refine ⟨_, congrArg Host.Outcome.next ((State.running_high high).trans eq), (s.coilFree k).endStep_contact k st .unverified, ?_,
      (congrArg State.slots stepOnly.rest :), acts.only, fun distinct lines =>
        State.endStep_ends (s := s.coilFree k) high distinct lines k st .unverified⟩
    rw [stepOnly.coil, State.moved_driver, if_pos rfl, free, State.coilFree_driver]
    rfl

end Sys2Proof.Machine

/-! PROOF. How a branch sheds: each outlet's turn, the run over the outlets, and SHED (O46). -/

namespace Sys2Proof.Machine

variable {s t u : State} {x : Link} {j k : Outlet} {b : Branch} {e : Entry} {st : Step} {mode : UrgentMode}

/-! ### Acts on one outlet of a shut branch -/

/-- Whether outlet `j`'s branch is neither NORMAL nor RESTORING. -/
def State.ShutAt (s : State) (j : Outlet) : Prop :=
  (s.protection (s.branchOf j)).state ≠ .normal ∧ (s.protection (s.branchOf j)).state ≠ .restoring

/-- `t` follows from acts on outlet `j` alone: the other outlets' drivers and entries stay, and so do all the branches. -/
structure State.ActsAt (j : Outlet) (s t : State) : Prop where
  rest : { t with
    entries := s.entries, sequencers := s.sequencers, drivers := s.drivers, monitors := s.monitors, ports := s.ports
    handling := s.handling } = s
  drivers : ∀ i, i ≠ j → t.driver i = s.driver i
  free : ∀ i, s.entryOf i = none → t.entryOf i = none
  kept : s.EntriesDistinct → t.EntriesDistinct ∧ ∀ i, i ≠ j → t.entryOf i = s.entryOf i

theorem State.ActsAt.refl (j : Outlet) (s : State) : s.ActsAt j s := ⟨rfl, fun _ _ => rfl, fun _ => id, fun d => ⟨d, fun _ _ => rfl⟩⟩

theorem State.ActsAt.trans (h : s.ActsAt j t) (g : t.ActsAt j u) : s.ActsAt j u where
  rest := (congrArg (fun v : State => { v with
    entries := s.entries, sequencers := s.sequencers, drivers := s.drivers, monitors := s.monitors, ports := s.ports
    handling := s.handling }) g.rest).trans h.rest
  drivers i ne := (g.drivers i ne).trans (h.drivers i ne)
  free i none := g.free i (h.free i none)
  kept distinct := by
    obtain ⟨d, same⟩ := h.kept distinct
    obtain ⟨d', same'⟩ := g.kept d
    exact ⟨d', fun i ne => (same' i ne).trans (same i ne)⟩

theorem State.ActsAt.protections (h : s.ActsAt j t) : t.protections = s.protections := (congrArg State.protections h.rest :)

theorem State.ActsAt.settings (h : s.ActsAt j t) : t.settings = s.settings := (congrArg State.settings h.rest :)

theorem State.ActsAt.shut (h : s.ActsAt j t) (shut : s.ShutAt j) : t.ShutAt j := by
  have branch : t.branchOf j = s.branchOf j := by rw [State.branchOf, h.settings]; rfl
  rwa [State.ShutAt, branch, State.protection_of_eq h.protections]

theorem State.ActsAt.setDriver (h : s.ActsAt j t) (d : Driver) : s.ActsAt j (t.setDriver j d) :=
  h.trans ⟨rfl, fun _ ne => look_put_other _ _ ne, fun _ => id, fun d => ⟨d, fun _ _ => rfl⟩⟩

theorem State.ActsAt.post (h : s.ActsAt j t) (body : EventBody) (source : EventOrigin) : s.ActsAt j (t.post body source) :=
  h.trans ⟨rfl, fun _ _ => rfl, fun _ => id, fun d => ⟨d, fun _ _ => rfl⟩⟩

theorem State.ActsAt.note (h : s.ActsAt j t) (f : Handling → Handling) : s.ActsAt j (t.note f) :=
  h.trans ⟨rfl, fun _ _ => rfl, fun _ => id, fun d => ⟨d, fun _ _ => rfl⟩⟩

theorem State.ActsAt.setSequencer (h : s.ActsAt j t) (b : Branch) (q : Sequencer) : s.ActsAt j (t.setSequencer b q) :=
  h.trans ⟨rfl, fun _ _ => rfl, fun _ => id, fun d => ⟨d, fun _ _ => rfl⟩⟩

theorem State.ActsAt.ite {p : Prop} [Decidable p] (h : p → s.ActsAt j t) (g : ¬p → s.ActsAt j u) :
    s.ActsAt j (if p then t else u) := by
  split
  · next yes => exact h yes
  · next no => exact g no

/-- An entry of the outlet changed in place. -/
theorem State.ActsAt.modEntry (entry : s.entryOf j = some e) {f : Entry → Entry} (ids : ∀ e, (f e).id = e.id)
    (outlets : ∀ e, (f e).outlet = e.outlet) : s.ActsAt j (s.modEntry e.id f) := by
  refine ⟨rfl, fun _ _ => rfl, fun i none => ?_, fun distinct => ⟨((Acts.refl s).modEntry e.id f ids outlets).distinct distinct,
    fun i ne => ?_⟩⟩
  · rw [s.modEntry_entryOf e.id outlets i, none]; rfl
  · rw [s.modEntry_entryOf e.id outlets i]
    cases other : s.entryOf i with
    | none => rfl
    | some e' =>
      have apart : e'.id ≠ e.id := fun same => ne (by
        rw [← State.outlet_of_entryOf other, ← State.outlet_of_entryOf entry,
          distinct.eq_of_id (State.mem_of_entryOf other) (State.mem_of_entryOf entry) same])
      rw [Option.map_some, if_neg apart]

theorem State.sequencerCompletion_shut (shut : (s.protection b).state ≠ .normal ∧ (s.protection b).state ≠ .restoring) (id : Byte) :
    ∃ q, s.sequencerCompletion b id = s.setSequencer b q := by
  unfold State.sequencerCompletion State.leaveLine
  dsimp only
  split
  · obtain ⟨r, closed⟩ := State.endClose_shut shut (s.sequencer b)
    rw [s.setSequencer_self b] at closed
    exact ⟨_, closed⟩
  · split
    · split
      · obtain ⟨r, tested⟩ := State.testHead_shut (s := s.setSequencer b _) shut
        exact ⟨_, tested.trans (State.setSequencer_setSequencer ..)⟩
      · exact ⟨_, rfl⟩
    · exact ⟨_, (s.setSequencer_self b).symm⟩

/-- A completion in a shut branch admits no other entry (R97). -/
theorem State.complete_shut (entry : s.entryOf j = some e) (shut : s.ShutAt j) (r : ActionResult) (d : ResultDetail) :
    ∃ q, s.complete e r d = (s.ended e r d).setSequencer (s.branchOf j) q := by
  have outlet := State.outlet_of_entryOf entry
  subst outlet
  rw [State.complete_eq]
  exact State.sequencerCompletion_shut (s := s.ended e r d) shut e.id

theorem State.ended_at (entry : s.entryOf j = some e) (r : ActionResult) (d : ResultDetail) : s.ActsAt j (s.ended e r d) := by
  refine ⟨rfl, fun _ _ => rfl, fun i none => ?_, fun distinct => ⟨?_, fun i ne => ?_⟩⟩
  · exact List.find?_eq_none.mpr fun e' live => List.find?_eq_none.mp none e' (List.mem_filter.mp live).1
  · exact ((Acts.refl s).filterEntries fun e' => e'.id != e.id).distinct distinct
  · refine (List.find?_filter ..).trans (List.find?_congr fun e' live => ?_)
    rw [Bool.eq_iff_iff, decide_eq_true_iff, bne_iff_ne, beq_iff_eq, and_iff_right_iff_imp]
    intro outlet same
    have eq := distinct.eq_of_id live (State.mem_of_entryOf entry) same
    exact ne (outlet ▸ eq ▸ State.outlet_of_entryOf entry)

theorem State.complete_at (entry : s.entryOf j = some e) (shut : s.ShutAt j) (r : ActionResult) (d : ResultDetail) :
    s.ActsAt j (s.complete e r d) := by
  obtain ⟨q, eq⟩ := State.complete_shut entry shut r d
  rw [eq]
  exact (State.ended_at entry r d).setSequencer ..

/-- A completion in a shut branch leaves the drivers. -/
theorem State.complete_drivers (entry : s.entryOf j = some e) (shut : s.ShutAt j) (r : ActionResult) (d : ResultDetail) :
    (s.complete e r d).drivers = s.drivers := by
  obtain ⟨q, eq⟩ := State.complete_shut entry shut r d
  rw [eq]
  rfl

/-! ### What a shed does at one outlet -/

theorem State.setContact_unknown (s : State) (k : Outlet) : s.setContact k .unknown = s.moved k .unknown :=
  (State.setContact_moved ..).trans (if_neg fun h : _ ∧ Contact.unknown = .opened => absurd h.2 (by decide))

theorem State.ActsAt.takeUrgent (h : s.ActsAt j t) (mode : UrgentMode) : s.ActsAt j (t.takeUrgent j mode) := h.setDriver _

theorem State.ActsAt.urgentAtDriver (h : s.ActsAt j t) (mode : UrgentMode) : s.ActsAt j (t.urgentAtDriver j mode) := by
  have unknown : s.ActsAt j ((t.setContact j .unknown).takeUrgent j mode) := by
    have moved : t.ActsAt j (t.moved j .unknown) :=
      ⟨rfl, fun i ne => look_put_other _ _ ne, fun _ => id, fun d => ⟨d, fun _ _ => rfl⟩⟩
    rw [State.setContact_unknown]
    exact (h.trans moved).takeUrgent mode
  unfold State.urgentAtDriver
  dsimp only
  split
  · split
    · exact h
    · exact h.post ..
  · exact .ite (fun _ => h) fun _ => h.takeUrgent mode
  · exact h.takeUrgent mode
  · split
    · exact h.setDriver _
    · split
      · exact h.setDriver _
      · exact h.setDriver _
      · exact h.setDriver _
      · exact unknown
      · exact h.takeUrgent mode

theorem State.preemptEntry_of (entry : s.entryOf j = some e) : s.preemptEntry j =
    if e.phase = .closing ∧ (s.driver j).state = .pulse then s.modEntry e.id fun x => { x with preempt := true }
    else s.complete e .preempted .none := by
  simp only [State.preemptEntry, entry]

theorem State.preemptEntry_none (none : s.entryOf j = none) : s.preemptEntry j = s := by
  simp only [State.preemptEntry, none]

theorem State.preemptEntry_at (shut : s.ShutAt j) : s.ActsAt j (s.preemptEntry j) := by
  cases entry : s.entryOf j with
  | none => rw [State.preemptEntry_none entry]; exact .refl j s
  | some e =>
    rw [State.preemptEntry_of entry]
    exact .ite (fun _ => .modEntry entry (fun _ => rfl) fun _ => rfl) fun _ => State.complete_at entry shut ..

theorem State.preemptEntry_drivers (shut : s.ShutAt j) : (s.preemptEntry j).drivers = s.drivers := by
  cases entry : s.entryOf j with
  | none => rw [State.preemptEntry_none entry]
  | some e =>
    rw [State.preemptEntry_of entry]
    split
    · rfl
    · exact State.complete_drivers entry shut ..

theorem State.urgentOpen_at (shut : s.ShutAt j) (mode : UrgentMode) : s.ActsAt j (s.urgentOpen j mode) :=
  (State.preemptEntry_at shut).urgentAtDriver mode

theorem State.preemptQuietly_at (entry : s.entryOf j = some e) (shut : s.ShutAt j) : s.ActsAt j (s.preemptQuietly j e) := by
  refine .ite (fun _ => ?_) fun _ => State.complete_at entry shut ..
  have gaveUp : s.ActsAt j (s.giveUp j) := (State.ActsAt.refl j s).setDriver _
  exact gaveUp.trans (State.complete_at (s := s.giveUp j) entry (gaveUp.shut shut) ..)

theorem State.withdrawClose_at (shut : s.ShutAt j) : s.ActsAt j (s.withdrawClose j) := by
  cases entry : s.entryOf j with
  | none =>
    have eq : s.withdrawClose j = s.giveUp j := by simp only [State.withdrawClose, entry]
    rw [eq]
    exact (State.ActsAt.refl j s).setDriver _
  | some e =>
    have gaveUp : s.ActsAt j (s.giveUp j) := (State.ActsAt.refl j s).setDriver _
    have given : s.ActsAt j (s.closeGivenUp j e) :=
      (gaveUp.trans (.modEntry (s := s.giveUp j) (f := fun x => { x with phase := .waitAdmit }) entry (fun _ => rfl) fun _ => rfl)).note _
    obtain ⟨r, closed⟩ := State.endClose_shut (s := s.closeGivenUp j e) (b := s.branchOf j) shut
      { s.sequencer (s.branchOf j) with line := e.id :: (s.sequencer (s.branchOf j)).line.erase e.id }
    rw [State.withdrawClose_of entry, closed]
    exact given.setSequencer ..

theorem State.shedTripped_at (shut : s.ShutAt j) (mode : UrgentMode) : s.ActsAt j (s.shedTripped j mode) := by
  unfold State.shedTripped
  split
  · exact .refl j s
  · next e entry =>
    exact .ite (fun _ => .ite (fun _ => State.preemptEntry_at shut) fun _ => State.urgentOpen_at shut mode)
      fun _ => .ite (fun _ => .refl j s) fun _ => State.preemptQuietly_at entry shut

theorem State.shedKeep_at (shut : s.ShutAt j) : s.ActsAt j (s.shedKeep j) := by
  unfold State.shedKeep
  split
  · exact .refl j s
  · exact .ite (fun _ => State.withdrawClose_at shut) fun _ => .refl j s

/-! ### The victims of a shed -/

theorem State.addVictim_protection (s : State) (b : Branch) (k : Outlet) (c : Branch) : (s.addVictim b k).protection c =
    if c = b then { s.protection b with victims := put (s.protection b).victims k true } else s.protection c :=
  State.setProtection_protection ..

theorem State.addVictim_shut (shut : s.ShutAt j) : (s.addVictim b k).ShutAt j := by
  unfold State.ShutAt
  rw [State.addVictim_protection]
  split
  · next same => exact same ▸ shut
  · exact shut

/-- Whether a shed takes outlet `j` among the victims by its own state: not OPEN, or with a CLOSE or CYCLE (R131). -/
def State.Sheds (s : State) (j : Outlet) : Prop := s.contact j ≠ .opened ∨ ∃ e, s.entryOf j = some e ∧ e.kind ≠ .opening

/-- An outlet's turn in a shed of branch `b`: acts on it alone, with it among the victims or not. -/
structure State.ShedAt (b : Branch) (j : Outlet) (s t : State) : Prop where
  acts : ∃ v, (v = s ∨ v = s.addVictim b j) ∧ v.ActsAt j t
  gains : look s.settings.shedMode j ≠ .keep → s.isTripped j = false → s.Sheds j → (s.addVictim b j).ActsAt j t
  stays : look s.settings.shedMode j = .keep ∨ s.isTripped j = true ∨ s.contact j = .opened ∧ s.entryOf j = none → s.ActsAt j t

theorem State.needsUrgent_of_contact (away : s.contact j ≠ .opened) : s.needsUrgent j = true :=
  Bool.or_eq_true_iff.mpr (.inl (bne_iff_ne.mpr away))

theorem State.needsUrgent_calm (opened : s.contact j = .opened) (none : s.entryOf j = none) : s.needsUrgent j = false := by
  simp only [State.needsUrgent, opened, none, bne_self_eq_false, Bool.or_false]

theorem State.shedOpen_of_entry (calm : s.needsUrgent j = false) (entry : s.entryOf j = some e) (mode : UrgentMode) :
    s.shedOpen b j mode = if e.kind = .opening then s else (s.addVictim b j).preemptQuietly j e := by
  simp only [State.shedOpen, calm, entry, Bool.false_eq_true, if_false]

theorem State.shedOpen_of_none (calm : s.needsUrgent j = false) (none : s.entryOf j = none) (mode : UrgentMode) :
    s.shedOpen b j mode = s := by
  simp only [State.shedOpen, calm, none, Bool.false_eq_true, if_false]

theorem State.shedOpen_victim (sheds : s.Sheds j) (shut : s.ShutAt j) (mode : UrgentMode) :
    (s.addVictim b j).ActsAt j (s.shedOpen b j mode) := by
  cases urgent : s.needsUrgent j with
  | true =>
    rw [State.shedOpen, if_pos urgent]
    exact State.urgentOpen_at (State.addVictim_shut shut) mode
  | false =>
    have opened : s.contact j = .opened := by
      by_contra away
      exact absurd ((State.needsUrgent_of_contact away).symm.trans urgent) (by decide)
    obtain ⟨e, entry, kind⟩ := sheds.resolve_left (not_not_intro opened)
    rw [State.shedOpen_of_entry urgent entry, if_neg kind]
    exact State.preemptQuietly_at (s := s.addVictim b j) entry (State.addVictim_shut shut)

theorem State.shedOpen_calm (calm : ¬s.Sheds j) (mode : UrgentMode) : s.shedOpen b j mode = s ∨
    ∃ e, s.entryOf j = some e ∧ s.needsUrgent j = true := by
  obtain ⟨opened, kinds⟩ := not_or.mp calm
  cases urgent : s.needsUrgent j with
  | true =>
    cases entry : s.entryOf j with
    | none => exact absurd (urgent.symm.trans (State.needsUrgent_calm (not_not.mp opened) entry)) (by decide)
    | some e => exact .inr ⟨e, rfl, rfl⟩
  | false =>
    cases entry : s.entryOf j with
    | none => exact .inl (State.shedOpen_of_none urgent entry mode)
    | some e =>
      left
      rw [State.shedOpen_of_entry urgent entry, if_pos (not_not.mp fun kind => kinds ⟨e, entry, kind⟩)]

theorem State.shedOpen_at (shut : s.ShutAt j) (mode : UrgentMode) :
    ∃ v, (v = s ∨ v = s.addVictim b j) ∧ v.ActsAt j (s.shedOpen b j mode) := by
  by_cases sheds : s.Sheds j
  · exact ⟨_, .inr rfl, State.shedOpen_victim sheds shut mode⟩
  · rcases State.shedOpen_calm (b := b) sheds mode with same | ⟨e, -, urgent⟩
    · exact ⟨s, .inl rfl, by rw [same]; exact .refl j s⟩
    · refine ⟨_, .inr rfl, ?_⟩
      rw [State.shedOpen, if_pos urgent]
      exact State.urgentOpen_at (State.addVictim_shut shut) mode

theorem State.shedOutlet_open (plain : s.isTripped j = false) (modes : look s.settings.shedMode j ≠ .keep) :
    ∃ mode, State.shedOutlet b s j = s.shedOpen b j mode ∧
      (look s.settings.shedMode j = .openNow → mode = .openNow) ∧ (look s.settings.shedMode j = .openSync → mode = .openSync) := by
  unfold State.shedOutlet
  rw [plain]
  cases chosen : look s.settings.shedMode j with
  | keep => exact absurd chosen modes
  | openNow => exact ⟨.openNow, rfl, fun _ => rfl, nofun⟩
  | openSync => exact ⟨.openSync, rfl, nofun, fun _ => rfl⟩

theorem State.shedOutlet_shed (shut : s.ShutAt j) : s.ShedAt b j (State.shedOutlet b s j) := by
  have plainCase (plain : s.isTripped j = false) (modes : look s.settings.shedMode j ≠ .keep) :
      s.ShedAt b j (State.shedOutlet b s j) := by
    obtain ⟨mode, eq, -, -⟩ := State.shedOutlet_open (b := b) plain modes
    rw [eq]
    refine ⟨State.shedOpen_at shut mode, fun _ _ sheds => State.shedOpen_victim sheds shut mode, fun stays => ?_⟩
    rcases stays with keep | tripped | ⟨opened, none⟩
    · exact absurd keep modes
    · exact absurd (plain.symm.trans tripped) (by decide)
    · rw [State.shedOpen_of_none (State.needsUrgent_calm opened none) none]
      exact .refl j s
  have quiet (t : State) (acts : s.ActsAt j t) (out : look s.settings.shedMode j ≠ .keep → s.isTripped j = false → False) :
      s.ShedAt b j t :=
    ⟨⟨s, .inl rfl, acts⟩, fun modes plain _ => (out modes plain).elim, fun _ => acts⟩
  by_cases keep : look s.settings.shedMode j = .keep
  · have eq : State.shedOutlet b s j = s.shedKeep j := by simp only [State.shedOutlet, keep]
    rw [eq]
    exact quiet _ (State.shedKeep_at shut) fun modes => absurd keep modes
  · cases tripped : s.isTripped j with
    | false => exact plainCase tripped keep
    | true =>
      refine quiet _ ?_ fun _ plain => absurd (tripped.symm.trans plain) (by decide)
      unfold State.shedOutlet
      rw [tripped]
      split
      · exact State.shedKeep_at shut
      · exact State.shedTripped_at shut .openNow
      · exact State.shedTripped_at shut .openSync

/-! ### The urgent open of an idle driver -/

theorem State.urgentAtDriver_idle (idle : (s.driver k).state = .idle) (away : s.contact k ≠ .opened) (mode : UrgentMode) :
    s.urgentAtDriver k mode = s.takeUrgent k mode := by
  have away' : ¬(s.driver k).contact = .opened := away
  simp only [State.urgentAtDriver, idle, away', if_false]

/-- Outlet `k`'s driver has taken an urgent open of a mode (R120). -/
structure State.Urged (s : State) (k : Outlet) (mode : UrgentMode) (t : State) : Prop where
  state : (t.driver k).state = if mode = .openSync ∧ (s.tracker (s.feedOf k)).state = .tracking then .waitPhase else .waitSlot
  step : ∃ st, (t.driver k).step = some st ∧ st.direction = .opening ∧ st.source = .urgent mode

theorem State.takeUrgent_driver (s : State) (k : Outlet) (mode : UrgentMode) : (s.takeUrgent k mode).driver k =
    { (s.driver k).idle with
      step := some (s.newStep k .opening (.urgent mode))
      state := if mode = .openSync ∧ (s.tracker (s.feedOf k)).state = .tracking then .waitPhase else .waitSlot } := by
  refine (look_put_self ..).trans ?_
  simp only [State.newStep, State.isTracking, beq_iff_eq, and_comm]

theorem State.takeUrgent_urged (s : State) (k : Outlet) (mode : UrgentMode) : s.Urged k mode (s.takeUrgent k mode) := by
  refine ⟨?_, _, congrArg Driver.step (look_put_self ..), rfl, rfl⟩
  rw [State.takeUrgent_driver]

theorem State.Urged.of_same {t' : State} (h : s.Urged k mode t) (settings : s.settings = u.settings) (trackers : s.trackers = u.trackers)
    (driver : t'.driver k = t.driver k) : u.Urged k mode t' := by
  have feed : s.feedOf k = u.feedOf k := by simp only [State.feedOf, State.branchFeedOf, State.branchOf, settings]
  have tracker (f : Feed) : s.tracker f = u.tracker f := by rw [State.tracker, trackers]; rfl
  obtain ⟨state, step⟩ := h
  rw [feed, tracker] at state
  exact ⟨driver ▸ state, driver ▸ step⟩

theorem State.shedOutlet_urged (shut : s.ShutAt j) (plain : s.isTripped j = false) (modes : look s.settings.shedMode j ≠ .keep)
    (idle : (s.driver j).state = .idle) (away : s.contact j ≠ .opened) : ∃ mode, s.Urged j mode (State.shedOutlet b s j) ∧
      (look s.settings.shedMode j = .openNow → mode = .openNow) ∧ (look s.settings.shedMode j = .openSync → mode = .openSync) := by
  obtain ⟨mode, eq, now, sync⟩ := State.shedOutlet_open (b := b) plain modes
  let v := s.addVictim b j
  have preempted := State.preemptEntry_at (s := v) (State.addVictim_shut shut)
  have drivers := State.preemptEntry_drivers (s := v) (State.addVictim_shut shut)
  have driver : (v.preemptEntry j).driver j = s.driver j := by rw [State.driver, drivers]; rfl
  have taken : State.shedOutlet b s j = (v.preemptEntry j).takeUrgent j mode := by
    rw [eq, State.shedOpen, if_pos (State.needsUrgent_of_contact away)]
    refine State.urgentAtDriver_idle (s := v.preemptEntry j) (by rw [driver]; exact idle) ?_ mode
    rw [State.contact, driver]
    exact away
  refine ⟨mode, ?_, now, sync⟩
  rw [taken]
  exact ((v.preemptEntry j).takeUrgent_urged j mode).of_same preempted.settings (congrArg State.trackers preempted.rest :) rfl

/-! ### The run over the outlets -/

/-- What the turns of the outlets of `l` in a shed of branch `b` leave. -/
structure State.ShedOver (b : Branch) (l : List Outlet) (s t : State) : Prop where
  rest : { t with
    entries := s.entries, sequencers := s.sequencers, drivers := s.drivers, monitors := s.monitors, ports := s.ports
    handling := s.handling, protections := s.protections } = s
  branches : ∀ c, c ≠ b → t.protection c = s.protection c
  own : ∃ v, t.protection b = { s.protection b with victims := v }
  gains : ∀ i, look (s.protection b).victims i = true → look (t.protection b).victims i = true
  victims : ∀ i, i ∉ l → look (t.protection b).victims i = look (s.protection b).victims i
  drivers : ∀ i, i ∉ l → t.driver i = s.driver i
  free : ∀ i, s.entryOf i = none → t.entryOf i = none
  kept : s.EntriesDistinct → t.EntriesDistinct ∧ ∀ i, i ∉ l → t.entryOf i = s.entryOf i

theorem State.ShedOver.refl (b : Branch) (l : List Outlet) (s : State) : s.ShedOver b l s :=
  ⟨rfl, fun _ _ => rfl, ⟨_, rfl⟩, fun _ => id, fun _ _ => rfl, fun _ _ => rfl, fun _ => id, fun d => ⟨d, fun _ _ => rfl⟩⟩

theorem State.ShedOver.trans {l : List Outlet} (h : s.ShedOver b l t) (g : t.ShedOver b l u) : s.ShedOver b l u where
  rest := (congrArg (fun v : State => { v with
    entries := s.entries, sequencers := s.sequencers, drivers := s.drivers, monitors := s.monitors, ports := s.ports
    handling := s.handling, protections := s.protections }) g.rest).trans h.rest
  branches c ne := (g.branches c ne).trans (h.branches c ne)
  own := by
    obtain ⟨v, hv⟩ := h.own
    obtain ⟨w, hw⟩ := g.own
    exact ⟨w, by rw [hw, hv]⟩
  gains i victim := g.gains i (h.gains i victim)
  victims i out := (g.victims i out).trans (h.victims i out)
  drivers i out := (g.drivers i out).trans (h.drivers i out)
  free i none := g.free i (h.free i none)
  kept distinct := by
    obtain ⟨d, same⟩ := h.kept distinct
    obtain ⟨d', same'⟩ := g.kept d
    exact ⟨d', fun i out => (same' i out).trans (same i out)⟩

theorem State.ShedOver.mono {l m : List Outlet} (h : s.ShedOver b l t) (more : ∀ i, i ∈ l → i ∈ m) : s.ShedOver b m t where
  rest := h.rest
  branches := h.branches
  own := h.own
  gains := h.gains
  victims i out := h.victims i (mt (more i) out)
  drivers i out := h.drivers i (mt (more i) out)
  free := h.free
  kept distinct := ⟨(h.kept distinct).1, fun i out => (h.kept distinct).2 i (mt (more i) out)⟩

theorem State.ActsAt.shedOver (h : s.ActsAt j t) (b : Branch) : s.ShedOver b [j] t where
  rest := congrArg (fun v : State => { v with protections := s.protections }) h.rest
  branches c _ := State.protection_of_eq h.protections c
  own := ⟨_, State.protection_of_eq h.protections b⟩
  gains i victim := (State.protection_of_eq h.protections b).symm ▸ victim
  victims i _ := by rw [State.protection_of_eq h.protections b]
  drivers i out := h.drivers i (mt List.mem_singleton.mpr out)
  free := h.free
  kept distinct := ⟨(h.kept distinct).1, fun i out => (h.kept distinct).2 i (mt List.mem_singleton.mpr out)⟩

theorem State.addVictim_shedOver (s : State) (b : Branch) (j : Outlet) : s.ShedOver b [j] (s.addVictim b j) := by
  have own := (s.addVictim_protection b j b).trans (if_pos rfl)
  refine ⟨rfl, fun c ne => (s.addVictim_protection b j c).trans (if_neg ne), ⟨_, own⟩, fun i victim => ?_, fun i out => ?_,
    fun _ _ => rfl, fun _ => id, fun d => ⟨d, fun _ _ => rfl⟩⟩
  · rw [own, look_put]
    split
    · rfl
    · exact victim
  · rw [own, look_put, if_neg (mt List.mem_singleton.mpr out)]

theorem State.addVictim_victim (s : State) (b : Branch) (j : Outlet) : look ((s.addVictim b j).protection b).victims j = true := by
  rw [State.addVictim_protection, if_pos rfl]
  exact look_put_self ..

theorem State.ShedAt.shedOver (h : s.ShedAt b j t) : s.ShedOver b [j] t := by
  obtain ⟨v, rfl | rfl, acts⟩ := h.acts
  · exact acts.shedOver b
  · exact (s.addVictim_shedOver b j).trans (acts.shedOver b)

theorem State.ShedOver.settings {l : List Outlet} (h : s.ShedOver b l t) : t.settings = s.settings := (congrArg State.settings h.rest :)

theorem State.ShedOver.branchOf {l : List Outlet} (h : s.ShedOver b l t) (k : Outlet) : t.branchOf k = s.branchOf k := by
  rw [State.branchOf, h.settings]; rfl

theorem State.ShedOver.isTripped {l : List Outlet} (h : s.ShedOver b l t) (k : Outlet) : t.isTripped k = s.isTripped k := by
  rw [State.isTripped, (congrArg State.tripped h.rest :)]; rfl

theorem State.ShedOver.state {l : List Outlet} (h : s.ShedOver b l t) : (t.protection b).state = (s.protection b).state := by
  obtain ⟨v, own⟩ := h.own
  rw [own]

/-- What the turns of a shed leave at each of the outlets of `l`. -/
structure State.ShedTurns (b : Branch) (l : List Outlet) (s t : State) : Prop extends State.ShedOver b l s t where
  sheds : s.EntriesDistinct → ∀ k, k ∈ l → look s.settings.shedMode k ≠ .keep → s.isTripped k = false → s.Sheds k →
    look (t.protection b).victims k = true
  stays : ∀ k, k ∈ l → look s.settings.shedMode k = .keep ∨ s.isTripped k = true ∨ s.contact k = .opened ∧ s.entryOf k = none →
    look (t.protection b).victims k = look (s.protection b).victims k
  urged : ∀ k, k ∈ l → s.isTripped k = false → look s.settings.shedMode k ≠ .keep → (s.driver k).state = .idle →
    s.contact k ≠ .opened → ∃ mode, s.Urged k mode t ∧ (look s.settings.shedMode k = .openNow → mode = .openNow) ∧
      (look s.settings.shedMode k = .openSync → mode = .openSync)

theorem State.ShedTurns.cons {l : List Outlet} (shut : s.ShutAt j) (fresh : j ∉ l)
    (later : (State.shedOutlet b s j).ShedTurns b l t) : s.ShedTurns b (j :: l) t := by
  have shed := State.shedOutlet_shed (b := b) shut
  have first := shed.shedOver
  have urge := State.shedOutlet_urged (b := b) shut
  obtain ⟨w, isW⟩ : ∃ w, w = State.shedOutlet b s j := ⟨_, rfl⟩
  rw [← isW] at later shed first urge
  have both : s.ShedOver b (j :: l) t :=
    (first.mono fun i mem => List.mem_singleton.mp mem ▸ List.mem_cons_self ..).trans
      (later.toShedOver.mono fun i mem => List.mem_cons_of_mem _ mem)
  have apart {k : Outlet} (mem : k ∈ l) : k ∉ [j] := fun h => fresh (List.mem_singleton.mp h ▸ mem)
  have contact {k : Outlet} (mem : k ∈ l) : w.contact k = s.contact k := by
    rw [State.contact, first.drivers k (apart mem)]; rfl
  refine ⟨both, fun distinct k mem modes plain sheds => ?_, fun k mem calm => ?_, fun k mem plain modes idle away => ?_⟩
  · rcases List.mem_cons.mp mem with rfl | mem
    · have victim := ((shed.gains modes plain sheds).shedOver b).gains k (s.addVictim_victim b k)
      exact later.gains k victim
    · obtain ⟨distinct', same⟩ := first.kept distinct
      refine later.sheds distinct' k mem (by rw [first.settings]; exact modes) ((first.isTripped k).trans plain) ?_
      rw [State.Sheds, contact mem, same k (apart mem)]
      exact sheds
  · rcases List.mem_cons.mp mem with rfl | mem
    · rw [later.victims k fresh, State.protection_of_eq (shed.stays calm).protections]
    · refine (later.stays k mem ?_).trans (first.victims k (apart mem))
      rw [first.settings, first.isTripped, contact mem]
      exact calm.imp_right (Or.imp_right fun h => ⟨h.1, first.free k h.2⟩)
  · rcases List.mem_cons.mp mem with rfl | mem
    · obtain ⟨mode, urged, named⟩ := urge plain modes idle away
      exact ⟨mode, urged.of_same rfl rfl (later.drivers k fresh), named⟩
    · obtain ⟨mode, urged, named⟩ := later.urged k mem ((first.isTripped k).trans plain) (by rw [first.settings]; exact modes)
        (by rw [first.drivers k (apart mem)]; exact idle) (by rw [contact mem]; exact away)
      rw [first.settings] at named
      exact ⟨mode, urged.of_same first.settings (congrArg State.trackers first.rest :) rfl, named⟩

theorem State.shedOutlets_turns {l : List Outlet} : ∀ {s : State}, l.Nodup → (∀ k, k ∈ l → s.branchOf k = b) →
    (s.protection b).state ≠ .normal ∧ (s.protection b).state ≠ .restoring → s.ShedTurns b l (l.foldl (State.shedOutlet b) s) := by
  induction l with
  | nil =>
    intro s _ _ _
    exact ⟨.refl b [] s, fun _ _ h => absurd h List.not_mem_nil, fun _ h => absurd h List.not_mem_nil,
      fun _ h => absurd h List.not_mem_nil⟩
  | cons j l ih =>
    intro s nodup branch shut
    obtain ⟨fresh, nodup⟩ := List.nodup_cons.mp nodup
    have shut' : s.ShutAt j := by
      rw [State.ShutAt, branch j (List.mem_cons_self ..)]
      exact shut
    have first := (State.shedOutlet_shed (b := b) shut').shedOver
    refine .cons shut' fresh (ih nodup (fun k mem => (first.branchOf k).trans (branch k (List.mem_cons_of_mem _ mem))) ?_)
    rw [first.state]
    exact shut

/-! ### RESTORE entries that a shed takes back -/

/-- What the taking back of RESTORE entries leaves: the drivers, and each entry or its outlet a victim (R87, R131). -/
structure State.Undoes (b : Branch) (l : List Outlet) (s t : State) : Prop extends State.ShedOver b l s t where
  undriven : t.drivers = s.drivers
  entry : s.EntriesDistinct → ∀ i, look (t.protection b).victims i = true ∨ t.entryOf i = s.entryOf i

theorem State.Undoes.refl (b : Branch) (l : List Outlet) (s : State) : s.Undoes b l s := ⟨.refl b l s, rfl, fun _ _ => .inr rfl⟩

theorem State.undoRestore_undoes (shut : s.ShutAt j) : s.Undoes b [j] (State.undoRestore b s j) := by
  unfold State.undoRestore
  split
  · exact .refl b [j] s
  · next e entry =>
    split
    · have shut' : (s.addVictim b j).ShutAt j := State.addVictim_shut shut
      have acts := State.complete_at (s := s.addVictim b j) entry shut' .preempted .none
      refine ⟨(s.addVictim_shedOver b j).trans (acts.shedOver b), State.complete_drivers (s := s.addVictim b j) entry shut' .., ?_⟩
      intro distinct i
      by_cases own : i = j
      · exact .inl (own ▸ (acts.shedOver b).gains j (s.addVictim_victim b j))
      · exact .inr ((acts.kept distinct).2 i own)
    · exact .refl b [j] s

theorem State.Undoes.trans {l : List Outlet} (h : s.Undoes b l t) (g : t.Undoes b l u) : s.Undoes b l u :=
  ⟨h.toShedOver.trans g.toShedOver, g.undriven.trans h.undriven, fun distinct i =>
    (g.entry (h.kept distinct).1 i).imp_right id |>.elim .inl fun same =>
      (h.entry distinct i).imp (g.gains i) same.trans⟩

theorem State.undoRestores_undoes {l : List Outlet} : ∀ {s : State}, (∀ k, k ∈ l → s.branchOf k = b) →
    (s.protection b).state ≠ .normal ∧ (s.protection b).state ≠ .restoring → s.Undoes b l (l.foldl (State.undoRestore b) s) := by
  induction l with
  | nil => intro s _ _; exact .refl b [] s
  | cons j l ih =>
    intro s branch shut
    have shut' : s.ShutAt j := by
      rw [State.ShutAt, branch j (List.mem_cons_self ..)]
      exact shut
    have first := State.undoRestore_undoes (b := b) shut'
    have later := ih (s := State.undoRestore b s j) (fun k mem => (first.branchOf k).trans (branch k (List.mem_cons_of_mem _ mem)))
      (by rw [first.state]; exact shut)
    exact State.Undoes.trans (l := j :: l)
      ⟨first.toShedOver.mono fun i mem => List.mem_singleton.mp mem ▸ List.mem_cons_self .., first.undriven, first.entry⟩
      ⟨later.toShedOver.mono fun i mem => List.mem_cons_of_mem _ mem, later.undriven, later.entry⟩

/-! ### A branch into SHED -/

theorem mem_outletsOf : k ∈ s.outletsOf b ↔ s.branchOf k = b := by
  rw [State.outletsOf, List.mem_filter, beq_iff_eq, and_iff_right (mem_allOutlets k)]

theorem nodup_outletsOf (s : State) (b : Branch) : (s.outletsOf b).Nodup := nodup_allOutlets.filter _

/-- What an entry of branch `b` into SHED leaves (R131). -/
structure State.BranchSheds (b : Branch) (s t : State) : Prop where
  rest : { t with
    entries := s.entries, sequencers := s.sequencers, drivers := s.drivers, monitors := s.monitors, ports := s.ports
    handling := s.handling, protections := s.protections } = s
  branches : ∀ c, c ≠ b → t.protection c = s.protection c
  own : ∃ v, t.protection b = { s.protection b with state := .shed, restartTimer := 0, victims := v }
  sheds : s.EntriesDistinct → ∀ k, s.branchOf k = b → look s.settings.shedMode k ≠ .keep → s.isTripped k = false → s.Sheds k →
    look (t.protection b).victims k = true
  stays : ∀ k, (s.protection b).state ≠ .restoring →
    s.branchOf k ≠ b ∨ look s.settings.shedMode k = .keep ∨ s.isTripped k = true ∨ s.contact k = .opened ∧ s.entryOf k = none →
    look (t.protection b).victims k = look (s.protection b).victims k
  urged : ∀ k, s.branchOf k = b → s.isTripped k = false → look s.settings.shedMode k ≠ .keep → (s.driver k).state = .idle →
    s.contact k ≠ .opened → ∃ mode, s.Urged k mode t ∧ (look s.settings.shedMode k = .openNow → mode = .openNow) ∧
      (look s.settings.shedMode k = .openSync → mode = .openSync)

/-- The branch shut, before its outlets' turns. -/
def State.shutDown (s : State) (b : Branch) : State :=
  s.setProtection b { s.protection b with state := .shed, restartTimer := 0 }

/-- A shut branch with its RESTORE entries taken back where it was in RESTORING. -/
def State.shutBack (s : State) (b : Branch) : State :=
  if (s.protection b).state = .restoring then ((s.shutDown b).outletsOf b).foldl (State.undoRestore b) (s.shutDown b)
  else s.shutDown b

theorem State.shedBranch_eq (s : State) (b : Branch) :
    s.shedBranch b = (((s.shutBack b).outletsOf b).foldl (State.shedOutlet b) (s.shutBack b)).testHead b := rfl

theorem State.shutDown_protection (s : State) (b c : Branch) : (s.shutDown b).protection c =
    if c = b then { s.protection b with state := .shed, restartTimer := 0 } else s.protection c :=
  State.setProtection_protection ..

theorem State.shutDown_shut (s : State) (b : Branch) :
    ((s.shutDown b).protection b).state ≠ .normal ∧ ((s.shutDown b).protection b).state ≠ .restoring := by
  rw [State.shutDown_protection, if_pos rfl]
  exact ⟨nofun, nofun⟩

theorem State.shutBack_undoes (s : State) (b : Branch) : (s.shutDown b).Undoes b ((s.shutDown b).outletsOf b) (s.shutBack b) := by
  unfold State.shutBack
  split
  · exact State.undoRestores_undoes (fun k mem => mem_outletsOf.mp mem) (s.shutDown_shut b)
  · exact .refl ..

theorem State.shedBranch_sheds (s : State) (b : Branch) : s.BranchSheds b (s.shedBranch b) := by
  have shut := s.shutDown_shut b
  have before (c : Branch) := s.shutDown_protection b c
  have own := (before b).trans (if_pos rfl)
  have back := s.shutBack_undoes b
  have quiet (h : (s.protection b).state ≠ .restoring) : s.shutBack b = s.shutDown b := if_neg h
  have restDown : { s.shutDown b with protections := s.protections } = s := rfl
  have eq := s.shedBranch_eq b
  obtain ⟨v, isV⟩ : ∃ v, v = s.shutBack b := ⟨_, rfl⟩
  rw [← isV] at back quiet eq
  obtain ⟨d, isD⟩ : ∃ d, d = s.shutDown b := ⟨_, rfl⟩
  rw [← isD] at back quiet shut restDown own before
  have shutV : (v.protection b).state ≠ .normal ∧ (v.protection b).state ≠ .restoring := by rw [back.state]; exact shut
  have turns := State.shedOutlets_turns (s := v) (nodup_outletsOf v b) (fun k mem => mem_outletsOf.mp mem) shutV
  obtain ⟨w, isW⟩ : ∃ w, w = (v.outletsOf b).foldl (State.shedOutlet b) v := ⟨_, rfl⟩
  rw [← isW] at turns eq
  obtain ⟨r, tested⟩ := State.testHead_shut (s := w) (b := b) (by rw [turns.state]; exact shutV)
  rw [tested] at eq
  have settingsD : d.settings = s.settings := (congrArg State.settings restDown :)
  have settings : v.settings = s.settings := back.settings.trans settingsD
  have branch (k : Outlet) : v.branchOf k = s.branchOf k := by rw [State.branchOf, settings]; rfl
  have mem (k : Outlet) : k ∈ v.outletsOf b ↔ s.branchOf k = b := by rw [mem_outletsOf, branch]
  have tripped (k : Outlet) : v.isTripped k = s.isTripped k := by
    rw [back.isTripped, State.isTripped, (congrArg State.tripped restDown :)]; rfl
  have drivers : v.drivers = s.drivers := back.undriven.trans (congrArg State.drivers restDown :)
  have driver (k : Outlet) : v.driver k = s.driver k := by rw [State.driver, drivers]; rfl
  have contact (k : Outlet) : v.contact k = s.contact k := by rw [State.contact, driver]; rfl
  have entries : d.entries = s.entries := (congrArg State.entries restDown :)
  have entryD (k : Outlet) : d.entryOf k = s.entryOf k := by rw [State.entryOf, entries]; rfl
  have distinctD (distinct : s.EntriesDistinct) : d.EntriesDistinct := by rw [State.EntriesDistinct, entries]; exact distinct
  have trackers : v.trackers = s.trackers := (congrArg State.trackers back.rest :).trans (congrArg State.trackers restDown :)
  have protection (c : Branch) : (s.shedBranch b).protection c = w.protection c := by rw [eq]; rfl
  refine ⟨?_, fun c ne => ?_, ?_, fun distinct k at' modes plain sheds => ?_, fun k calm stays => ?_,
    fun k at' plain modes idle away => ?_⟩
  · rw [eq]
    exact (congrArg (fun v : State => { v with
      entries := s.entries, sequencers := s.sequencers, drivers := s.drivers, monitors := s.monitors, ports := s.ports
      handling := s.handling, protections := s.protections }) turns.rest).trans
        ((congrArg (fun v : State => { v with
          entries := s.entries, sequencers := s.sequencers, drivers := s.drivers, monitors := s.monitors, ports := s.ports
          handling := s.handling, protections := s.protections }) back.rest).trans (by rw [isD]))
  · rw [protection, turns.branches c ne, back.branches c ne, before c, if_neg ne]
  · obtain ⟨x, hx⟩ := turns.own
    obtain ⟨y, hy⟩ := back.own
    exact ⟨x, by rw [protection, hx, hy, own]⟩
  · rw [protection]
    have modes' : look v.settings.shedMode k ≠ .keep := by rw [settings]; exact modes
    rcases back.entry (distinctD distinct) k with victim | same
    · exact turns.gains k victim
    · refine turns.sheds (back.kept (distinctD distinct)).1 k ((mem k).mpr at') modes' ((tripped k).trans plain) ?_
      rw [State.Sheds, contact, same, entryD]
      exact sheds
  · have unchanged : look (v.protection b).victims k = look (s.protection b).victims k := by rw [quiet calm, own]
    rw [protection, ← unchanged]
    by_cases at' : s.branchOf k = b
    · refine turns.stays k ((mem k).mpr at') ?_
      rw [settings, tripped, contact]
      refine (stays.resolve_left (not_not_intro at')).imp_right (Or.imp_right fun h => ⟨h.1, back.free k ?_⟩)
      rw [entryD]
      exact h.2
    · exact turns.victims k (mt (mem k).mp at')
  · obtain ⟨mode, urged, named⟩ := turns.urged k ((mem k).mpr at') ((tripped k).trans plain) (by rw [settings]; exact modes)
      (by rw [driver]; exact idle) (by rw [contact]; exact away)
    rw [settings] at named
    exact ⟨mode, urged.of_same settings trackers (by rw [eq]; rfl), named⟩

/-! ### Causes -/

theorem State.BranchSheds.post (h : s.BranchSheds b t) (body : EventBody) (source : EventOrigin) :
    s.BranchSheds b (t.post body source) := by
  refine ⟨h.rest, h.branches, h.own, h.sheds, h.stays, fun k at' plain modes idle away => ?_⟩
  obtain ⟨mode, urged, named⟩ := h.urged k at' plain modes idle away
  exact ⟨mode, urged.of_same rfl rfl rfl, named⟩

theorem State.enterShed_line (s : State) (b : Branch) (cause : Cause) : s.enterShed b cause =
    (s.shedBranch b).post (.branchShed b cause (s.protection b).state ((s.shedBranch b).protection b).victims) EventOrigin.nobody := rfl

/-- What a cause that becomes active in a branch not SHED leaves: the cause marked, and the branch shed (R130). -/
theorem State.activate_sheds (cause : Cause) (out : (s.protection b).state ≠ .shed) :
    (s.setProtection b ((s.protection b).mark true cause)).BranchSheds b (s.activate b cause) := by
  have sheds := (s.setProtection b ((s.protection b).mark true cause)).shedBranch_sheds b
  have eq : s.activate b cause = (s.setProtection b ((s.protection b).mark true cause)).enterShed b cause := if_neg out
  rw [eq, State.enterShed_line]
  exact sheds.post ..

theorem Acts.activateManual (s : State) (x : Link) (b : Branch) :
    Acts (s.setPort x (s.port x).took) ((s.setPort x (s.port x).took).activate b .manual) := (Acts.refl _).activate b .manual

/-- Settles O46: MANUAL active is an entry into SHED, and what that leaves is what a shed leaves. -/
theorem shedMakesManualActive : Obligations.ShedMakesManualActive := by
  intro x n s ready
  let u := s.setPort x (s.port x).took
  refine ⟨fun beyond => ?_, fun b hb => ⟨fun active => ?_, fun calm shed => ?_, fun calm out => ?_⟩⟩
  · refine ready.exec_refused rfl (by simp) (?_ : requestShed x [n] u = _)
    simp only [requestShed, branchFrom_none beyond, u]
  all_goals
    have judged : requestShed x [n] u =
        if (s.protection b).manual then u.refuse .already else (u.activate b .manual, Answer.bare .ok) := by
      simp only [requestShed, branchFrom_of hb]
      rfl
  · exact ready.exec_refused rfl (by simp) (judged.trans (if_pos active))
  all_goals rw [if_neg (Bool.eq_false_iff.mp calm)] at judged
  · let marked : Protection := { s.protection b with manual := true, manualMark := true }
    have mark : (s.protection b).mark true .manual = marked := by
      rw [Protection.mark, Bool.or_true]
    have eq : u.activate b .manual = u.setProtection b marked := by
      refine (if_pos shed).trans ?_
      rw [← mark]
      rfl
    rw [eq] at judged
    exact ready.exec_apart (t := s.setProtection b marked) rfl (by simp) judged
  · have sheds := State.activate_sheds (s := u) .manual out
    have acts := (Acts.activateManual s x b).respond .ok 0x16 []
    have own (c : Branch) : (u.setProtection b ((u.protection b).mark true .manual)).protection c =
        if c = b then (s.protection b).mark true .manual else s.protection c := State.setProtection_protection ..
    have exec := ready.exec_took (c := .shed x [n]) (st := .ok) (payload := []) rfl (by simp) judged
    obtain ⟨w, isW⟩ : ∃ w, w = u.activate b .manual := ⟨_, rfl⟩
    have fold : (s.setPort x (s.port x).took).activate b .manual = w := isW.symm
    rw [← isW] at sheds exec
    rw [fold] at acts
    obtain ⟨v, protection⟩ := sheds.own
    rw [own b, if_pos rfl] at protection
    have marks : (s.protection b).mark true .manual = { s.protection b with manual := true, manualMark := true } := by
      rw [Protection.mark, Bool.or_true]
    rw [marks] at protection
    have protection' : (w.respond x .ok 0x16 []).protection b = _ := protection
    refine ⟨_, exec, by rw [protection'], by rw [protection'], by rw [protection'], by rw [protection'],
      fun distinct k at' modes plain gains => sheds.sheds distinct k at' modes plain gains, fun k calm stays => ?_,
      fun k at' plain idle away => ⟨fun now => ?_, fun sync => ?_⟩, fun c ne => (sheds.branches c ne).trans ((own c).trans (if_neg ne)),
      (congrArg State.tripped sheds.rest :), (congrArg State.tripRuns sheds.rest :), (congrArg State.slots sheds.rest :), acts⟩
    · refine (sheds.stays k ?_ stays).trans ?_
      · rw [own b, if_pos rfl, marks]; exact calm
      · rw [own b, if_pos rfl, marks]
    · obtain ⟨mode, urged, named, -⟩ := sheds.urged k at' plain (fun keep => absurd (now.symm.trans keep) (by decide)) idle away
      obtain rfl := named now
      exact ⟨urged.state.trans (if_neg fun h => absurd h.1 (by decide)), urged.step⟩
    · obtain ⟨mode, urged, -, named⟩ := sheds.urged k at' plain (fun keep => absurd (sync.symm.trans keep) (by decide)) idle away
      obtain rfl := named sync
      refine ⟨urged.state.trans ?_, urged.step⟩
      simp only [true_and]
      rfl

end Sys2Proof.Machine

/-! PROOF. Causes that shed a branch (O54). -/

namespace Sys2Proof.Machine

variable {s t u : State} {x : Link} {j k : Outlet} {b : Branch}

/-- What a cause that becomes active leaves of its branch and the others (R130). -/
theorem State.activate_ends (s : State) (b : Branch) (cause : Cause) :
    (∃ r v, (s.activate b cause).protection b =
      { (s.protection b).mark true cause with state := .shed, restartTimer := r, victims := v }) ∧
    (∀ c, c ≠ b → (s.activate b cause).protection c = s.protection c) ∧ (s.activate b cause).tripped = s.tripped := by
  have marked (c : Branch) : (s.setProtection b ((s.protection b).mark true cause)).protection c =
      if c = b then (s.protection b).mark true cause else s.protection c := State.setProtection_protection ..
  by_cases shed : (s.protection b).state = .shed
  · have eq : s.activate b cause = s.setProtection b ((s.protection b).mark true cause) := if_pos shed
    have stays : ((s.protection b).mark true cause).state = .shed := by cases cause <;> exact shed
    rw [eq]
    exact ⟨⟨_, _, ((marked b).trans (if_pos rfl)).trans (by rw [← stays])⟩, fun c ne => (marked c).trans (if_neg ne), rfl⟩
  · have sheds := State.activate_sheds cause shed
    obtain ⟨v, own⟩ := sheds.own
    rw [marked b, if_pos rfl] at own
    exact ⟨⟨0, v, own⟩, fun c ne => (sheds.branches c ne).trans ((marked c).trans (if_neg ne)), (congrArg State.tripped sheds.rest :)⟩

theorem State.deactivate_ends (s : State) (b : Branch) (cause : Cause) :
    (∃ st r, (s.deactivate b cause).protection b = { (s.protection b).mark false cause with state := st, restartTimer := r }) ∧
    (∀ c, c ≠ b → (s.deactivate b cause).protection c = s.protection c) ∧ (s.deactivate b cause).tripped = s.tripped := by
  have marked (c : Branch) : (s.setProtection b ((s.protection b).mark false cause)).protection c =
      if c = b then (s.protection b).mark false cause else s.protection c := State.setProtection_protection ..
  unfold State.deactivate State.autoRestart
  split
  · refine ⟨⟨.restartWait, look s.settings.restartDelay b, ?_⟩, fun c ne => ?_, rfl⟩
    · rw [State.setProtection_protection, if_pos rfl, marked b, if_pos rfl]
      rfl
    · rw [State.setProtection_protection, if_neg ne, marked, if_neg ne]
  · exact ⟨⟨((s.protection b).mark false cause).state, ((s.protection b).mark false cause).restartTimer,
      (marked b).trans (if_pos rfl)⟩, fun c ne => (marked c).trans (if_neg ne), rfl⟩

/-- A breaker line's level that has differed for the debounce length (R10). -/
theorem Breaker.next_changes {br : Breaker} {l : BreakerLevel} {high : Bool} (level : br.level = some l)
    (differs : high = true ↔ l = .closed) (long : 63 ≤ br.run) :
    br.next high = { level := some (if l = .closed then .opened else .closed), run := 0 } := by
  have full : Config.debounceLength ≤ br.run + 1 := Nat.succ_le_succ long
  simp only [Breaker.next, level, full, if_true]
  cases high <;> cases l <;> simp_all [lineLevel]

theorem Breaker.next_stays {br : Breaker} {high : Bool}
    (stays : br.level = none ∨ br.level = some (if high = true then .opened else .closed) ∨ br.run < 63) :
    ¬(br.level.isSome = true ∧ (br.next high).level ≠ br.level) := by
  rintro ⟨some, changes⟩
  obtain ⟨l, level⟩ := Option.isSome_iff_exists.mp some
  refine changes ?_
  rw [level] at stays
  have stays := stays.resolve_left nofun
  simp only [Breaker.next, level]
  split
  · rfl
  · next other =>
    rcases stays with same | short
    · exact absurd (Option.some.inj same).symm other
    · exact congrArg Breaker.level (if_neg (Nat.not_le.mpr (Nat.succ_lt_succ short)))

theorem State.overcurrentDue_iff : s.overcurrentDue b = true ↔ (s.protection b).overcurrent = false ∧
    look s.settings.overCycles b ≤ (s.protection b).overRun := by
  rw [State.overcurrentDue, Bool.and_eq_true, Bool.not_eq_true', decide_eq_true_iff]

theorem Acts.breaker (h : Acts s t) (b : Branch) : t.breaker b = s.breaker b :=
  congrArg (fun v : Vector Breaker 6 => look v b) (congrArg Fixed.breakers h.fixed)

/-- What the BREAKER cause's turn leaves (R128). -/
theorem State.breakerTurn_ends {l : BreakerLevel} (level : (s.breaker b).level = some l) :
    ((s.breakerTurn b).protection b).breaker = decide (l = .opened) ∧
    (l = .opened → (s.protection b).breaker = false → ((s.breakerTurn b).protection b).state = .shed) ∧
    (∀ c, c ≠ b → (s.breakerTurn b).protection c = s.protection c) ∧ (s.breakerTurn b).tripped = s.tripped := by
  unfold State.breakerTurn
  rw [level]
  cases l with
  | opened =>
    dsimp only
    split
    · next active => exact ⟨active, fun _ calm => absurd (active.symm.trans calm) (by decide), fun _ _ => rfl, rfl⟩
    · obtain ⟨⟨r, v, own⟩, others, tripped⟩ := s.activate_ends b .breaker
      exact ⟨by rw [own]; rfl, fun _ _ => by rw [own], others, tripped⟩
  | closed =>
    dsimp only
    split
    · obtain ⟨⟨st, r, own⟩, others, tripped⟩ := s.deactivate_ends b .breaker
      exact ⟨by rw [own]; rfl, nofun, others, tripped⟩
    · next calm => exact ⟨Bool.eq_false_iff.mpr calm, nofun, fun _ _ => rfl, rfl⟩

/-- Settles O54. -/
theorem causesShedTheBranch : Obligations.CausesShedTheBranch := by
  refine ⟨fun b l s high level differs long => ?_, fun b s stays => ?_, fun b s high calm long => ?_, fun b s stays => ?_⟩
  · have next := Breaker.next_changes level differs long
    let br : Breaker := { level := some (if l = .closed then .opened else .closed), run := 0 }
    have changes : (s.breaker b).level.isSome = true ∧ ((s.breaker b).next (look s.handed.breaker b)).level ≠ (s.breaker b).level := by
      rw [next, level]
      exact ⟨rfl, by cases l <;> decide⟩
    have turn : s.breakerChange b = (s.setBreaker b br).breakerTurn b := by
      refine (if_pos changes).trans ?_
      rw [next]
    have own : (s.setBreaker b br).breaker b = br := look_put_self ..
    obtain ⟨breaker, sheds, others, tripped⟩ := State.breakerTurn_ends (s := s.setBreaker b br) (b := b) (congrArg Breaker.level own)
    have acts : Acts (s.setBreaker b br) ((s.setBreaker b br).breakerTurn b) := (Acts.refl _).breakerTurn b
    have stands := (acts.breaker b).trans own
    refine ⟨_, congrArg Host.Outcome.next ((State.running_high high).trans turn), stands, fun closed => ⟨?_, fun calm => ?_⟩,
      fun opened => ?_, others, tripped, ?_⟩
    · rw [breaker, closed]; rfl
    · exact sheds (by rw [closed]; rfl) calm
    · rw [breaker, opened]; rfl
    · rw [stands]
      exact acts.only
  · exact congrArg Host.Outcome.next (State.running_id (if_neg (Breaker.next_stays stays)))
  · have turn : s.overcurrentActive b = s.activate b .overcurrent := if_pos (State.overcurrentDue_iff.mpr ⟨calm, long⟩)
    obtain ⟨⟨r, v, own⟩, others, tripped⟩ := s.activate_ends b .overcurrent
    exact ⟨_, congrArg Host.Outcome.next ((State.running_high high).trans turn), by rw [own]; rfl, by rw [own], others, tripped,
      ((Acts.refl s).activate b .overcurrent).only⟩
  · refine congrArg Host.Outcome.next (State.running_id (if_neg fun due => ?_))
    obtain ⟨calm, long⟩ := State.overcurrentDue_iff.mp due
    exact stays.elim (fun active => absurd (calm.symm.trans active) (by decide)) (Nat.not_lt.mpr long)

end Sys2Proof.Machine

/-! PROOF. Automatic restarts, their expiry and the restoration pass (O56). -/

namespace Sys2Proof.Machine

variable {s t u : State} {x : Link} {j k : Outlet} {b : Branch} {e : Entry}

theorem exec_restorationPass (high : s.resetHeld = false) (b : Branch) : exec (.restorationPass b) s = .next (s.restorationPass b) :=
  congrArg Host.Outcome.next (State.running_high high)

/-! ### The automatic restart -/

theorem State.restartDue_iff : s.restartDue b = true ↔ (s.protection b).state = .shed ∧ look s.settings.restartEnable b = true ∧
    ((s.protection b).overcurrent = false ∧ (s.protection b).breaker = false ∧ (s.protection b).manual = false) ∧
      (s.protection b).manualMark = false ∧ (s.protection b).exhaustedMark = false := by
  simp only [State.restartDue, Protection.noCause, Bool.and_eq_true, beq_iff_eq, Bool.not_eq_true', and_assoc]

theorem State.waitOver_iff : s.waitOver b = true ↔ (s.protection b).state = .restartWait ∧ (s.protection b).restartTimer = 0 := by
  rw [State.waitOver, Bool.and_eq_true, beq_iff_eq, beq_iff_eq]

/-! ### The run over the outlets -/

/-- The run of a pass over outlets, none of which it visits otherwise. -/
def State.passOver (s : State) (b : Branch) (l : List Outlet) (going : Bool) : State := returnOver (fun t _ => t) b l going s

theorem State.passOver_stopped (l : List Outlet) : s.passOver b l false = s := by
  induction l with
  | nil => rfl
  | cons k l ih =>
    simp only [State.passOver, returnOver, Bool.false_and, Bool.false_eq_true, if_false]
    exact ih

theorem State.passOver_plain {l : List Outlet} (plain : look (s.protection b).victims k = false) (going : Bool) :
    s.passOver b (k :: l) going = s.passOver b l going :=
  if_neg (by rw [plain, Bool.and_false]; decide)

theorem State.passOver_victim {l : List Outlet} (victim : look (s.protection b).victims k = true) :
    s.passOver b (k :: l) true = match s.restoreVictim b k with
      | some t => t.passOver b l true
      | none => s := by
  refine (if_pos (by rw [victim]; rfl)).trans ?_
  cases s.restoreVictim b k with
  | none => exact State.passOver_stopped l
  | some t => rfl

theorem State.passOver_plains {l m : List Outlet} (plain : ∀ i, i ∈ l → look (s.protection b).victims i = false) (going : Bool) :
    s.passOver b (l ++ m) going = s.passOver b m going := by
  induction l with
  | nil => rfl
  | cons k l ih =>
    exact (State.passOver_plain (plain k (List.mem_cons_self ..)) going).trans (ih fun i mem => plain i (List.mem_cons_of_mem _ mem))

theorem State.passWith_restoring (restoring : (s.protection b).state = .restoring) :
    s.passWith (fun t _ => t) b = s.passOver b allOutlets true := by
  rw [State.passWith, restoring]
  rfl

theorem State.passWith_out (out : (s.protection b).state ≠ .restoring) : s.passWith (fun t _ => t) b = s := by
  have going : ((s.protection b).state == .restoring) = false := beq_eq_false_iff_ne.mpr out
  rw [State.passWith, going]
  exact State.passOver_stopped allOutlets

theorem State.restorationPass_out (out : (s.protection b).state ≠ .restoring) : s.restorationPass b = s := by
  rw [State.restorationPass, State.passWith_out out]
  exact if_neg fun h => out h.1

theorem allOutlets_split (k : Outlet) : ∃ l m, allOutlets = l ++ k :: m ∧ ∀ i, i ∈ l → i < k := by
  obtain ⟨l, m, eq⟩ := List.mem_iff_append.mp (mem_allOutlets k)
  refine ⟨l, m, eq, fun i mem => ?_⟩
  have sorted := sorted_allOutlets
  rw [eq] at sorted
  exact (List.pairwise_append.mp sorted).2.2 i mem k (List.mem_cons_self ..)

/-- A pass as its first victim's turn leaves it (R135). -/
theorem State.restorationPass_first (restoring : (s.protection b).state = .restoring)
    (victim : look (s.protection b).victims k = true) (first : ∀ i, i < k → look (s.protection b).victims i = false) :
    (s.restoreVictim b k = none → s.restorationPass b = s) ∧
    ∀ t, s.restoreVictim b k = some t → (t.protection b).state = .restoring → (∀ i, i ≤ k → look (t.protection b).victims i = false) →
      s.restorationPass b = t.restorationPass b := by
  obtain ⟨l, m, split, below⟩ := allOutlets_split k
  have pass : s.passWith (fun t _ => t) b = match s.restoreVictim b k with
      | some t => t.passOver b m true
      | none => s := by
    rw [State.passWith_restoring restoring, split, State.passOver_plains fun i mem => first i (below i mem)]
    exact State.passOver_victim victim
  refine ⟨fun none => ?_, fun t turn restoring' dealt => ?_⟩
  · rw [State.restorationPass, pass, none]
    refine if_neg fun h => ?_
    exact absurd (((s.protection b).noVictims_iff.mp h.2 k).symm.trans victim) (by decide)
  · have pass' : t.passWith (fun t _ => t) b = t.passOver b m true := by
      rw [State.passWith_restoring restoring', split, State.passOver_plains fun i mem => dealt i (le_of_lt (below i mem))]
      exact State.passOver_plain (dealt k (le_refl k)) true
    rw [State.restorationPass, State.restorationPass, pass, turn, pass']

theorem State.restorationPass_empty (restoring : (s.protection b).state = .restoring)
    (none : ∀ i, look (s.protection b).victims i = false) : s.restorationPass b = s.enterNormal b .restored := by
  have pass : s.passWith (fun t _ => t) b = s := by
    rw [State.passWith_restoring restoring, ← List.append_nil allOutlets, State.passOver_plains fun i _ => none i]
    rfl
  rw [State.restorationPass, pass]
  exact if_pos ⟨restoring, (s.protection b).noVictims_iff.mpr none⟩

/-! ### A victim's turn -/

/-- The branch of a victim that is dropped. -/
theorem State.dropVictim_dealt {t : State} (same : t.protection b = (s.dropVictim b k).protection b)
    (restoring : (s.protection b).state = .restoring) (first : ∀ i, i < k → look (s.protection b).victims i = false) :
    (t.protection b).state = .restoring ∧ ∀ i, i ≤ k → look (t.protection b).victims i = false := by
  rw [same, State.dropVictim_protection, if_pos rfl]
  refine ⟨restoring, fun i le => ?_⟩
  rw [look_put]
  split
  · rfl
  · next ne => exact first i (lt_of_le_of_ne le ne)

/-- The state in which the pass places a victim's CLOSE entry. -/
def State.restorePlaced (s : State) (b : Branch) (k : Outlet) : State :=
  ((s.dropVictim b k).noteReturn s.freeId).place k .closing .restore false none 0

theorem State.placed_clears (s : State) (kind : e.kind ≠ .opening) :
    s.placed e = ((s.setEntries (s.entries ++ [e])).setNextId (e.id + 1)).setTripped e.outlet false :=
  if_neg kind

theorem State.exec_restorePlaced (high : s.resetHeld = false) (b : Branch) (k : Outlet) : ∃ e : Entry,
    e = { id := e.id, outlet := k, kind := .closing, origin := .restore, sweep := false, tag := none, offTime := 0,
          phase := .queued, offHold := 0, preempt := false, begun := false } ∧ e.id = s.freeId ∧
    exec (.firstStep k) (((((s.dropVictim b k).noteReturn e.id).setEntries (s.entries ++ [e])).setNextId (e.id + 1)).setTripped
      k false) = .next (s.restorePlaced b k) := by
  let noted := (s.dropVictim b k).noteReturn s.freeId
  let e := noted.newEntry k .closing .restore false none 0
  have placed := noted.placed_clears (e := e) nofun
  have high' : (noted.placed e).resetHeld = false := (congrArg State.resetHeld (noted.placed_queue e).rest :).trans high
  refine ⟨e, rfl, rfl, ?_⟩
  have stepped := exec_firstStep high' k
  rw [placed] at stepped
  exact stepped

theorem State.restorePlaced_queue (s : State) (b : Branch) (k : Outlet) : (s.dropVictim b k).QueueOnly (s.restorePlaced b k) :=
  ((State.QueueOnly.refl _).note _).place ..

/-- A victim's turn, with what it leaves of the branch. -/
theorem State.restoreVictim_cases (s : State) (b : Branch) (k : Outlet) :
    (∀ x, s.hold k = some x → s.restoreVictim b k = some (s.skipVictim b k (some x))) ∧
    (s.hold k = none → (s.driver k).fault ≠ none → s.restoreVictim b k = some (s.skipVictim b k none)) ∧
    (s.hold k = none → (s.driver k).fault = none → s.entryOf k ≠ none → s.restoreVictim b k = some (s.dropVictim b k)) ∧
    (s.hold k = none → (s.driver k).fault = none → s.entryOf k = none → 16 ≤ s.entries.length → s.restoreVictim b k = none) ∧
    (s.hold k = none → (s.driver k).fault = none → s.entryOf k = none → s.entries.length < 16 →
      s.restoreVictim b k = some (s.restorePlaced b k)) := by
  refine ⟨fun x hold => ?_, fun hold fault => ?_, fun hold fault entry => ?_, fun hold fault entry full => ?_,
    fun hold fault entry room => ?_⟩
  · simp only [State.restoreVictim, hold]
  · simp only [State.restoreVictim, hold, Option.isSome_iff_ne_none.mpr fault, if_true]
  · simp only [State.restoreVictim, hold, fault, Option.isSome_none, Bool.false_eq_true, if_false,
      Option.isSome_iff_ne_none.mpr entry, if_true]
  · have noRoom : s.hasRoom = false := Bool.eq_false_iff.mpr fun h => Nat.not_lt.mpr full (State.hasRoom_iff.mp h)
    simp only [State.restoreVictim, hold, fault, entry, noRoom, Option.isSome_none, Bool.false_eq_true, if_false]
  · simp only [State.restoreVictim, hold, fault, entry, State.hasRoom_iff.mpr room, Option.isSome_none, Bool.false_eq_true,
      if_false, if_true]
    rfl

/-! ### A pass that finds room -/

theorem State.complete_length (s : State) (e : Entry) (r : ActionResult) (d : ResultDetail) :
    (s.complete e r d).entries.length ≤ s.entries.length := by
  have same := congrArg List.length (s.complete_outlets e r d)
  rw [List.length_map, List.length_map] at same
  rw [same]
  exact List.length_filter_le ..

theorem State.testHead_length (s : State) (b : Branch) : (s.testHead b).entries.length = s.entries.length := by
  have same := congrArg List.length (s.testHead_outlets b)
  rwa [List.length_map, List.length_map] at same

theorem State.modEntry_length (s : State) (id : Byte) (f : Entry → Entry) : (s.modEntry id f).entries.length = s.entries.length :=
  List.length_map ..

theorem State.firstStep_length (s : State) (k : Outlet) : (s.firstStep k).entries.length ≤ s.entries.length := by
  unfold State.firstStep
  split
  · exact le_rfl
  · next e _ =>
    split
    · unfold State.stepEntry
      split
      · exact s.complete_length e .done .noPulse
      · exact (s.modEntry_length ..).le
      · exact s.complete_length e .done .noPulse
      · unfold State.joinLine
        dsimp only
        split
        · rw [State.testHead_length]
          exact (s.modEntry_length ..).le
        · exact (s.modEntry_length ..).le
      · exact (s.modEntry_length ..).le
      · exact (s.modEntry_length ..).le
    · exact le_rfl

theorem State.place_length (s : State) (k : Outlet) (kind : Kind) (o : Origin) (m : Bool) (tag : Option Byte) (off : Nat) :
    (s.place k kind o m tag off).entries.length ≤ s.entries.length + 1 := by
  rw [State.place_eq]
  refine (State.firstStep_length _ k).trans ?_
  rw [State.placed_entries, List.length_append]
  exact le_rfl

/-- A victim's turn where the queue has room. -/
theorem State.restoreVictim_room (s : State) (b : Branch) (k : Outlet) (room : s.entries.length < 16) :
    ∃ t, s.restoreVictim b k = some t ∧ t.protection b = (s.dropVictim b k).protection b ∧ t.entries.length ≤ s.entries.length + 1 := by
  obtain ⟨held, faulted, busy, -, placed⟩ := s.restoreVictim_cases b k
  cases hold : s.hold k with
  | some x => exact ⟨_, held x hold, rfl, Nat.le_succ _⟩
  | none =>
    cases fault : (s.driver k).fault with
    | some f => exact ⟨_, faulted hold (by rw [fault]; nofun), rfl, Nat.le_succ _⟩
    | none =>
      cases entry : s.entryOf k with
      | some e => exact ⟨_, busy hold fault (by rw [entry]; nofun), rfl, Nat.le_succ _⟩
      | none => exact ⟨_, placed hold fault entry room, State.protection_of_eq (s.restorePlaced_queue b k).protections b,
          State.place_length ..⟩

theorem State.passOver_room {l : List Outlet} : ∀ {s : State}, l.Nodup →
    s.entries.length + (l.filter fun k => look (s.protection b).victims k).length ≤ 16 →
    ∀ k, look ((s.passOver b l true).protection b).victims k = if k ∈ l then false else look (s.protection b).victims k := by
  induction l with
  | nil => intro s _ _ k; rw [if_neg List.not_mem_nil]; rfl
  | cons j l ih =>
    intro s nodup room k
    obtain ⟨fresh, nodup⟩ := List.nodup_cons.mp nodup
    cases victim : look (s.protection b).victims j with
    | false =>
      rw [State.passOver_plain victim, ih nodup (by
        rwa [List.filter_cons_of_neg (by rw [victim]; decide)] at room)]
      by_cases own : k = j
      · rw [own, if_neg fresh, if_pos (List.mem_cons_self ..), victim]
      · simp only [List.mem_cons, own, false_or]
    | true =>
      rw [List.filter_cons_of_pos (p := fun k => look (s.protection b).victims k) victim, List.length_cons] at room
      obtain ⟨t, turn, same, longer⟩ := s.restoreVictim_room b j (by omega)
      have victims (i : Outlet) : look (t.protection b).victims i = if i = j then false else look (s.protection b).victims i := by
        rw [same, State.dropVictim_protection, if_pos rfl, look_put]
      have filter : (l.filter fun i => look (t.protection b).victims i) = l.filter fun i => look (s.protection b).victims i := by
        refine List.filter_congr fun i mem => ?_
        rw [victims, if_neg fun own : i = j => fresh (own ▸ mem)]
      have pass : s.passOver b (j :: l) true = t.passOver b l true := by
        rw [State.passOver_victim victim, turn]
      rw [pass, ih nodup (by rw [filter]; omega), victims]
      by_cases own : k = j
      · simp only [own, List.mem_cons, true_or, if_true, ite_self]
      · simp only [List.mem_cons, own, false_or, if_false]

/-- A pass for whose victims the queue has room brings the branch to NORMAL (R135, R136). -/
theorem State.restorationPass_room (restoring : (s.protection b).state = .restoring)
    (room : s.entries.length + (allOutlets.filter fun k => look (s.protection b).victims k).length ≤ 16) :
    ∃ p, (s.restorationPass b).protection b = Protection.normal p := by
  have victims := State.passOver_room nodup_allOutlets room
  obtain ⟨v, own⟩ := ((State.PassOnly.refl b s).passWith).own
  have pass := State.passWith_restoring restoring
  have state : ((s.passWith (fun t _ => t) b).protection b).state = .restoring := by rw [own]; exact restoring
  have none : ((s.passWith (fun t _ => t) b).protection b).noVictims = true := by
    refine (Protection.noVictims_iff _).mpr fun i => ?_
    rw [pass, victims, if_pos (mem_allOutlets i)]
  have settled := (s.passWith (fun t _ => t) b).settleRestoring_protection b b
  exact ⟨_, settled.trans (if_pos ⟨rfl, state, none⟩)⟩

/-! ### The expiry of a wait -/

/-- The branch restoring after the expiry of its wait, before the test of its head (R133). -/
def State.expired (s : State) (b : Branch) (n : Nat) : State :=
  (s.setProtection b { s.protection b with state := .restoring, restartTimer := 0, restartCount := n }).post
    (.branchRestoreBegin b (s.protection b).victims n .auto) EventOrigin.nobody

theorem State.expireWait_left (left : s.restartsLeft b = true) :
    s.expireWait b = (s.expired b (holdUp Config.byteMax (s.protection b).restartCount)).testHead b := by
  have counted := s.setProtection_protection b
    { s.protection b with restartCount := holdUp Config.byteMax (s.protection b).restartCount } b
  rw [if_pos rfl] at counted
  have eq : s.expireWait b = (s.setProtection b
      { s.protection b with restartCount := holdUp Config.byteMax (s.protection b).restartCount }).beginRestoring b .auto := if_pos left
  rw [eq, State.beginRestoring, counted, State.setProtection_setProtection]
  dsimp only
  rw [State.setProtection_protection, if_pos rfl]
  rfl

theorem State.expired_protection (s : State) (b : Branch) (n : Nat) (c : Branch) : (s.expired b n).protection c =
    if c = b then { s.protection b with state := .restoring, restartTimer := 0, restartCount := n } else s.protection c :=
  State.setProtection_protection ..

/-- The branch shed for good at the expiry of its wait, with its events (R131, R133). -/
def State.exhausted (s : State) (b : Branch) : State := s.setProtection b { s.protection b with exhaustedMark := true }

theorem State.expireWait_spent (spent : s.restartsLeft b = false) : s.expireWait b =
    ((s.exhausted b).shedBranch b).post (.restartExhausted b (s.protection b).restartCount) EventOrigin.nobody :=
  if_neg (Bool.eq_false_iff.mp spent)

theorem State.restartsLeft_iff : s.restartsLeft b = true ↔
    look s.settings.restartLimit b = 0 ∨ (s.protection b).restartCount < look s.settings.restartLimit b := by
  rw [State.restartsLeft, Bool.or_eq_true, beq_iff_eq, decide_eq_true_iff]

theorem holdUp_byte (n : Nat) : holdUp Config.byteMax n = if 255 ≤ n then 255 else n + 1 := rfl

/-- A branch in RESTORING with no victims is one in NORMAL, its victims so. -/
theorem victims_eq_fill {v : Vector Bool 24} (none : ∀ k, look v k = false) : fill 24 false = v := by
  refine Vector.ext fun i h => ?_
  have here := none ⟨i, h⟩
  rw [look] at here
  simpa [fill] using here.symm

/-- Settles O56. -/
theorem restartAndRestorationFollowRules : Obligations.RestartAndRestorationFollowRules := by
  refine ⟨fun b s high shed enabled over' breaker manual mark exhausted => ?_, fun b s stays => ?_, fun b s stays => ?_,
    fun b s out => ?_, fun b s high waits zero => ⟨fun left => ?_, fun limited spent => ?_⟩,
    fun b s high restoring => ⟨fun none => ?_, fun k victim first => ?_⟩, fun b s high restoring room => ?_⟩
  · have due := State.restartDue_iff.mpr ⟨shed, enabled, ⟨over', breaker, manual⟩, mark, exhausted⟩
    exact congrArg Host.Outcome.next ((State.running_high high).trans (if_pos due))
  · refine congrArg Host.Outcome.next (State.running_id (if_neg fun due => ?_))
    obtain ⟨shed, enabled, ⟨over', breaker, manual⟩, mark, exhausted⟩ := State.restartDue_iff.mp due
    rw [shed, enabled, over', breaker, manual, mark, exhausted] at stays
    simp at stays
  · refine congrArg Host.Outcome.next (State.running_id (if_neg fun expires => ?_))
    obtain ⟨waits, zero⟩ := State.waitOver_iff.mp expires
    exact stays.elim (fun h => h waits) fun h => h zero
  · exact congrArg Host.Outcome.next (State.running_id (State.restorationPass_out out))
  · let n := holdUp Config.byteMax (s.protection b).restartCount
    let u := (s.expired b n).testHead b
    have turn : s.restartTurn b = u.restorationPass b := by
      rw [State.restartTurn, if_pos (State.waitOver_iff.mpr ⟨waits, zero⟩), State.expireWait_left (State.restartsLeft_iff.mpr left)]
    have begun (c : Branch) : u.protection c = (s.expired b n).protection c :=
      State.protection_of_eq ((State.LineOnly.refl _).testHead b).protections c
    have acts : Acts s (s.restartTurn b) := (Acts.refl s).restartTurn b
    have high' : u.resetHeld = false := (congrArg State.resetHeld ((State.LineOnly.refl (s.expired b n)).testHead b) :).trans high
    obtain ⟨others, v, own⟩ := u.restorationPass_protection b
    rw [begun, s.expired_protection b n b, if_pos rfl] at own
    rw [turn] at acts
    refine ⟨n, u, _, holdUp_byte _, exec_admission (s := s.expired b n) high b, exec_restorationPass high' b,
      congrArg Host.Outcome.next ((State.running_high high).trans turn), ?_, ?_, fun c ne => ?_, acts.only⟩
    · exact own.imp (fun h => by rw [h]) fun h => by rw [h]; rfl
    · rcases own with h | h <;> rw [h] <;> rfl
    · rw [others c ne, begun, s.expired_protection b n c, if_neg ne]
  · have none : s.restartsLeft b = false := by
      refine Bool.eq_false_iff.mpr fun left => ?_
      exact (State.restartsLeft_iff.mp left).elim limited (Nat.not_lt.mpr spent)
    have own (c : Branch) : (s.exhausted b).protection c = if c = b then { s.protection b with exhaustedMark := true } else s.protection c :=
      State.setProtection_protection ..
    have sheds := (s.exhausted b).shedBranch_sheds b
    have acts : Acts s ((s.exhausted b).shedBranch b) := ((Acts.refl s).setProtection b _).shedBranch b
    obtain ⟨w, isW⟩ : ∃ w, w = (s.exhausted b).shedBranch b := ⟨_, rfl⟩
    rw [← isW] at sheds acts
    obtain ⟨v, protection⟩ := sheds.own
    rw [own b, if_pos rfl] at protection
    have turn : s.restartTurn b = w.post (.restartExhausted b (s.protection b).restartCount) EventOrigin.nobody := by
      rw [State.restartTurn, if_pos (State.waitOver_iff.mpr ⟨waits, zero⟩), State.expireWait_spent none, ← isW]
      refine State.restorationPass_out ?_
      show (w.protection b).state ≠ .restoring
      rw [protection]
      exact nofun
    have plain : ((s.exhausted b).protection b).state ≠ .restoring := by
      rw [own b, if_pos rfl]
      show (s.protection b).state ≠ .restoring
      rw [waits]
      decide
    have stamp : w.stamp = s.stamp := congrArg Fixed.stamp acts.fixed
    refine ⟨_, congrArg Host.Outcome.next ((State.running_high high).trans turn), ?_, fun distinct k at' modes plain gains =>
      sheds.sheds distinct k at' modes plain gains, fun k stays => ?_, fun k at' now untripped idle away => ?_,
      fun c ne => (sheds.branches c ne).trans ((own c).trans (if_neg ne)), (congrArg State.tripped sheds.rest :),
      (congrArg State.tripRuns sheds.rest :), (congrArg State.slots sheds.rest :),
      (acts.post (.restartExhausted b (s.protection b).restartCount) EventOrigin.nobody).sameOutside, fun x => ?_⟩
    · show w.protection b = { s.protection b with
        state := .shed, restartTimer := 0, exhaustedMark := true, victims := (w.protection b).victims }
      rw [protection]
    · refine (sheds.stays k plain stays).trans ?_
      rw [own b, if_pos rfl]
    · obtain ⟨mode, urged, named, -⟩ := sheds.urged k at' untripped (fun keep => absurd (now.symm.trans keep) (by decide)) idle away
      obtain rfl := named now
      exact ⟨urged.state.trans (if_neg fun h => absurd h.1 (by decide)), urged.step⟩
    · obtain ⟨es, offered⟩ := acts.ports x
      refine ⟨es, (State.post_port ..).trans ?_⟩
      rw [offered, stamp, List.foldl_append]
      rfl
  · refine ⟨_, exec_restorationPass high b, ?_⟩
    have same : { s.protection b with state := .normal, manualMark := false, exhaustedMark := false } = Protection.normal (s.protection b) := by
      rw [Protection.normal, show Vector.replicate 24 false = (s.protection b).victims from victims_eq_fill none]
    rw [State.restorationPass_empty restoring none, same]
    exact exec_admission (s := (s.setProtection b (s.protection b).normal).post (.branchNormal b .restored) EventOrigin.nobody) high b
  · intro dropped
    have drops : dropped = s.dropVictim b k := rfl
    clear_value dropped
    subst drops
    obtain ⟨held, faulted, busy, full, placed⟩ := s.restoreVictim_cases b k
    obtain ⟨stops, goes⟩ := State.restorationPass_first restoring victim first
    have passes (t : State) (turn : s.restoreVictim b k = some t) (same : t.protection b = (s.dropVictim b k).protection b)
        (high' : t.resetHeld = false) : exec (.restorationPass b) s = exec (.restorationPass b) t := by
      obtain ⟨still, dealt⟩ := State.dropVictim_dealt same restoring first
      rw [exec_restorationPass high, exec_restorationPass high', goes t turn still dealt]
    refine ⟨fun x hold => passes _ (held x hold) rfl high, fun hold fault => passes _ (faulted hold fault) rfl high,
      fun hold fault entry => passes _ (busy hold fault entry) rfl high, fun hold fault entry all => ?_,
      fun hold fault entry some => ?_⟩
    · rw [exec_restorationPass high, stops (full hold fault entry all)]
    · have queue := s.restorePlaced_queue b k
      have high' : (s.restorePlaced b k).resetHeld = false := (congrArg State.resetHeld queue.rest :).trans high
      obtain ⟨e, new, id, places⟩ := State.exec_restorePlaced high b k
      refine ⟨e, s.restorePlaced b k, fun e' live same => ?_, new, places, passes _ (placed hold fault entry some)
        (State.protection_of_eq queue.protections b) high'⟩
      exact State.freeId_fresh (State.hasRoom_iff.mpr some) (id ▸ same ▸ List.mem_map_of_mem live)
  · obtain ⟨p, own⟩ := State.restorationPass_room restoring room
    obtain ⟨others, -⟩ := s.restorationPass_protection b
    refine ⟨_, exec_restorationPass high b, by rw [own]; rfl, fun k => ?_, by rw [own]; rfl, by rw [own]; rfl, others,
      ((Acts.refl s).restorationPass b).only⟩
    rw [own]
    exact look_fill false k

end Sys2Proof.Machine

/-! PROOF. An outlet's trip: its entry pre-empted, and the driver's table of urgent opens (O55). -/

namespace Sys2Proof.Machine

variable {s t u : State} {x : Link} {j k : Outlet} {b : Branch} {e : Entry} {st : Step} {mode : UrgentMode}

/-! ### Pre-emption of an outlet's entry -/

theorem State.StepOnly.preemptEntry (h : s.StepOnly t) (k : Outlet) : s.StepOnly (t.preemptEntry k) := by
  unfold State.preemptEntry
  split
  · exact h
  · exact .ite (h.modEntry ..) (h.complete ..)

/-- The monitor of an outlet whose entry an urgent open pre-empts (R86, R150). -/
def State.preemptedMonitor (s : State) (k : Outlet) : Monitor :=
  match s.entryOf k with
  | none => s.monitor k
  | some e =>
    if e.phase = .closing ∧ (s.driver k).state = .pulse then s.monitor k
    else (s.monitor k).afterEnd e.kind e.origin .preempted (look s.settings.bootGrace k)

/-- What a pre-emption leaves (R86): the driver; the entry gone with its ACTION_ENDED, or marked. -/
structure State.Preempts (s : State) (k : Outlet) (t : State) : Prop where
  driver : t.driver k = s.driver k
  monitor : t.monitor k = s.preemptedMonitor k
  monitors : ∀ j, j ≠ k → t.monitor j = s.monitor j
  free : s.entryOf k = none → t = s
  marked : ∀ e, s.entryOf k = some e → e.phase = .closing ∧ (s.driver k).state = .pulse →
    t.entryOf k = some { e with preempt := true } ∧ t.ports = s.ports
  ended : ∀ e, s.entryOf k = some e → ¬(e.phase = .closing ∧ (s.driver k).state = .pulse) → t.entryOf k = none ∧
    ∀ x, t.port x = (s.port x).offer
      { body := .actionEnded k e.id e.kind .preempted .none,
        source := { origin := some e.origin, sweep := e.sweep, tag := e.tag }, stamp := s.stamp }

theorem State.ended_monitor (s : State) (e : Entry) (r : ActionResult) (d : ResultDetail) (j : Outlet) :
    (s.ended e r d).monitor j = if j = e.outlet then
      (s.monitor e.outlet).afterEnd e.kind e.origin r (look s.settings.bootGrace e.outlet) else s.monitor j :=
  look_put ..

theorem State.complete_monitor (s : State) (e : Entry) (r : ActionResult) (d : ResultDetail) (j : Outlet) :
    (s.complete e r d).monitor j = (s.ended e r d).monitor j := by
  rw [State.monitor, (s.complete_line e r d).monitors]
  rfl

theorem State.complete_port (s : State) (e : Entry) (r : ActionResult) (d : ResultDetail) (x : Link) :
    (s.complete e r d).port x = (s.port x).offer
      { body := .actionEnded e.outlet e.id e.kind r d,
        source := { origin := some e.origin, sweep := e.sweep, tag := e.tag }, stamp := s.stamp } :=
  (congrArg (fun p : PerLink Port => p.get x) (s.complete_line e r d).ports).trans (State.post_port ..)

theorem State.preemptEntry_preempts (distinct : s.EntriesDistinct) (k : Outlet) : s.Preempts k (s.preemptEntry k) := by
  cases entry : s.entryOf k with
  | none =>
    rw [State.preemptEntry_none entry]
    refine ⟨rfl, ?_, fun _ _ => rfl, fun _ => rfl, fun e some => absurd (entry.symm.trans some) nofun,
      fun e some => absurd (entry.symm.trans some) nofun⟩
    simp only [State.preemptedMonitor, entry]
  | some e =>
    have outlet := State.outlet_of_entryOf entry
    have eq := State.preemptEntry_of entry
    by_cases pulse : e.phase = .closing ∧ (s.driver k).state = .pulse
    · rw [eq, if_pos pulse]
      refine ⟨rfl, ?_, fun _ _ => rfl, fun none => absurd (entry.symm.trans none) nofun, fun e' some _ => ⟨?_, rfl⟩,
        fun e' some plain => absurd pulse (Option.some.inj (entry.symm.trans some) ▸ plain)⟩
      · simp only [State.preemptedMonitor, entry, if_pos pulse]
        rfl
      · rw [← Option.some.inj (entry.symm.trans some)]
        exact State.modEntry_own (f := fun x => { x with preempt := true }) entry fun _ => rfl
    · rw [eq, if_neg pulse]
      have monitor := s.complete_monitor e .preempted .none
      have ended := s.ended_monitor e .preempted .none
      rw [outlet] at ended
      refine ⟨State.complete_driver entry distinct .., ?_, fun j other => ?_, fun none => absurd (entry.symm.trans none) nofun,
        fun e' some marks => absurd (Option.some.inj (entry.symm.trans some) ▸ marks) pulse, fun e' some _ => ?_⟩
      · rw [monitor, ended, if_pos rfl]
        simp only [State.preemptedMonitor, entry, if_neg pulse]
      · rw [monitor, ended, if_neg other]
      · obtain rfl := Option.some.inj (entry.symm.trans some)
        refine ⟨State.complete_entryOf entry distinct .., fun x => ?_⟩
        rw [State.complete_port, outlet]

/-! ### The driver's table -/

/-- What an urgent open at a driver without a fault leaves: the outlet's driver, and its monitor by the contact (R149). -/
structure State.DriverOnly (s : State) (k : Outlet) (t : State) : Prop where
  rest : { t with drivers := s.drivers, monitors := s.monitors } = s
  drivers : ∀ j, j ≠ k → t.driver j = s.driver j
  monitors : ∀ j, j ≠ k → t.monitor j = s.monitor j
  monitor : t.monitor k = (s.monitor k).afterMove (s.contact k) (t.contact k)

theorem Monitor.afterMove_same (m : Monitor) (c : Contact) : m.afterMove c c = m := if_neg fun h => h.1 rfl

theorem State.DriverOnly.refl (s : State) (k : Outlet) : s.DriverOnly k s :=
  ⟨rfl, fun _ _ => rfl, fun _ _ => rfl, (Monitor.afterMove_same ..).symm⟩

theorem State.DriverOnly.setDriver {d : Driver} (contact : d.contact = (s.driver k).contact) : s.DriverOnly k (s.setDriver k d) := by
  refine ⟨rfl, fun _ ne => look_put_other _ _ ne, fun _ _ => rfl, ?_⟩
  have same : (s.setDriver k d).contact k = s.contact k := by
    rw [State.contact, State.setDriver_driver, if_pos rfl, contact]; rfl
  rw [same, Monitor.afterMove_same]
  rfl

theorem State.DriverOnly.unknown (s : State) (k : Outlet) (mode : UrgentMode) :
    s.DriverOnly k ((s.setContact k .unknown).takeUrgent k mode) := by
  rw [State.setContact_unknown]
  have moved : (s.moved k .unknown).driver k = { s.driver k with contact := .unknown } := (State.moved_driver ..).trans (if_pos rfl)
  have contact : ((s.moved k .unknown).takeUrgent k mode).contact k = .unknown := by
    rw [State.contact, State.takeUrgent_driver, moved]; rfl
  refine ⟨rfl, fun j ne => ?_, fun j ne => look_put_other _ _ ne, ?_⟩
  · exact (look_put_other _ _ ne).trans ((State.moved_driver ..).trans (if_neg ne))
  · rw [contact]
    exact look_put_self ..

theorem State.urgentAtDriver_driverOnly (sound : (s.driver k).fault = none) (mode : UrgentMode) :
    s.DriverOnly k (s.urgentAtDriver k mode) := by
  have takes : s.DriverOnly k (s.takeUrgent k mode) := .setDriver rfl
  unfold State.urgentAtDriver
  dsimp only
  rw [sound]
  split
  · exact .refl s k
  · split
    · exact .refl s k
    · exact takes
  · exact takes
  · split
    · refine .setDriver ?_
      unfold Driver.joinUrgentOpen
      split <;> rfl
    · split
      · exact .setDriver rfl
      · exact .setDriver rfl
      · exact .setDriver rfl
      · exact .unknown s k mode
      · exact takes

/-- The urgent open taken, in words: the driver's step replaced by it, waiting for a slot (R120). -/
theorem State.takeUrgent_now (s : State) (k : Outlet) : (s.takeUrgent k .openNow).driver k = { s.driver k with
    state := .waitSlot, pulseCount := 0, skip := 0, observe := 0, activeSeen := false, waitingUrgent := none
    step := some (s.newStep k .opening (.urgent .openNow)) } := by
  rw [State.takeUrgent_driver, if_neg fun h : UrgentMode.openNow = .openSync ∧ _ => absurd h.1 (by decide)]
  rfl

theorem State.urgentAtDriver_open (idle : (s.driver k).state = .idle) (opened : s.contact k = .opened) :
    s.urgentAtDriver k mode = s := by
  have opened' : (s.driver k).contact = .opened := opened
  simp only [State.urgentAtDriver, idle, opened', if_true]

theorem State.urgentAtDriver_waits (waits : (s.driver k).state = .waitPhase ∨ (s.driver k).state = .waitSlot)
    (step : (s.driver k).step = some st) (own : st.source = .entry) : s.urgentAtDriver k mode = s.takeUrgent k mode := by
  rcases waits with state | state <;> simp only [State.urgentAtDriver, state, step, own]

theorem State.urgentAtDriver_adopts (runs : (s.driver k).state = .pulse ∨ (s.driver k).state = .verify)
    (step : (s.driver k).step = some st) (own : st.source = .entry) (opens : st.direction = .opening) :
    s.urgentAtDriver k mode = s.setDriver k ((s.driver k).adopt st mode) := by
  rcases runs with state | state <;> simp only [State.urgentAtDriver, state, step, own, opens]

theorem State.urgentAtDriver_pulses (pulse : (s.driver k).state = .pulse) (step : (s.driver k).step = some st)
    (own : st.source = .entry) (closes : st.direction = .close) : (s.urgentAtDriver k mode).driver k =
      { s.driver k with waitingUrgent := some (joinUrgent (s.driver k).waitingUrgent mode) } := by
  simp only [State.urgentAtDriver, pulse, step, own, closes, State.setDriver_driver, if_true]

theorem State.urgentAtDriver_verifies (verify : (s.driver k).state = .verify) (step : (s.driver k).step = some st)
    (own : st.source = .entry) (closes : st.direction = .close) :
    s.urgentAtDriver k mode = (s.setContact k .unknown).takeUrgent k mode := by
  simp only [State.urgentAtDriver, verify, step, own, closes]

theorem State.urgentAtDriver_joins {m : UrgentMode} (busy : (s.driver k).state ≠ .idle) (sound : (s.driver k).state ≠ .faulted)
    (step : (s.driver k).step = some st) (source : st.source = .urgent m) :
    s.urgentAtDriver k mode = s.setDriver k ((s.driver k).joinUrgentOpen m mode) := by
  cases state : (s.driver k).state with
  | idle => exact absurd state busy
  | faulted => exact absurd state sound
  | _ => simp only [State.urgentAtDriver, state, step, source]

/-- Outlet `k`'s driver as the test of a head leaves it: as it was, or with the close step of an entry handed over. -/
def State.HandedClose (s : State) (k : Outlet) (t : State) : Prop :=
  t.driver k = s.driver k ∨ ((t.driver k).state = .waitPhase ∨ (t.driver k).state = .waitSlot) ∧
    ∃ st, (t.driver k).step = some st ∧ st.source = .entry

theorem State.handOver_waits (s : State) (k : Outlet) (d : Direction) :
    (((s.handOver k d).driver k).state = .waitPhase ∨ ((s.handOver k d).driver k).state = .waitSlot) ∧
      ∃ st, ((s.handOver k d).driver k).step = some st ∧ st.source = .entry := by
  refine ⟨?_, _, congrArg Driver.step (look_put_self ..), rfl⟩
  have state : ((s.handOver k d).driver k).state = if (s.newStep k d .entry).sync = true then .waitPhase else .waitSlot :=
    congrArg Driver.state (look_put_self ..)
  rw [state]
  split
  · exact .inl rfl
  · exact .inr rfl

theorem State.testHead_handed (s : State) (b : Branch) (k : Outlet) : s.HandedClose k (s.testHead b) := by
  unfold State.testHead
  split
  · exact .inl rfl
  · split
    · exact .inl rfl
    · next e _ =>
      split
      · by_cases own : k = e.outlet
        · subst own
          exact .inr (State.handOver_waits _ e.outlet .close)
        · exact .inl (look_put_other _ _ own)
      · exact .inl rfl

theorem State.sequencerCompletion_handed (s : State) (b : Branch) (id : Byte) (k : Outlet) :
    s.HandedClose k (s.sequencerCompletion b id) := by
  unfold State.sequencerCompletion State.endClose State.leaveLine
  dsimp only
  split
  · exact State.testHead_handed (s.setSequencer b _) b k
  · split
    · split
      · exact State.testHead_handed (s.setSequencer b _) b k
      · exact .inl rfl
    · exact .inl rfl

/-- An urgent open at an idle outlet that is not OPEN is taken, whatever its entry's end has handed over. -/
theorem State.urgentOpen_idle (idle : (s.driver k).state = .idle) (away : s.contact k ≠ .opened) (mode : UrgentMode) :
    s.urgentOpen k mode = (s.preemptEntry k).takeUrgent k mode := by
  have away' : (s.preemptEntry k).contact k ≠ .opened := by
    rw [((State.StepOnly.refl s).preemptEntry k).contact]; exact away
  have handed : s.HandedClose k (s.preemptEntry k) := by
    cases entry : s.entryOf k with
    | none => rw [State.preemptEntry_none entry]; exact .inl rfl
    | some e =>
      have plain : ¬(e.phase = .closing ∧ (s.driver k).state = .pulse) := by rw [idle]; exact fun h => absurd h.2 nofun
      rw [State.preemptEntry_of entry, if_neg plain, State.complete_eq]
      exact State.sequencerCompletion_handed (s.ended e .preempted .none) _ _ k
  rcases handed with same | ⟨waits, st, step, own⟩
  · exact State.urgentAtDriver_idle (by rw [same]; exact idle) away' mode
  · exact State.urgentAtDriver_waits waits step own

/-! ### The trip -/

theorem State.mayTrip_iff : s.mayTrip k = true ↔ look s.settings.tripLevel k ≠ 0 ∧ (s.driver k).fault = none ∧
    ¬(s.isTripped k = true ∧ s.contact k = .opened) := by
  rw [State.mayTrip, Bool.and_eq_true, Bool.and_eq_true, bne_iff_ne, Option.isNone_iff_eq_none, Bool.not_eq_true',
    ← Bool.not_eq_true, Bool.and_eq_true, beq_iff_eq, and_assoc]

theorem State.tripDue_iff : s.tripDue k = true ↔ look s.settings.tripCycles k ≤ s.tripRun k := decide_eq_true_iff

/-- A trip beside the urgent open it makes (R126). -/
structure State.TripsAfter (s : State) (k : Outlet) (v t : State) : Prop where
  drivers : t.drivers = v.drivers
  monitors : t.monitors = v.monitors
  entries : t.entries = v.entries
  protections : t.protections = v.protections
  meters : t.meters = v.meters
  tripped : ∀ j, t.isTripped j = if j = k then true else v.isTripped j
  tripRun : ∀ j, t.tripRun j = if j = k then 0 else v.tripRun j
  ports : ∀ x, t.port x = (v.port x).offer
    { body := .outletTrip k (((s.meter k).cycleResult.map (·.imA)).getD 0) (look s.settings.tripLevel k),
      source := EventOrigin.nobody, stamp := v.stamp }

theorem State.tripOutlet_trips (s : State) (k : Outlet) : s.TripsAfter k (s.urgentOpen k .openNow) (s.tripOutlet k) := by
  unfold State.tripOutlet
  dsimp only
  generalize s.urgentOpen k .openNow = v
  exact ⟨rfl, rfl, rfl, rfl, rfl, fun j => look_put .., fun j => look_put .., fun x => State.post_port (v.setTripped k true) ..⟩

theorem State.DriverOnly.ports (h : s.DriverOnly k t) : t.ports = s.ports := (congrArg State.ports h.rest :)

theorem State.DriverOnly.entryOf (h : s.DriverOnly k t) (j : Outlet) : t.entryOf j = s.entryOf j := by
  rw [State.entryOf, (congrArg State.entries h.rest :)]; rfl

/-- Settles O55: the entry's pre-emption, the driver's table over it, and the trip beside them. -/
theorem outletTripOpensNow : Obligations.OutletTripOpensNow := by
  refine ⟨fun k s stays => ?_, fun k s high level sound untripped due => ?_⟩
  · refine congrArg Host.Outcome.next (State.running_id (if_neg fun trips => ?_))
    obtain ⟨may, due⟩ := Bool.and_eq_true_iff.mp trips
    obtain ⟨level, sound, untripped⟩ := State.mayTrip_iff.mp may
    rcases stays with h | h | h | h
    · exact level h
    · exact h sound
    · exact untripped h
    · exact Nat.not_le.mpr h (State.tripDue_iff.mp due)
  have turn : s.outletTrip k = s.tripOutlet k :=
    if_pos (Bool.and_eq_true_iff.mpr ⟨State.mayTrip_iff.mpr ⟨level, sound, untripped⟩, State.tripDue_iff.mpr due⟩)
  have acts : Acts s (s.tripOutlet k) := (Acts.refl s).tripOutlet k
  let w := s.preemptEntry k
  let v := w.urgentAtDriver k .openNow
  have step : s.StepOnly w := (State.StepOnly.refl s).preemptEntry k
  have opens : w.DriverOnly k v := State.urgentAtDriver_driverOnly (by rw [step.fault]; exact sound) .openNow
  have trips : s.TripsAfter k v (s.tripOutlet k) := s.tripOutlet_trips k
  obtain ⟨t, isT⟩ : ∃ t, t = s.tripOutlet k := ⟨_, rfl⟩
  rw [← isT] at turn acts trips
  have driver (j : Outlet) : t.driver j = v.driver j := by rw [State.driver, trips.drivers]; rfl
  have monitor (j : Outlet) : t.monitor j = v.monitor j := by rw [State.monitor, trips.monitors]; rfl
  have entries : t.entries = w.entries := trips.entries.trans (congrArg State.entries opens.rest :)
  have entryOf (j : Outlet) : t.entryOf j = w.entryOf j := by rw [State.entryOf, entries]; rfl
  have tripped : v.tripped = s.tripped := (congrArg State.tripped opens.rest :).trans (congrArg State.tripped step.rest :)
  have tripRuns : v.tripRuns = s.tripRuns := (congrArg State.tripRuns opens.rest :).trans (congrArg State.tripRuns step.rest :)
  have others {j : Outlet} (ne : j ≠ k) : t.isTripped j = s.isTripped j ∧ t.tripRun j = s.tripRun j := by
    rw [trips.tripped, trips.tripRun, if_neg ne, if_neg ne, State.isTripped, State.tripRun, tripped, tripRuns]
    exact ⟨rfl, rfl⟩
  have stamp : v.stamp = s.stamp := (congrArg State.stamp opens.rest :).trans (congrArg State.stamp step.rest :)
  have settings : w.settings = s.settings := (congrArg State.settings step.rest :)
  have trackers : w.trackers = s.trackers := (congrArg State.trackers step.rest :)
  have idles (idle : (s.driver k).state = .idle) (away : s.contact k ≠ .opened) : v = w.takeUrgent k .openNow :=
    State.urgentOpen_idle idle away .openNow
  refine ⟨t, congrArg Host.Outcome.next ((State.running_high high).trans turn), (trips.tripped k).trans (if_pos rfl),
    (trips.tripRun k).trans (if_pos rfl), fun j ne => others ne, fun idle away => ?_, ?_, acts.only, fun distinct => ?_⟩
  · have urged := (w.takeUrgent_urged k .openNow).of_same settings trackers (driver k |>.trans (by rw [idles idle away]))
    exact ⟨urged.state.trans (if_neg fun h => absurd h.1 (by decide)), urged.step⟩
  · exact trips.protections.trans ((congrArg State.protections opens.rest :).trans
      (congrArg State.protections step.rest :))
  intro d taken trip
  have pre := State.preemptEntry_preempts distinct k
  have own : w.driver k = d := pre.driver
  have contactW : w.contact k = s.contact k := step.contact k
  have port (x : Link) : t.port x = (w.port x).offer trip := by
    have same : v.port x = w.port x := congrArg (fun p : PerLink Port => p.get x) opens.ports
    rw [trips.ports, same, stamp]
  have takes (c : Contact) (u : State) (rest : u.driver k = { d with contact := c }) (settings' : u.settings = s.settings)
      (trackers' : u.trackers = s.trackers) (eq : v = u.takeUrgent k .openNow) : taken c := by
    show t.driver k = _
    rw [driver, eq, State.takeUrgent_now, rest, State.newStep_of settings' trackers']
    rfl
  have takesW (eq : v = w.takeUrgent k .openNow) : taken (s.contact k) :=
    takes _ w own settings trackers eq
  refine ⟨fun none => ?_, fun e entry => ⟨fun marks => ?_, fun plain => ?_⟩, fun idle away => takesW (idles idle away),
    fun idle opened => ?_, fun st step' source => ⟨fun waits => ?_, fun runs opening => ?_, fun pulse close => ?_, fun verify close => ?_⟩,
    ?_, fun j ne => ?_, ?_, fun st m step' source busy fine => ?_⟩
  · have same : w = s := pre.free none
    refine ⟨entries.trans (by rw [same]), fun x => (port x).trans (by rw [same])⟩
  · obtain ⟨marked, ports⟩ := pre.marked e entry marks
    refine ⟨(entryOf k).trans marked, fun x => (port x).trans ?_⟩
    exact congrArg (fun p : Port => p.offer trip) (congrArg (fun p : PerLink Port => p.get x) ports)
  · obtain ⟨gone, offered⟩ := pre.ended e entry plain
    exact ⟨(entryOf k).trans gone, fun x => (port x).trans (congrArg (fun p : Port => p.offer trip) (offered x))⟩
  · have eq : v = w := State.urgentAtDriver_open (by rw [own]; exact idle) (contactW.trans opened)
    rw [driver, eq, own]
  · exact takesW (State.urgentAtDriver_waits (by rw [own]; exact waits) (by rw [own]; exact step') source)
  · have eq : v = w.setDriver k ((w.driver k).adopt st .openNow) :=
      State.urgentAtDriver_adopts (by rw [own]; exact runs) (by rw [own]; exact step') source opening
    rw [driver, eq, State.setDriver_driver, if_pos rfl, own]
    rfl
  · have eq : v.driver k = { w.driver k with waitingUrgent := some (joinUrgent (w.driver k).waitingUrgent .openNow) } :=
      State.urgentAtDriver_pulses (by rw [own]; exact pulse) (by rw [own]; exact step') source close
    have joined : joinUrgent d.waitingUrgent .openNow = .openNow := by
      unfold joinUrgent
      split <;> rfl
    rw [driver, eq, own, joined]
  · have eq : v = (w.setContact k .unknown).takeUrgent k .openNow :=
      State.urgentAtDriver_verifies (by rw [own]; exact verify) (by rw [own]; exact step') source close
    rw [State.setContact_unknown] at eq
    exact takes .unknown (w.moved k .unknown) ((State.moved_driver ..).trans ((if_pos rfl).trans (by rw [own]))) settings trackers eq
  · have contactT : t.contact k = v.contact k := by rw [State.contact, driver]; rfl
    rw [monitor, opens.monitor, pre.monitor, contactW, ← contactT]
    rfl
  · rw [monitor, opens.monitors j ne, pre.monitors j ne]
  · exact trips.meters.trans ((congrArg State.meters opens.rest :).trans (congrArg State.meters step.rest :))
  · have eq : v = w.setDriver k ((w.driver k).joinUrgentOpen m .openNow) :=
      State.urgentAtDriver_joins (by rw [own]; exact busy) (by rw [own]; exact fine) (by rw [own]; exact step') source
    rw [driver, eq, State.setDriver_driver, if_pos rfl, own]
    simp only [Driver.joinUrgentOpen, true_and]

end Sys2Proof.Machine

/-! PROOF. The trackers' closes and measures taken by themselves (O53). -/

namespace Sys2Proof.Machine

variable {s t u : State} {k : Outlet} {f : Feed}

/-! ### A verdict leaves the measurements -/

theorem State.QueueOnly.post (h : s.QueueOnly t) (body : EventBody) (source : EventOrigin) : s.QueueOnly (t.post body source) :=
  h.trans ⟨rfl, fun _ => rfl, fun _ => rfl⟩

theorem State.QueueOnly.setMonitor (h : s.QueueOnly t) (k : Outlet) (m : Monitor) : s.QueueOnly (t.setMonitor k m) :=
  h.trans ⟨rfl, fun _ => rfl, fun _ => rfl⟩

theorem State.QueueOnly.ite {p : Prop} [Decidable p] (h : s.QueueOnly t) (g : s.QueueOnly u) : s.QueueOnly (if p then t else u) := by
  split
  · exact h
  · exact g

theorem State.QueueOnly.foldl {α : Type} {visit : State → α → State} (visits : ∀ u a, State.QueueOnly u (visit u a)) (l : List α)
    (h : s.QueueOnly t) : s.QueueOnly (l.foldl visit t) := by
  induction l generalizing t with
  | nil => exact h
  | cons a l ih => exact ih (h.trans (visits t a))

theorem State.QueueOnly.reportHang (h : s.QueueOnly t) (k : Outlet) (reason : HangReason) : s.QueueOnly (t.reportHang k reason) :=
  (h.setMonitor k _).post _ _

theorem State.QueueOnly.placeCycle (h : s.QueueOnly t) (k : Outlet) : s.QueueOnly (t.placeCycle k) :=
  .ite h ((((h.setMonitor k _).note _).place k _ _ _ _ _).post _ _)

theorem State.QueueOnly.tryPlace (h : s.QueueOnly t) (k : Outlet) : s.QueueOnly (t.tryPlace k) := by
  unfold State.tryPlace
  split
  · split
    · exact h.reportHang k _
    · exact h.placeCycle k
  · exact h

theorem State.QueueOnly.giveVerdict (h : s.QueueOnly t) (k : Outlet) : s.QueueOnly (t.giveVerdict k) := by
  unfold State.giveVerdict
  dsimp only
  split
  · exact h.reportHang k _
  · exact h.reportHang k _
  · exact .ite (((h.setMonitor k _).note _).tryPlace k) ((h.setMonitor k _).post _ _)

theorem State.QueueOnly.evidence (h : s.QueueOnly t) (k : Outlet) : s.QueueOnly (t.evidence k) :=
  .ite h (.ite ((h.setMonitor k _).giveVerdict k) (h.setMonitor k _))

theorem State.QueueOnly.meter (h : s.QueueOnly t) (k : Outlet) : t.meter k = s.meter k :=
  congrArg (look · k) (congrArg State.meters h.rest :)

/-! ### What the stages of a close leave alone -/

/-- What no act of a block changes, the energy registers apart. -/
def Fixed.unmetered (p : Fixed) : Fixed := { p with energy := fill 24 Energy.zero }

/-- `t` has all that no act of a block changes as `s` has it, the energy registers apart. -/
def State.Metered (s t : State) : Prop := t.fixed.unmetered = s.fixed.unmetered

theorem State.Metered.refl (s : State) : s.Metered s := rfl

theorem State.Metered.trans (h : s.Metered t) (g : t.Metered u) : s.Metered u := Eq.trans g h

theorem Acts.metered (h : Acts s t) : s.Metered t := congrArg Fixed.unmetered h.fixed

theorem State.Metered.act (h : s.Metered t) (g : Acts t u) : s.Metered u := h.trans g.metered

theorem State.Metered.foldl {α : Type} {visit : State → α → State} (visits : ∀ u a, State.Metered u (visit u a)) (l : List α)
    (h : s.Metered t) : s.Metered (l.foldl visit t) := by
  induction l generalizing t with
  | nil => exact h
  | cons a l ih => exact ih (h.trans (visits t a))

theorem State.meterClose_metered (s : State) (k : Outlet) (n : CloseNotice) : s.Metered (s.meterClose k n) := by
  unfold State.meterClose
  split
  · exact .refl s
  · rfl

theorem State.meterNotice_metered (s : State) (k : Outlet) : s.Metered (s.meterNotice k) := by
  unfold State.meterNotice
  split
  · exact .refl s
  · exact s.meterClose_metered k _

theorem State.Metered.closeStages (h : s.Metered t) (f : Feed) {meter : State → Outlet → State}
    (metered : ∀ u k, State.Metered u (meter u k)) : s.Metered (t.closeStages f meter) := by
  have noted := (State.Metered.foldl metered (t.outletsOfFeed f) h).act
    ((Acts.refl _).note fun h => { h with formed := h.formed ++ (t.outletsOfFeed f).filter t.formsWindow })
  unfold State.closeStages
  dsimp only
  split
  · exact noted.act (Acts.foldl (fun u b => (Acts.refl u).formSum b) _ (.refl _))
  · exact noted

/-- The stages of a synthetic close behind the tracker's own. -/
theorem State.syntheticStages_metered (s : State) (f : Feed) :
    let s1 := allOutlets.foldl State.driverHears s
    let s2 := ((s1.outletsOfFeed f).filter s1.formsWindow).foldl State.evidence (s1.closeStages f State.meterNotice)
    s.Metered (allOutlets.foldl State.leavingTurn ((s2.branchesOfFeed f).foldl State.afterSum s2)) := by
  have heard : s.Metered (allOutlets.foldl State.driverHears s) :=
    (State.Metered.refl s).act (Acts.foldl (fun u k => (Acts.refl u).setDriver k _ (by simp)) allOutlets (.refl s))
  have staged := heard.closeStages f State.meterNotice_metered
  have judged := staged.act (Acts.foldl (fun u k => (Acts.refl u).evidence k)
    (((allOutlets.foldl State.driverHears s).outletsOfFeed f).filter (allOutlets.foldl State.driverHears s).formsWindow) (.refl _))
  exact (judged.act (Acts.foldl (fun u b => (Acts.refl u).afterSum b) _ (.refl _))).act
    (Acts.foldl (fun u k => (Acts.refl u).leavingTurn k) allOutlets (.refl _))

/-! ### One record after another -/

/-- Visits to outlets or branches one after another, each changing what is read of its own alone. -/
theorem State.foldl_read {α β : Type} [DecidableEq β] {read : State → β → α} {visit : State → β → State} {same : State → Prop}
    {change : β → α → α} (keeps : ∀ u k, same u → same (visit u k))
    (own : ∀ u k, same u → read (visit u k) k = change k (read u k))
    (apart : ∀ u k j, same u → j ≠ k → read (visit u k) j = read u j) {l : List β} (nodup : l.Nodup) (h : same s) (k : β) :
    read (l.foldl visit s) k = if k ∈ l then change k (read s k) else read s k := by
  induction l generalizing s with
  | nil => rw [if_neg List.not_mem_nil]; rfl
  | cons j l ih =>
    obtain ⟨out, nodup⟩ := List.nodup_cons.mp nodup
    rw [List.foldl_cons, ih nodup (keeps s j h)]
    by_cases eq : k = j
    · subst eq
      rw [if_neg out, if_pos List.mem_cons_self, own s k h]
    · rw [apart s j k h eq]
      simp only [List.mem_cons, eq, false_or]

theorem State.mem_outletsOfFeed : k ∈ s.outletsOfFeed f ↔ s.feedOf k = f := by
  simp only [State.outletsOfFeed, List.mem_filter, mem_allOutlets, true_and, beq_iff_eq]

theorem State.nodup_outletsOfFeed (s : State) (f : Feed) : (s.outletsOfFeed f).Nodup := nodup_allOutlets.filter _

theorem State.feedOf_of_settings (settings : t.settings = s.settings) (k : Outlet) : t.feedOf k = s.feedOf k := by
  simp only [State.feedOf, State.branchOf, State.branchFeedOf, settings]

/-- A meter at its feed's window's end (R43, R46). -/
def Meter.windowEnds (m : Meter) (fw : Option FeedWindow) (threshold : Nat) (stamp : Timestamp) : Meter :=
  if m.waiting then { m with waiting := false } else m.closeWindow fw threshold stamp

theorem State.meterWindow_meter (s : State) (k j : Outlet) : (s.meterWindow k).meter j =
    if j = k then (s.meter k).windowEnds (s.tracker (s.feedOf k)).windowResult s.settings.noLoad s.stamp else s.meter j := by
  unfold State.meterWindow Meter.windowEnds
  by_cases waits : (s.meter k).waiting = true
  · rw [if_pos waits, if_pos waits, State.setMeter_meter]
  · rw [if_neg waits, if_neg waits, State.setMeter_meter]

theorem State.meterWindow_acts (s : State) (k : Outlet) : Acts s (s.meterWindow k) :=
  Acts.ite ((Acts.refl s).setMeter k _) ((Acts.refl s).setMeter k _)

/-- The meters of a feed at its window's end. -/
theorem State.meterWindows_meter (s : State) (f : Feed) (k : Outlet) : ((s.outletsOfFeed f).foldl State.meterWindow s).meter k =
    if s.feedOf k = f then (s.meter k).windowEnds (s.tracker f).windowResult s.settings.noLoad s.stamp else s.meter k := by
  have each := State.foldl_read (read := State.meter) (visit := State.meterWindow) (same := fun u => u.fixed = s.fixed)
    (change := fun k m => m.windowEnds (s.tracker (s.feedOf k)).windowResult s.settings.noLoad s.stamp)
    (fun u k h => (u.meterWindow_acts k).fixed.trans h)
    (fun u k h => by
      have settings : u.settings = s.settings := (congrArg Fixed.settings h :)
      have trackers : u.trackers = s.trackers := (congrArg Fixed.trackers h :)
      have stamp : u.stamp = s.stamp := (congrArg Fixed.stamp h :)
      rw [u.meterWindow_meter, if_pos rfl, settings, stamp, State.tracker, trackers, State.feedOf_of_settings settings]
      rfl)
    (fun u k j _ ne => by rw [u.meterWindow_meter, if_neg ne]) (s.nodup_outletsOfFeed f) rfl k
  rw [each]
  simp only [State.mem_outletsOfFeed]
  split
  · next own => rw [own]
  · rfl

/-- A synthetic close taken by itself: the tracker's own close, and nothing else of what no act of a block changes, with the
notices emptied behind it. -/
theorem State.syntheticCycle_metered (s : State) {f : Feed} (full : 192 ≤ (s.tracker f).cyc.n) :
    ∃ w, s.syntheticCycle f = w.clearNotices ∧
      (s.setTracker f ((s.tracker f).closeSynthetic (look s.settings.windowExp f))).Metered w :=
  ⟨_, if_pos full, ((Acts.refl _).feedStateTurn f).metered.trans ((s.trackerSynthetic f).syntheticStages_metered f)⟩

theorem Tracker.nextState_synthetic_fst (t : Tracker) :
    (t.nextState .synthetic).1 = if t.state = .noLine then .noLine else .lost := by
  obtain ⟨same, falls, leaves⟩ := t.nextState_synthetic
  cases state : t.state with
  | noLine => rw [same (.inl state), state]; rfl
  | lost => rw [same (.inr state), state]; rfl
  | acquiring => rw [falls state]; rfl
  | tracking => rw [leaves state]; rfl

/-- A window closed by itself: the tracker's window, its JOINED meters' windows, and their verdicts. -/
def State.windowEnded (s : State) (f : Feed) : State :=
  (s.outletsOfFeed f).foldl State.meterWindow (s.setTracker f ((s.tracker f).closeWindow (look s.settings.windowExp f)))

theorem State.windowClose_ends (s : State) {f : Feed} (full : 2 ^ look s.settings.windowExp f ≤ (s.tracker f).win.count) :
    s.windowClose f = (((s.outletsOfFeed f).filter fun k => !(s.meter k).waiting).foldl State.evidence (s.windowEnded f)) :=
  if_pos full

/-- Settles O53. -/
theorem trackersCloseAndMeasure : Obligations.TrackersCloseAndMeasure := by
  refine ⟨fun f s high full => ?_, fun f s _ short => ?_, fun f s a c high anchor crossing full => ?_, fun f s short => ?_,
    fun f s short => ?_, fun f s high full => ?_⟩
  · obtain ⟨w, turn, closed⟩ := s.syntheticCycle_metered full
    have tracker (g : Feed) : (s.syntheticCycle f).tracker g =
        { if g = f then (s.tracker f).closeSynthetic (look s.settings.windowExp f) else s.tracker g with notice := Notice.quiet } := by
      have same : w.tracker g = (s.setTracker f ((s.tracker f).closeSynthetic (look s.settings.windowExp f))).tracker g :=
        congrArg (look · g) (congrArg Fixed.trackers closed :)
      rw [turn, State.clearNotices_tracker, same, State.setTracker_tracker]
    have own := (tracker f).trans (by rw [if_pos rfl, Tracker.closeSynthetic_eq])
    have parts : (s.syntheticCycle f).fixed = { w.fixed with trackers := (s.syntheticCycle f).trackers } := by rw [turn]; rfl
    refine ⟨s.syntheticCycle f, congrArg Host.Outcome.next (State.running_high high), (congrArg Tracker.cyc own :),
      (congrArg Tracker.phase own :), (congrArg Tracker.tp own :), (congrArg Tracker.armed own :), (congrArg Tracker.anchor own :),
      (congrArg Tracker.inRange own :), (congrArg Tracker.cycleResult own :), (congrArg Tracker.state own :).trans ?_,
      fun g ne => by rw [tracker g, if_neg ne], ?_⟩
    · exact (s.tracker f).nextState_synthetic_fst
    · exact ⟨(congrArg Fixed.settings parts :).trans (congrArg Fixed.settings closed :),
        (congrArg Fixed.holds parts :).trans (congrArg Fixed.holds closed :),
        (congrArg Fixed.sweeps parts :).trans (congrArg Fixed.sweeps closed :),
        (congrArg Fixed.banks parts :).trans (congrArg Fixed.banks closed :),
        (congrArg Fixed.breakers parts :).trans (congrArg Fixed.breakers closed :),
        (congrArg Fixed.senseAge parts :).trans (congrArg Fixed.senseAge closed :),
        (congrArg Fixed.handed parts :).trans (congrArg Fixed.handed closed :),
        (congrArg Fixed.stamp parts :).trans (congrArg Fixed.stamp closed :),
        (congrArg Fixed.generation parts :).trans (congrArg Fixed.generation closed :)⟩
  · exact congrArg Host.Outcome.next (State.running_id (if_neg (Nat.not_le.mpr short)))
  · have turn : s.frequencyResult f =
        s.setTracker f ((s.tracker f).formFrequency (look s.settings.divider f) a c s.stamp) := by
      simp only [State.frequencyResult, anchor, crossing]
      exact if_pos full
    exact congrArg Host.Outcome.next ((State.running_high high).trans turn)
  · refine congrArg Host.Outcome.next (State.running_id ?_)
    unfold State.frequencyResult
    dsimp only
    split
    · next a c anchor crossing =>
      rcases short with h | h | h
      · exact absurd (anchor.symm.trans h) nofun
      · exact absurd (crossing.symm.trans h) nofun
      · exact if_neg (Nat.not_le.mpr h)
    · rfl
  · exact congrArg Host.Outcome.next (State.running_id (if_neg (Nat.not_le.mpr short)))
  · have acts : Acts (s.setTracker f ((s.tracker f).closeWindow (look s.settings.windowExp f))) (s.windowClose f) := by
      rw [s.windowClose_ends full]
      exact Acts.foldl (fun u k => (Acts.refl u).evidence k) _ (Acts.foldl (fun u k => u.meterWindow_acts k) _ (.refl _))
    have tracker (g : Feed) : (s.windowClose f).tracker g =
        if g = f then (s.tracker f).closeWindow (look s.settings.windowExp f) else s.tracker g := by
      rw [← State.setTracker_tracker]
      exact congrArg (look · g) (congrArg Fixed.trackers acts.fixed :)
    have own := (tracker f).trans (if_pos rfl)
    have meter (k : Outlet) : (s.windowClose f).meter k = if s.feedOf k = f then (s.meter k).windowEnds
        ((s.tracker f).closeWindow (look s.settings.windowExp f)).windowResult s.settings.noLoad s.stamp else s.meter k := by
      rw [s.windowClose_ends full, (State.QueueOnly.foldl (fun u a => (State.QueueOnly.refl u).evidence a) _ (.refl _)).meter,
        State.windowEnded]
      exact (State.meterWindows_meter (s.setTracker f _) f k).trans (by rw [State.setTracker_tracker, if_pos rfl]; rfl)
    refine ⟨s.windowClose f, congrArg Host.Outcome.next (State.running_high high), (congrArg Tracker.windowResult own :),
      (congrArg Tracker.win own :), fun g ne => (tracker g).trans (if_neg ne), fun k feed joined => ?_, fun k apart => ?_, ?_⟩
    · have ends : (s.windowClose f).meter k = (s.meter k).closeWindow
          ((s.tracker f).closeWindow (look s.settings.windowExp f)).windowResult s.settings.noLoad s.stamp := by
        rw [meter k, if_pos feed, Meter.windowEnds, if_neg (by rw [joined]; exact nofun)]
      exact ⟨_, (congrArg Meter.windowResult ends :), rfl, rfl, rfl⟩
    · rw [meter k, if_neg apart]
    · rw [own]
      exact acts.only

end Sys2Proof.Machine

/-! PROOF. SWITCH: what a placement, a supersession and a cut leave (O38, O40). -/

namespace Sys2Proof.Machine

variable {s t u : State} {x : Link} {k : Outlet} {b : Branch} {e e' : Entry} {kind : Kind}

/-! ### An entry that enters the queue -/

theorem State.QueueOnly.settings (h : s.QueueOnly t) : t.settings = s.settings := (congrArg State.settings h.rest :)

theorem State.QueueOnly.trackers (h : s.QueueOnly t) : t.trackers = s.trackers := (congrArg State.trackers h.rest :)

theorem State.modEntry_tail {es : List Entry} (entries : s.entries = es ++ [e]) (fresh : e.id ∉ es.map (·.id)) (f : Entry → Entry) :
    (s.modEntry e.id f).entries = es ++ [f e] := by
  have others : es.map (fun e' => if e'.id == e.id then f e' else e') = es := by
    refine (List.map_congr_left fun e' live => if_neg fun same => fresh ?_).trans (List.map_id es)
    exact beq_iff_eq.mp same ▸ List.mem_map_of_mem live
  rw [State.modEntry, State.setEntries_entries, entries, List.map_append, others, List.map_singleton, if_pos (beq_self_eq_true _)]

theorem State.testHead_entries (s : State) (b : Branch) : (s.testHead b).entries = s.entries ∨
    ∃ id, (s.sequencer b).line.head? = some id ∧
      (s.testHead b).entries = (s.modEntry id fun x => { x with phase := .closing, begun := true }).entries := by
  cases line : (s.sequencer b).line with
  | nil => exact .inl (by simp only [State.testHead, line, State.setSequencer_entries])
  | cons id rest =>
    cases entry : s.entryById id with
    | none => exact .inl (by simp only [State.testHead, line, entry])
    | some e =>
      by_cases free : s.blockReason b e.outlet = .none
      · exact .inr ⟨id, rfl, by rw [State.testHead_admits line entry free]; exact (s.admitHead_admitted b id rest e.outlet).entries⟩
      · exact .inl (by rw [State.testHead_blocked line entry free, State.setSequencer_entries])

theorem State.modEntry_modEntry (s : State) (id : Byte) {f : Entry → Entry} (keeps : ∀ e, (f e).id = e.id) (g : Entry → Entry) :
    ((s.modEntry id f).modEntry id g).entries = (s.modEntry id (g ∘ f)).entries := by
  simp only [State.modEntry, State.setEntries_entries, List.map_map]
  refine List.map_congr_left fun e _ => ?_
  rw [Function.comp_apply]
  by_cases own : (e.id == id) = true
  · rw [if_pos own, if_pos (by rw [keeps]; exact own), if_pos own, Function.comp_apply]
  · rw [if_neg own, if_neg own, if_neg own]

/-- Where an entry that joins its line stands in the queue: its phase changed, and nothing else of the queue. -/
theorem State.joinLine_entries (s : State) (e : Entry) :
    (s.joinLine e).entries = (s.modEntry e.id fun x => { x with phase := .waitAdmit }).entries ∨
    (s.joinLine e).entries = (s.modEntry e.id fun x => { x with phase := .closing, begun := true }).entries := by
  unfold State.joinLine
  dsimp only
  split
  · next first =>
    rcases State.testHead_entries ((s.modEntry e.id fun x => { x with phase := .waitAdmit }).setSequencer (s.branchOf e.outlet)
      { s.sequencer (s.branchOf e.outlet) with line := s.lineWith e (s.sequencer (s.branchOf e.outlet)).line })
      (s.branchOf e.outlet) with same | ⟨id, head, admitted⟩
    · exact .inl same
    · rw [State.setSequencer_sequencer, if_pos rfl] at head
      obtain rfl : id = e.id := Option.some.inj (head.symm.trans first)
      exact .inr (admitted.trans (s.modEntry_modEntry e.id (f := fun x => { x with phase := .waitAdmit }) (fun _ => rfl) _))
  · exact .inl rfl

/-- A placement of entry `e`, which is not at its target: the entry at the queue's end, the tripped flag, and its first step (R70,
R75, R83). -/
structure State.Enters (s : State) (k : Outlet) (e e' : Entry) (t : State) : Prop where
  queue : s.QueueOnly t
  action : e' = { e with phase := e'.phase, begun := e'.begun, offHold := e'.offHold }
  entries : t.entries = s.entries ++ [e']
  busy : (s.driver k).state ≠ .idle → e'.phase = .queued ∧ e'.begun = false ∧ t.driver k = s.driver k
  opens : (s.driver k).state = .idle → (e.kind = .opening ∨ e.kind = .cycle ∧ s.contact k ≠ .opened) →
    e'.phase = .opening ∧ e'.begun = true ∧
    (t.driver k).state = if (s.tracker (s.feedOf k)).state = .tracking then .waitPhase else .waitSlot
  holds : (s.driver k).state = .idle → e.kind = .cycle → s.contact k = .opened →
    e'.phase = .offHold ∧ e'.begun = true ∧ e'.offHold = e'.offTime
  closes : (s.driver k).state = .idle → e.kind = .closing → e'.phase = .waitAdmit ∨ e'.phase = .closing
  lines : e.kind = .opening → t.sequencers = s.sequencers
  monitors : t.monitors = s.monitors
  nextId : t.nextId = e.id + 1
  isTripped : ∀ j, t.isTripped j = if j = k ∧ e.kind ≠ .opening then false else s.isTripped j

/-- What a placement leaves ahead of its first step. -/
theorem State.placed_parts (s : State) (e : Entry) : (s.placed e).drivers = s.drivers ∧ (s.placed e).sequencers = s.sequencers ∧
    (s.placed e).monitors = s.monitors ∧ (s.placed e).nextId = e.id + 1 ∧
    ∀ j, (s.placed e).isTripped j = if j = e.outlet ∧ e.kind ≠ .opening then false else s.isTripped j := by
  by_cases opening : e.kind = .opening
  · have eq : s.placed e = (s.setEntries (s.entries ++ [e])).setNextId (e.id + 1) := if_pos opening
    rw [eq]
    exact ⟨rfl, rfl, rfl, rfl, fun j => (if_neg fun h => h.2 opening).symm⟩
  · rw [State.placed_clears s opening]
    refine ⟨rfl, rfl, rfl, rfl, fun j => ?_⟩
    rw [State.setTripped_isTripped]
    simp only [ne_eq, opening, not_false_iff, and_true]
    rfl

/-- A placement of an entry that is not at its target. -/
theorem State.place_enters (room : s.hasRoom = true) (away : ¬s.atTarget k kind = true) (free : s.entryOf k = none) (o : Origin)
    (m : Bool) (tag : Option Byte) (off : Nat) :
    ∃ e', s.Enters k (s.newEntry k kind o m tag off) e' (s.place k kind o m tag off) := by
  obtain ⟨e, isE⟩ : ∃ e, e = s.newEntry k kind o m tag off := ⟨_, rfl⟩
  have outlet : e.outlet = k := isE ▸ rfl
  have kinds : e.kind = kind := isE ▸ rfl
  have queued : e.phase = .queued := isE ▸ rfl
  have fresh : e.id ∉ s.entries.map (·.id) := isE ▸ State.freeId_fresh room
  obtain ⟨drivers, sequencers, monitors, nextId, tripped⟩ := s.placed_parts e
  have entry : (s.placed e).entryOf k = some e := outlet ▸ s.placed_entryOf (outlet.symm ▸ free)
  have entered (f : Entry → Entry) : ((s.placed e).modEntry e.id f).entries = s.entries ++ [f e] :=
    State.modEntry_tail (s.placed_entries e) fresh f
  have driver : (s.placed e).driver k = s.driver k := congrArg (look · k) drivers
  have contact : (s.placed e).contact e.outlet = s.contact k := by rw [outlet]; exact (s.placed_queue e).contact k
  have queue : s.QueueOnly (s.place k kind o m tag off) := (State.QueueOnly.refl s).place ..
  rw [s.place_eq, ← isE] at queue ⊢
  rw [outlet, kinds] at tripped
  have flags (t : State) (same : t.tripped = (s.placed e).tripped) (j : Outlet) :
      t.isTripped j = if j = k ∧ e.kind ≠ .opening then false else s.isTripped j := by
    rw [kinds, ← tripped, State.isTripped, same]; rfl
  by_cases idle : (s.driver k).state = .idle
  · have step := State.firstStep_of entry queued (driver ▸ idle)
    rw [step] at queue ⊢
    have opens (away : s.contact k ≠ .opened) (kinds : e.kind = .opening ∨ e.kind = .cycle)
        (eq : (s.placed e).stepEntry e = (s.placed e).startOpening e) : ∃ e', s.Enters k e e' ((s.placed e).stepEntry e) := by
      obtain ⟨state, -, -⟩ := (s.placed e).startOpening_driver e k outlet
      have feed : (s.placed e).tracker ((s.placed e).feedOf k) = s.tracker (s.feedOf k) := by
        rw [State.feedOf_of_settings (s.placed_queue e).settings, State.tracker, (s.placed_queue e).trackers]
        rfl
      rw [feed] at state
      rw [eq] at queue ⊢
      exact ⟨{ e with phase := .opening, begun := true }, queue, rfl, entered _, fun busy => absurd idle busy,
        fun _ _ => ⟨rfl, rfl, state⟩, fun _ _ opened => absurd opened away,
        fun _ closing => absurd (closing.symm) (by rcases kinds with kinds | kinds <;> rw [kinds] <;> exact nofun),
        fun _ => sequencers, monitors, nextId, flags _ rfl⟩
    cases kind with
    | opening =>
      have away' : s.contact k ≠ .opened := fun there => away (State.atTarget_iff.mpr ⟨idle, .inl ⟨rfl, there⟩⟩)
      exact opens away' (.inl kinds) ((State.stepEntry_opening kinds).trans (if_neg (contact ▸ away')))
    | closing =>
      have away' : s.contact k ≠ .closed := fun there => away (State.atTarget_iff.mpr ⟨idle, .inr ⟨rfl, there⟩⟩)
      have eq : (s.placed e).stepEntry e = (s.placed e).joinLine e :=
        (State.stepEntry_closing kinds).trans (if_neg (contact ▸ away'))
      have other {p : Prop} (h : e.kind = .opening) : p := absurd (kinds.symm.trans h) nofun
      have line : (s.placed e).LineOnly ((s.placed e).joinLine e) := (State.LineOnly.refl _).joinLine e
      rw [eq] at queue ⊢
      have joins (e' : Entry) (action : e' = { e with phase := e'.phase, begun := e'.begun, offHold := e'.offHold })
          (entries : ((s.placed e).joinLine e).entries = s.entries ++ [e'])
          (phase : e'.phase = .waitAdmit ∨ e'.phase = .closing) : s.Enters k e e' ((s.placed e).joinLine e) :=
        ⟨queue, action, entries, fun busy => absurd idle busy, fun _ h => h.elim other fun h => absurd (kinds.symm.trans h.1) nofun,
          fun _ h => absurd (kinds.symm.trans h) nofun, fun _ _ => phase, fun h => other h,
          line.monitors.trans monitors, (congrArg State.nextId line :).trans nextId, flags _ line.tripped⟩
      rcases (s.placed e).joinLine_entries e with waits | closes
      · exact ⟨{ e with phase := .waitAdmit }, joins _ rfl (waits.trans (entered _)) (.inl rfl)⟩
      · exact ⟨{ e with phase := .closing, begun := true }, joins _ rfl (closes.trans (entered _)) (.inr rfl)⟩
    | cycle =>
      by_cases opened : s.contact k = .opened
      · have eq : (s.placed e).stepEntry e = (s.placed e).startOffHold e :=
          (State.stepEntry_cycle kinds).trans (if_pos (contact ▸ opened))
        rw [eq] at queue ⊢
        exact ⟨{ e with phase := .offHold, begun := true, offHold := e.offTime }, queue, rfl, entered _, fun busy => absurd idle busy,
          fun _ h => h.elim (fun h => absurd h (by rw [kinds]; decide)) fun h => absurd opened h.2,
          fun _ _ _ => ⟨rfl, rfl, rfl⟩, fun _ h => absurd h (by rw [kinds]; decide), fun h => absurd h (by rw [kinds]; decide),
          monitors, nextId, flags _ rfl⟩
      · exact opens opened (.inr kinds) ((State.stepEntry_cycle kinds).trans (if_neg (contact ▸ opened)))
  · have same : (s.placed e).firstStep k = s.placed e := State.firstStep_idle (.inl (driver ▸ idle))
    rw [same] at queue ⊢
    exact ⟨e, queue, rfl, s.placed_entries e, fun _ => ⟨queued, by rw [isE]; rfl, driver⟩, fun h => absurd h idle,
      fun h => absurd h idle, fun h => absurd h idle, fun _ => sequencers, monitors, nextId, flags _ rfl⟩

/-! ### What an accepted request leaves of an entry out of the line -/

/-- The test of a head leaves an entry that is out of the line, and its driver. -/
theorem State.testHead_outOfLine (entry : s.entryOf k = some e) (distinct : s.EntriesDistinct) (out : e.id ∉ (s.sequencer b).line) :
    (s.testHead b).entryOf k = some e ∧ (s.testHead b).driver k = s.driver k := by
  cases line : (s.sequencer b).line with
  | nil =>
    have eq : s.testHead b = s.setSequencer b { s.sequencer b with reason := .none } := by simp only [State.testHead, line]
    exact eq ▸ ⟨entry, rfl⟩
  | cons id rest =>
    have apart : e.id ≠ id := fun same => out (by rw [line, same]; exact List.mem_cons_self)
    cases head : s.entryById id with
    | none =>
      have eq : s.testHead b = s := by simp only [State.testHead, line, head]
      exact eq.symm ▸ ⟨entry, rfl⟩
    | some e' =>
      by_cases free : s.blockReason b e'.outlet = .none
      · have admitted := s.admitHead_admitted b id rest e'.outlet
        have other : k ≠ e'.outlet := fun same => apart (by
          rw [← State.id_of_entryById head]
          exact congrArg Entry.id (distinct.eq_of_outlet (State.mem_of_entryOf entry) (State.mem_of_entryById head)
            ((State.outlet_of_entryOf entry).trans same)))
        rw [State.testHead_admits line head free]
        refine ⟨?_, admitted.drivers k other⟩
        rw [State.entryOf, admitted.entries]
        refine (s.modEntry_entryOf id (f := fun x => { x with phase := .closing, begun := true }) (fun _ => rfl) k).trans ?_
        rw [entry, Option.map_some, if_neg apart]
      · rw [State.testHead_blocked line head free]
        exact ⟨entry, rfl⟩

/-- A branch's entry into NORMAL likewise. -/
theorem State.enterNormal_outOfLine (entry : s.entryOf k = some e) (distinct : s.EntriesDistinct)
    (out : e.id ∉ (s.sequencer b).line) (o : RestoreOrigin) :
    (s.enterNormal b o).entryOf k = some e ∧ (s.enterNormal b o).driver k = s.driver k := by
  unfold State.enterNormal
  let p := s.setProtection b (s.protection b).normal
  obtain ⟨w, isW⟩ : ∃ w, w = p.post (.branchNormal b o) EventOrigin.nobody := ⟨_, rfl⟩
  have entries : w.entries = s.entries := by rw [isW]; rfl
  have sequencers : w.sequencers = s.sequencers := by rw [isW]; rfl
  have drivers : w.drivers = s.drivers := by rw [isW]; rfl
  have kept := State.testHead_outOfLine (s := w) (b := b) (k := k) (e := e) (by rw [State.entryOf, entries]; exact entry)
    (by rw [State.EntriesDistinct, entries]; exact distinct) (by rw [State.sequencer, sequencers]; exact out)
  rw [isW] at kept
  exact ⟨kept.1, kept.2.trans (congrArg (look · k) (isW ▸ drivers))⟩

/-- A withdrawal from the victims likewise. -/
theorem State.withdrawVictim_outOfLine (entry : s.entryOf k = some e) (distinct : s.EntriesDistinct)
    (out : e.id ∉ (s.sequencer b).line) (j : Outlet) :
    (s.withdrawVictim b j).entryOf k = some e ∧ (s.withdrawVictim b j).driver k = s.driver k := by
  unfold State.withdrawVictim State.settleRestoring
  split
  · split
    · exact State.enterNormal_outOfLine (s := s.dropVictim b j) entry distinct out .restored
    · exact ⟨entry, rfl⟩
  · exact ⟨entry, rfl⟩

theorem State.withdrawVictim_normal (normal : (s.protection b).state = .normal) (j : Outlet) : s.withdrawVictim b j = s :=
  if_neg fun h => h.1 normal

theorem State.accepted_opening (s : State) (k : Outlet) : s.accepted k .opening = s.withdrawVictim (s.branchOf k) k := rfl

theorem State.accepted_other (other : kind ≠ .opening) : s.accepted k kind = s.setTripped k false := by
  cases kind with
  | opening => exact absurd rfl other
  | closing => rfl
  | cycle => rfl

theorem State.entryOf_tail {es : List Entry} (entries : t.entries = es ++ [e]) (none : es.find? (fun e' => e'.outlet == k) = none)
    (outlet : e.outlet = k) : t.entryOf k = some e := by
  rw [State.entryOf, entries, List.find?_append, none, Option.none_or, List.find?_singleton]
  exact if_pos (beq_iff_eq.mpr outlet)

/-- What an accepted request leaves of an entry that its line does not hold, or that it does not open. -/
theorem State.accepted_entry (entry : s.entryOf k = some e) (distinct : s.EntriesDistinct)
    (out : kind = .opening → e.id ∉ (s.sequencer (s.branchOf k)).line) :
    (s.accepted k kind).entryOf k = some e ∧ (s.accepted k kind).driver k = s.driver k := by
  by_cases opening : kind = .opening
  · rw [opening]
    exact State.withdrawVictim_outOfLine entry distinct (out opening) k
  · rw [State.accepted_other opening]
    exact ⟨entry, rfl⟩

/-- What an accepted request leaves of the flags and of the next id (R83, R132). -/
theorem State.accepted_parts (s : State) (k : Outlet) (kind : Kind) : (s.accepted k kind).nextId = s.nextId ∧
    (kind ≠ .opening → (s.accepted k kind).protections = s.protections) ∧
    ∀ j, (s.accepted k kind).isTripped j = if j = k ∧ kind ≠ .opening then false else s.isTripped j := by
  by_cases opening : kind = .opening
  · have rest : s.BranchOnly (s.accepted k kind) := by
      rw [opening]
      exact (State.BranchOnly.refl s).withdrawVictim (s.branchOf k) k
    exact ⟨rest.nextId, fun other => absurd opening other,
      fun j => (congrArg (look · j) rest.tripped).trans (if_neg fun h => h.2 opening).symm⟩
  · rw [State.accepted_other opening]
    refine ⟨rfl, fun _ => rfl, fun j => ?_⟩
    rw [State.setTripped_isTripped]
    simp only [ne_eq, opening, not_false_iff, and_true]

/-- Settles O38. -/
theorem switchPlacesOneEntry : Obligations.SwitchPlacesOneEntry := by
  intro x o n h l tag k kind s ready outlet kinds unheld sound allowed free away short distinct lines
  let v := s.setPort x (s.port x).took
  have room : v.hasRoom = true := State.hasRoom_iff.mpr short
  have away' : ¬v.atTarget k kind = true := mt State.atTarget_iff.mp away
  have held : v.hold k ≠ some x.other := fun held => Bool.eq_false_iff.mp unheld ((s.heldByOther_iff x k).mpr held)
  obtain ⟨e, enters⟩ := State.place_enters (s := v) room away' free (originOf x) false tag (v.offTimeFor k (number2 h l))
  obtain ⟨t, isT⟩ : ∃ t, t = v.place k kind (originOf x) false tag (v.offTimeFor k (number2 h l)) := ⟨_, rfl⟩
  have taken : requestOf x 0x10 ([o, n, h, l] ++ tag.toList) v =
      (t.accepted k kind, { status := if kind = .cycle ∧ 255 < number2 h l then .clamped else .ok, payload := [s.freeId] }) := by
    refine (requestSwitch_of outlet kinds x h l tag v).trans ((State.switchAction_past held sound allowed).trans ?_)
    rw [show v.entryOf k = none from free]
    exact (if_neg away').trans ((if_pos room).trans (by rw [← isT]; rfl))
  have acts : Acts v (t.accepted k kind) := by
    rw [isT]
    exact ((Acts.refl v).place _ _ _ _ _ _ room fun _ => free).accepted k kind
  have distinct' : t.EntriesDistinct := by
    rw [isT]
    exact ((Acts.refl v).place _ _ _ _ _ _ room fun _ => free).distinct distinct
  rw [← isT] at enters
  have action := enters.action
  have id : e.id = s.freeId := congrArg Entry.id action
  have kind' : e.kind = kind := congrArg Entry.kind action
  have offTime : e.offTime = if kind = .cycle then s.offTimeFor k (number2 h l) else 0 := congrArg Entry.offTime action
  have fresh : e.id ∉ s.entries.map (·.id) := id ▸ State.freeId_fresh (s := s) room
  have entry : t.entryOf k = some e := State.entryOf_tail enters.entries free (congrArg Entry.outlet action)
  have settings : t.settings = s.settings := enters.queue.settings
  have branch : t.branchOf k = s.branchOf k := by rw [State.branchOf, settings]; rfl
  have out (opening : kind = .opening) : e.id ∉ (t.sequencer (t.branchOf k)).line := fun waits => by
    rw [branch, State.sequencer, enters.lines (opening ▸ rfl)] at waits
    obtain ⟨e', live, same, -⟩ := (lines (s.branchOf k)).2.1 _ waits
    exact fresh (same ▸ List.mem_map_of_mem live)
  obtain ⟨entryU, driverU⟩ := State.accepted_entry entry distinct' out
  obtain ⟨nextId, protections, tripped⟩ := t.accepted_parts k kind
  refine ⟨_, e, ready.exec_took rfl (length_switch ..) taken, entryU, fun e' live same => fresh (same ▸ List.mem_map_of_mem live),
    kind', congrArg Entry.origin action, congrArg Entry.sweep action, congrArg Entry.tag action, fun cycle zero => ?_,
    fun cycle some => ?_, nextId.trans (enters.nextId.trans (by rw [id]; rfl)), id ▸ acts.respond _ 0x10 _, fun busy => ?_,
    fun idle opens => ?_, fun idle cycle opened => ?_, fun idle closing => ?_, fun normal => ?_, fun opening => ?_, fun other => ?_,
    fun j => ?_⟩
  · rw [offTime, if_pos cycle, State.offTimeFor, if_pos zero]
  · rw [offTime, if_pos cycle, State.offTimeFor, if_neg some]
  · obtain ⟨phase, begun, driver⟩ := enters.busy busy
    exact ⟨phase, begun, driverU.trans driver⟩
  · obtain ⟨phase, begun, driver⟩ := enters.opens idle opens
    exact ⟨phase, begun, (congrArg Driver.state driverU).trans driver⟩
  · exact enters.holds idle cycle opened
  · exact enters.closes idle closing
  · have same : (t.accepted k kind).entries = s.entries ++ [e] := by
      by_cases opening : kind = .opening
      · rw [opening, State.accepted_opening, State.withdrawVictim_normal]
        · exact enters.entries
        · rw [branch, State.protection_of_eq enters.queue.protections]
          exact normal
      · rw [State.accepted_other opening]
        exact enters.entries
    show (t.accepted k kind).entries.filter (fun e' => e'.outlet != k) = s.entries
    rw [same, List.filter_append, List.filter_eq_self.mpr fun e' live => bne_iff_ne.mpr (State.outlet_ne_of_none free live),
      List.filter_singleton, show e.outlet = k from congrArg Entry.outlet action, bne_self_eq_false]
    exact List.append_nil _
  · subst opening
    exact (t.withdrawVictim_leaves k).of_same enters.queue.protections settings rfl
  · exact (protections other).trans enters.queue.protections
  · refine (tripped j).trans ?_
    rw [enters.isTripped]
    split
    · rfl
    · next stays => exact if_neg stays

/-! ### A switching request at an outlet with an entry -/

/-- What an accepted request leaves of the queue: at most one entry admitted. -/
theorem State.accepted_entries (s : State) (k : Outlet) (kind : Kind) : (s.accepted k kind).entries = s.entries ∨
    ∃ id, (s.accepted k kind).entries = (s.modEntry id fun x => { x with phase := .closing, begun := true }).entries := by
  by_cases opening : kind = .opening
  · rw [opening, State.accepted_opening]
    unfold State.withdrawVictim State.settleRestoring State.enterNormal
    split
    · split
      · exact (State.testHead_entries _ _).imp (fun same => same) fun ⟨id, _, admitted⟩ => ⟨id, admitted⟩
      · exact .inl rfl
    · exact .inl rfl
  · rw [State.accepted_other opening]
    exact .inl rfl

theorem State.modEntry_outlets (s : State) (id : Byte) {f : Entry → Entry} (keeps : ∀ e, (f e).outlet = e.outlet) :
    (s.modEntry id f).entries.map (·.outlet) = s.entries.map (·.outlet) := by
  rw [State.modEntry, State.setEntries_entries, List.map_map]
  refine List.map_congr_left fun e _ => ?_
  rw [Function.comp_apply]
  split
  · exact keeps e
  · rfl

theorem State.accepted_outlets (s : State) (k : Outlet) (kind : Kind) :
    (s.accepted k kind).entries.map (·.outlet) = s.entries.map (·.outlet) := by
  rcases s.accepted_entries k kind with same | ⟨id, same⟩
  · rw [same]
  · rw [same]
    exact s.modEntry_outlets id (f := fun x => { x with phase := .closing, begun := true }) fun _ => rfl

theorem State.accepted_from (live : e' ∈ (s.accepted k kind).entries) :
    ∃ e, e ∈ s.entries ∧ e' = { e with phase := e'.phase, begun := e'.begun } := by
  rcases s.accepted_entries k kind with same | ⟨id, same⟩
  · exact ⟨e', same ▸ live, rfl⟩
  · rw [same] at live
    obtain ⟨e, before, rfl⟩ := List.mem_map.mp live
    refine ⟨e, before, ?_⟩
    split <;> rfl

theorem State.entryOf_eq_none_iff : s.entryOf k = none ↔ k ∉ s.entries.map (·.outlet) := by
  refine ⟨State.entryOf_none, fun absent => List.find?_eq_none.mpr fun e live outlet => absent ?_⟩
  exact beq_iff_eq.mp outlet ▸ List.mem_map_of_mem live

theorem State.accepted_free : (s.accepted k kind).entryOf k = none ↔ s.entryOf k = none := by
  rw [State.entryOf_eq_none_iff, State.entryOf_eq_none_iff, State.accepted_outlets]

theorem State.accepted_monitors (s : State) (k : Outlet) (kind : Kind) : (s.accepted k kind).monitors = s.monitors := by
  by_cases opening : kind = .opening
  · rw [opening]
    exact ((State.BranchOnly.refl s).withdrawVictim (s.branchOf k) k).monitors
  · rw [State.accepted_other opening]
    rfl

/-- A placement at the target ends at once (R75). -/
theorem State.place_ends (room : s.hasRoom = true) (there : s.atTarget k kind = true) (free : s.entryOf k = none)
    (distinct : s.EntriesDistinct) (o : Origin) (m : Bool) (tag : Option Byte) (off : Nat) :
    (s.place k kind o m tag off).entryOf k = none := by
  obtain ⟨e, isE⟩ : ∃ e, e = s.newEntry k kind o m tag off := ⟨_, rfl⟩
  have outlet : e.outlet = k := isE ▸ rfl
  have kinds : e.kind = kind := isE ▸ rfl
  have queued : e.phase = .queued := isE ▸ rfl
  obtain ⟨idle, target⟩ := State.atTarget_iff.mp there
  have entry : (s.placed e).entryOf k = some e := outlet ▸ s.placed_entryOf (outlet.symm ▸ free)
  have driver : (s.placed e).driver k = s.driver k := congrArg (look · k) (s.placed_parts e).1
  have contact : (s.placed e).contact e.outlet = s.contact k := by rw [outlet]; exact (s.placed_queue e).contact k
  have ends : (s.placed e).stepEntry e = (s.placed e).complete e .done .noPulse := by
    rcases target with ⟨opening, opened⟩ | ⟨closing, closed⟩
    · rw [State.stepEntry_opening (kinds.trans opening), contact, if_pos opened]
    · rw [State.stepEntry_closing (kinds.trans closing), contact, if_pos closed]
  have distinct' : (s.placed e).EntriesDistinct := by
    have apart : e.id ∉ s.entries.map (·.id) := isE ▸ State.freeId_fresh room
    have alone : e.outlet ∉ s.entries.map (·.outlet) := outlet.symm ▸ State.entryOf_none free
    rw [State.EntriesDistinct, s.placed_entries, List.map_append, List.map_append]
    exact ⟨List.concat_eq_append ▸ distinct.1.concat apart, List.concat_eq_append ▸ distinct.2.concat alone⟩
  rw [s.place_eq, ← isE, State.firstStep_of entry queued (driver ▸ idle), ends]
  exact State.complete_entryOf entry distinct' ..

/-- What the placement of a SWITCH on an outlet without an entry leaves. -/
structure State.SwitchPlaced (s : State) (x : Link) (k : Outlet) (kind : Kind) (off : Nat) (tag : Option Byte) (m : Bool) (t : State) :
    Prop where
  acts : Acts s t
  own : ∀ e, e ∈ t.entries → e.outlet = k → e.id = s.freeId ∧ e.kind = kind ∧ e.origin = originOf x ∧ e.sweep = m ∧ e.tag = tag ∧
    (kind = .cycle → e.offTime = s.offTimeFor k off)
  stays : ¬s.atTarget k kind = true → t.entryOf k ≠ none ∧ t.monitor k = s.monitor k
  ends : s.atTarget k kind = true → t.entryOf k = none
  leaves : kind = .opening → s.VictimLeaves k t
  protections : kind ≠ .opening → t.protections = s.protections

theorem State.switchPlace_placed (room : s.hasRoom = true) (free : s.entryOf k = none) (distinct : s.EntriesDistinct) (x : Link)
    (kind : Kind) (off : Nat) (tag : Option Byte) (m : Bool) :
    s.SwitchPlaced x k kind off tag m ((s.place k kind (originOf x) m tag (s.offTimeFor k off)).accepted k kind) := by
  obtain ⟨t, isT⟩ : ∃ t, t = s.place k kind (originOf x) m tag (s.offTimeFor k off) := ⟨_, rfl⟩
  have queue : s.QueueOnly t := isT ▸ (State.QueueOnly.refl s).place ..
  have acts : Acts s t := isT ▸ (Acts.refl s).place _ _ _ _ _ _ room fun _ => free
  have ends (there : s.atTarget k kind = true) : (t.accepted k kind).entryOf k = none :=
    State.accepted_free.mpr (isT ▸ State.place_ends room there free distinct ..)
  rw [← isT]
  refine ⟨acts.accepted k kind, fun e live outlet => ?_, fun away => ?_, fun there => ends there, fun opening => ?_,
    fun other => ((t.accepted_parts k kind).2.1 other).trans queue.protections⟩
  · have away : ¬s.atTarget k kind = true := fun there =>
      State.outlet_ne_of_none (ends there) live outlet
    obtain ⟨e', enters⟩ := State.place_enters room away free (originOf x) m tag (s.offTimeFor k off)
    rw [← isT] at enters
    obtain ⟨e₀, before, same⟩ := State.accepted_from live
    have outlet₀ : e₀.outlet = k := (congrArg Entry.outlet same).symm.trans outlet
    rw [enters.entries] at before
    have new : e₀ = e' := (List.mem_append.mp before).elim
      (fun old => absurd outlet₀ (State.outlet_ne_of_none free old)) List.mem_singleton.mp
    have made := new ▸ enters.action
    rw [made] at same
    rw [same]
    exact ⟨rfl, rfl, rfl, rfl, rfl, fun cycle => if_pos cycle⟩
  · obtain ⟨e', enters⟩ := State.place_enters room away free (originOf x) m tag (s.offTimeFor k off)
    rw [← isT] at enters
    have entry : t.entryOf k = some e' := State.entryOf_tail enters.entries free (congrArg Entry.outlet enters.action)
    exact ⟨fun none => absurd (entry.symm.trans (State.accepted_free.mp none)) nofun,
      congrArg (look · k) ((t.accepted_monitors k kind).trans enters.monitors)⟩
  · rw [opening]
    exact (t.withdrawVictim_leaves k).of_same queue.protections queue.settings rfl

theorem State.complete_room (entry : s.entryOf k = some e) (distinct : s.EntriesDistinct) (fits : s.entries.length ≤ 16)
    (r : ActionResult) (d : ResultDetail) : (s.complete e r d).hasRoom = true := by
  have outlets := congrArg List.length (State.complete_outlets_erase entry distinct r d)
  have live : k ∈ s.entries.map (·.outlet) := State.outlet_of_entryOf entry ▸ List.mem_map_of_mem (State.mem_of_entryOf entry)
  have some : 0 < s.entries.length := List.length_pos_of_mem (State.mem_of_entryOf entry)
  rw [List.length_map, List.length_erase_of_mem live, List.length_map] at outlets
  exact State.hasRoom_iff.mpr (by omega)

/-- Settles O40: each case of R73 is one branch of `switchExisting`. -/
theorem switchMeetsExistingEntry : Obligations.SwitchMeetsExistingEntry := by
  intro x o n h l tag k kind e s ready outlet kinds unheld sound allowed entry distinct fits
  let v := s.setPort x (s.port x).took
  have own : e.outlet = k := State.outlet_of_entryOf entry
  have held : v.hold k ≠ some x.other := fun held => Bool.eq_false_iff.mp unheld ((s.heldByOther_iff x k).mpr held)
  have judged : requestOf x 0x10 ([o, n, h, l] ++ tag.toList) v = v.switchExisting x k kind (number2 h l) tag false e := by
    refine (requestSwitch_of outlet kinds x h l tag v).trans ((State.switchAction_past held sound allowed).trans ?_)
    rw [show v.entryOf k = some e from entry]
  have leaves {t : State} (queue : v.QueueOnly t) (st : Status) (payload : List Byte) :
      s.VictimLeaves k ((t.accepted k .opening).respond x st 0x10 payload) :=
    (t.withdrawVictim_leaves k).of_same queue.protections queue.settings rfl
  have completes (r : ActionResult) : v.QueueOnly (v.complete e r .none) := ((State.StepOnly.refl v).complete ..).queue
  have monitor (r : ActionResult) : (v.complete e r .none).monitor k =
      (s.monitor k).afterEnd e.kind e.origin r (look s.settings.bootGrace k) := by
    rw [State.complete_monitor, State.ended_monitor, if_pos own.symm, own]
    rfl
  refine ⟨fun same plain => ?_, fun differs fresh => ?_, fun cycle begun waits opening => ?_, fun notSame notFresh notCut => ?_⟩
  · have joined := judged.trans (if_pos ⟨same, plain⟩)
    have acts : Acts v (v.accepted k kind) := (Acts.refl v).accepted k kind
    refine ⟨_, ready.exec_took rfl (length_switch ..) joined, acts.respond .joined 0x10 [e.id], fun opening => ?_, fun other => ?_⟩
    · rw [opening]
      exact leaves (.refl v) ..
    · rw [State.accepted_other other]
      exact (s.setTripped k false).answered_alone x .joined 0x10 [e.id]
  · let w := v.complete e .superseded .none
    have free : w.entryOf k = none := State.complete_entryOf (t := v) entry distinct ..
    have room : w.hasRoom = true := State.complete_room (s := v) entry distinct fits ..
    have acts : Acts v w := (Acts.refl v).complete ..
    have placed := State.switchPlace_placed room free (acts.distinct distinct) x kind (number2 h l) tag false
    have taken := judged.trans ((if_neg fun both => differs both.1).trans ((if_pos ⟨fresh, differs⟩).trans (if_pos room)))
    have target : w.atTarget k kind = true ↔ _ := State.atTarget_iff
    rw [State.contact, show w.driver k = s.driver k from State.complete_driver (s := v) entry distinct .superseded .none] at target
    refine ⟨_, w.freeId, ready.exec_took rfl (length_switch ..) taken, (acts.trans placed.acts).respond _ 0x10 _,
      fun e' live outlet => ?_, fun opening => (placed.leaves opening).of_same (completes _).protections (completes _).settings rfl,
      fun other => (placed.protections other).trans (completes _).protections, fun stays => ?_, fun gone => ?_⟩
    · obtain ⟨id, kind, origin, -, tag, -⟩ := placed.own e' live outlet
      exact ⟨id, kind, origin, tag⟩
    · have away : ¬w.atTarget k kind = true := fun there => stays (placed.ends there)
      exact (placed.stays away).2.trans (monitor .superseded)
    · exact target.mp (by_contra fun away => (placed.stays away).1 gone)
  · subst opening
    let w := v.complete e .cut .none
    have acts : Acts v w := (Acts.refl v).complete ..
    have other : ¬(e.kind = .opening ∧ e.preempt = false) := by rw [cycle]; exact nofun
    have late : ¬(e.begun = false ∧ e.kind ≠ .opening) := by rw [begun]; exact nofun
    have taken := judged.trans ((if_neg other).trans ((if_neg late).trans (if_pos ⟨cycle, waits, rfl⟩)))
    refine ⟨_, ready.exec_took rfl (length_switch ..) taken, State.accepted_free.mpr (State.complete_entryOf (t := v) entry distinct ..),
      leaves (completes .cut) .., ?_, (acts.accepted k .opening).respond .already 0x10 []⟩
    exact (congrArg (look · k) (w.accepted_monitors k .opening)).trans (monitor .cut)
  · exact ready.exec_alone rfl (length_switch ..) (judged.trans ((if_neg notSame).trans ((if_neg notFresh).trans (if_neg notCut))))

end Sys2Proof.Machine

/-! PROOF. A request byte by byte against its row (O25). -/

namespace Sys2Proof.Machine

variable {s t u : State} {x : Link}

/-! ### What a request leaves of its transaction -/

/-- Link `x`'s transaction in progress is the same. -/
def State.SameTrans (x : Link) (s t : State) : Prop := (t.port x).trans = (s.port x).trans

theorem State.SameTrans.refl (s : State) : State.SameTrans x s s := rfl

theorem State.SameTrans.trans (h : State.SameTrans x s t) (g : State.SameTrans x t u) : State.SameTrans x s u := Eq.trans g h

theorem State.SameTrans.of_ports (h : State.SameTrans x s t) (same : u.ports = t.ports) : State.SameTrans x s u :=
  (congrArg (fun p : PerLink Port => (p.get x).trans) same).trans h

theorem State.SameTrans.act (h : State.SameTrans x s t) (acts : Acts t u) : State.SameTrans x s u := by
  obtain ⟨es, offered⟩ := acts.ports x
  obtain ⟨_, _, _, offers⟩ := (t.port x).offers_eq es
  exact (congrArg Port.trans (offered.trans offers)).trans h

theorem State.SameTrans.setPort (h : State.SameTrans x s t) (y : Link) {p : Port} (same : p.trans = (t.port y).trans) :
    State.SameTrans x s (t.setPort y p) := by
  refine Eq.trans ?_ h
  rw [State.setPort_port]
  split
  · next own => rw [own, same]
  · rfl

theorem State.SameTrans.ite {p : Prop} [Decidable p] (h : State.SameTrans x s t) (g : State.SameTrans x s u) :
    State.SameTrans x s (if p then t else u) := by
  split
  · exact h
  · exact g

theorem State.SameTrans.post (h : State.SameTrans x s t) (body : EventBody) (source : EventOrigin) :
    State.SameTrans x s (t.post body source) := h.act ((Acts.refl t).post body source)

theorem State.SameTrans.lapseHolds (h : State.SameTrans x s t) (y : Link) (c : LapseCause) :
    State.SameTrans x s (t.lapseHolds y c) := .ite ((h.of_ports (u := t.giveHolds (t.heldBy y) none) rfl).post ..) h

theorem State.SameTrans.linkReset (h : State.SameTrans x s t) (y : Link) : State.SameTrans x s (t.linkReset y) :=
  State.SameTrans.setPort (t := (State.setSweep _ y _).dropBank y)
    (((h.setPort y (p := { (t.port y).withEvents [] with overflow := false }) rfl).lapseHolds y .linkReset).of_ports rfl) y rfl

theorem Port.offer_trans (p : Port) (e : Event) : (p.offer e).trans = p.trans := by
  unfold Port.offer
  split <;> rfl

theorem State.SameTrans.validFrame (h : State.SameTrans x s t) : State.SameTrans x s (t.validFrame x) := by
  by_cases present : (t.port x).presence = .present
  · rw [State.validFrame_of_present present]
    exact h.setPort x rfl
  · rw [State.validFrame_of_out present]
    exact (h.setPort x (p := { t.port x with presence := .present, badFrames := 0, silence := 0 }) rfl).setPort x.other
      (Port.offer_trans ..)

theorem State.SameTrans.changed (h : State.SameTrans x s t) (old : State) (v : Setting) (w : Int) :
    State.SameTrans x s (t.changed old v w) := by
  unfold State.changed
  split
  · exact (h.of_ports (u := t.setTracker _ _) rfl).act (Acts.foldl (fun u k => (Acts.refl u).setMeter k _) _ (.refl _))
  · exact h.of_ports rfl
  · exact h.act (Acts.foldl (fun u k => ((Acts.refl u).setMeter k _).setTripRun k 0) _ ((Acts.refl t).setProtection ..))
  · exact h.act (Acts.withdrawVictim (Acts.ite (((Acts.refl t).setTripRun ..).setMeter ..) ((Acts.refl t).setTripRun ..)) ..)
  · exact h.of_ports rfl
  · exact h.act ((Acts.refl t).autoRestart _)
  · exact h

theorem State.SameTrans.written (h : State.SameTrans x s t) (v : Setting) : State.SameTrans x s (t.written v) := by
  unfold State.written
  split
  · exact h.act ((Acts.refl t).testHead _)
  · exact h.act ((Acts.refl t).testHead _)
  · exact h

theorem State.SameTrans.requestSettingWrite (x : Link) (p : List Byte) (t : State) :
    State.SameTrans x t (requestSettingWrite x p t).1 := by
  have same : State.SameTrans x t t := .refl t
  unfold Machine.requestSettingWrite State.writeSetting
  split
  · split
    · exact same
    · next id index _ _ _ _ _ v _ =>
      split
      · exact same
      · next w st _ =>
        split
        · exact same
        · have stored := (same.of_ports (u := (t.setSettings (t.settings.store v w)).setGeneration (t.generation + 1)) rfl).post
            (.configChanged id index x w) EventOrigin.nobody
          exact State.SameTrans.written (.ite stored (stored.changed t v w)) v
  · exact same

theorem State.SameTrans.requestSweep (x : Link) (p : List Byte) (t : State) : State.SameTrans x t (requestSweep x p t).1 := by
  have same : State.SameTrans x t t := .refl t
  unfold Machine.requestSweep State.startSweep
  split
  · split
    · split
      · exact same
      · exact (same.of_ports rfl).setPort x rfl
    · exact same
  · exact same

theorem State.SameTrans.requestSweepAbort (x : Link) (p : List Byte) (t : State) :
    State.SameTrans x t (requestSweepAbort x p t).1 := by
  have same : State.SameTrans x t t := .refl t
  unfold Machine.requestSweepAbort
  split
  · split
    · exact (same.of_ports rfl).setPort x rfl
    · exact same
  · exact same

/-- No request changes its link's transaction. -/
theorem requestOf_sameTrans (x : Link) (code : Byte) (p : List Byte) (t : State) :
    State.SameTrans x t (requestOf x code p t).1 := by
  have stays {u : State} (e : u = t) : State.SameTrans x t u := by rw [e]; rfl
  have acts {u : State} (a : Acts t u) : State.SameTrans x t u := (State.SameTrans.refl t).act a
  have ports {u : State} (e : u.ports = t.ports) : State.SameTrans x t u := (State.SameTrans.refl t).of_ports e
  unfold requestOf
  split
  · exact stays (requestStatus_state ..)
  · exact stays (requestOutletRead_state ..)
  · exact stays (requestFeedRead_state ..)
  · exact stays (requestBranchRead_state ..)
  · unfold requestEventsRead
    split
    · exact (State.SameTrans.refl t).setPort x rfl
    · exact .refl t
  · exact stays (requestEnergyRead_state ..)
  · exact stays (requestSettingRead_state ..)
  · exact acts ((Acts.refl t).requestSwitch x p)
  · exact acts ((Acts.refl t).requestCancel x p)
  · refine ports ?_
    unfold requestHold
    split <;> rfl
  · refine ports ?_
    unfold requestRelease
    split <;> rfl
  · exact acts ((Acts.refl t).requestHeartbeat x p)
  · refine ports ?_
    unfold requestSnapshot
    split <;> rfl
  · exact acts ((Acts.refl t).requestShed x p)
  · exact acts ((Acts.refl t).requestShedClear x p)
  · exact acts ((Acts.refl t).requestFaultClear x p)
  · exact acts ((Acts.refl t).requestMonitorReset x p)
  · exact .requestSettingWrite x p t
  · exact .requestSweep x p t
  · exact .requestSweepAbort x p t
  · unfold requestLinkReset
    split
    · exact (State.SameTrans.refl t).linkReset x
    · exact .refl t
  · exact stays rfl

theorem State.judge_trans (s : State) (x : Link) (code : Byte) (p : List Byte) : State.SameTrans x s (s.judge x code p) :=
  (((State.SameTrans.refl s).validFrame).trans (requestOf_sameTrans x code p _)).setPort x rfl

/-! ### What no transaction changes -/

theorem Write.steady (w : Write s t) : t.targetAddress = s.targetAddress ∧ t.resetHeld = s.resetHeld := by
  cases w <;> exact ⟨rfl, rfl⟩

theorem Edits.steady {n : Nat} (h : Edits n s t) : t.targetAddress = s.targetAddress ∧ t.resetHeld = s.resetHeld := by
  induction h with
  | refl => exact ⟨rfl, rfl⟩
  | edit _ e ih => exact ⟨(congrArg Inputs.targetAddress e.inputs :).trans ih.1, (congrArg Inputs.resetHeld e.inputs :).trans ih.2⟩
  | write _ w ih => exact ⟨w.steady.1.trans ih.1, w.steady.2.trans ih.2⟩

theorem Within.steady {m : Nat} (h : Within m s t) : t.targetAddress = s.targetAddress ∧ t.resetHeld = s.resetHeld := by
  obtain ⟨_, _, edits⟩ := h.edits
  exact edits.steady

/-! ### A frame's bytes -/

theorem execAll_start (high : s.resetHeld = false) (x : Link) (a : BitVec 7) (r : Bool) (cs : List Instr) :
    execAll (.transactionStart x a r :: cs) s = execAll cs (s.start x a r) := by
  have exec : exec (.transactionStart x a r) s = .next (s.start x a r) := congrArg Host.Outcome.next (State.running_high high)
  rw [execAll, exec]

theorem execAll_bytes (high : s.resetHeld = false) (x : Link) (bytes : List Byte) (cs : List Instr) :
    execAll (bytes.map (.frameByte x) ++ cs) s = execAll cs (bytes.foldl (fun t b => t.receive x b) s) := by
  induction bytes generalizing s with
  | nil => rfl
  | cons b bytes ih =>
    have exec : exec (.frameByte x b) s = .next (s.receive x b) := congrArg Host.Outcome.next (State.running_high high)
    have high' : (s.receive x b).resetHeld = false := ((Within.refl (m := 0) s).receive x b).steady.2.trans high
    rw [List.map_cons, List.cons_append, execAll, exec]
    exact ih high'

/-- Commands that do nothing, one after another. -/
theorem execAll_idle {cs : List Instr} (idle : ∀ c, c ∈ cs → exec c s = .next s) :
    execAll cs s = .next s := by
  induction cs with
  | nil => rfl
  | cons c cs ih =>
    rw [execAll, idle c List.mem_cons_self]
    exact ih fun c' live => idle c' (List.mem_cons_of_mem c live)

/-- A port in WRITE with a frame's first bytes kept. -/
def Port.holding (q : Port) (f : List Byte) : Port := { q with trans := .write, frame := f, acked := true }

theorem State.receive_holding {q : Port} {code len : Byte} {rest : List Byte} (room : rest.length ≤ len.toNat) (byte : Byte) :
    (s.setPort x (q.holding (code :: len :: rest))).receive x byte =
      s.setPort x (q.holding (code :: len :: (rest ++ [byte]))) := by
  have port : (s.setPort x (q.holding (code :: len :: rest))).port x = q.holding (code :: len :: rest) := State.setPort_port_self ..
  rw [State.receive_body (by rw [port]; rfl) (by rw [port]; rfl), if_pos room, port, State.setPort_setPort]
  rfl

theorem State.receives_holding {q : Port} {code len : Byte} {rest more : List Byte} (room : rest.length + more.length ≤ len.toNat + 1) :
    more.foldl (fun t b => t.receive x b) (s.setPort x (q.holding (code :: len :: rest))) =
      s.setPort x (q.holding (code :: len :: (rest ++ more))) := by
  induction more generalizing rest with
  | nil => rw [List.append_nil]; rfl
  | cons b more ih =>
    rw [List.length_cons] at room
    rw [List.foldl_cons, State.receive_holding (by omega), ih (by rw [List.length_append, List.length_singleton]; omega),
      List.append_assoc]
    rfl

/-- A whole frame kept (R166). -/
theorem State.receives_frame {q : Port} {code : Byte} (takes : q.refusesCommand code = false) {p : List Byte} (short : p.length ≤ 32) :
    (frameOf code p).foldl (fun t b => t.receive x b) (s.setPort x (q.holding [])) = s.setPort x (q.holding (frameOf code p)) := by
  have length : (byteOf p.length).toNat = p.length := byteOf_toNat (by omega)
  have first : (s.setPort x (q.holding [])).receive x code = s.setPort x (q.holding [code]) := by
    have port : (s.setPort x (q.holding [])).port x = q.holding [] := State.setPort_port_self ..
    rw [State.receive_first (by rw [port]; rfl) (by rw [port]; rfl), port, if_neg, State.setPort_setPort]
    · rfl
    · exact Bool.eq_false_iff.mp takes
  have second : (s.setPort x (q.holding [code])).receive x (byteOf p.length) =
      s.setPort x (q.holding [code, byteOf p.length]) := by
    have port : (s.setPort x (q.holding [code])).port x = q.holding [code] := State.setPort_port_self ..
    rw [State.receive_length (code := code) (by rw [port]; rfl) (by rw [port]; rfl) (by rw [length]; exact short), port,
      State.setPort_setPort]
    rfl
  have frame : frameOf code p = code :: byteOf p.length :: (p ++ [crc8 (code :: byteOf p.length :: p)]) := rfl
  rw [frame, List.foldl_cons, List.foldl_cons, first, second]
  exact State.receives_holding (rest := []) (by rw [length, List.length_append]; exact (Nat.zero_add _).le)

/-- A frame whose command byte is refused (R166). -/
theorem State.receives_refused {q : Port} {code : Byte} (refuses : q.refusesCommand code = true) (p : List Byte) :
    (frameOf code p).foldl (fun t b => t.receive x b) (s.setPort x (q.holding [])) = s.setPort x q.refuseFrame := by
  have first : (s.setPort x (q.holding [])).receive x code = s.setPort x q.refuseFrame := by
    have port : (s.setPort x (q.holding [])).port x = q.holding [] := State.setPort_port_self ..
    rw [State.receive_first (by rw [port]; rfl) (by rw [port]; rfl), port, if_pos, State.setPort_setPort]
    · rfl
    · exact refuses
  have rest (bytes : List Byte) : bytes.foldl (fun t b => t.receive x b) (s.setPort x q.refuseFrame) = s.setPort x q.refuseFrame := by
    induction bytes with
    | nil => rfl
    | cons b bytes ih =>
      have port : (s.setPort x q.refuseFrame).port x = q.refuseFrame := State.setPort_port_self ..
      rw [List.foldl_cons, State.receive_refusing (by rw [port]; rfl), port, State.setPort_setPort]
      exact ih
  show (([code, byteOf p.length] ++ p ++ [_]).foldl _ _) = _
  rw [List.append_assoc, List.cons_append, List.foldl_cons, first]
  exact rest _

/-- A START from two states that end their transactions alike. -/
theorem State.start_congr (h : s.endTransaction x = t.endTransaction x) (a : BitVec 7) (r : Bool) : s.start x a r = t.start x a r := by
  unfold State.start
  rw [h]

/-- Settles O25. -/
theorem byteTransactionEqualsRequest : Obligations.ByteTransactionEqualsRequest := by
  intro c x code p request short s a r
  cases held : s.resetHeld with
  | true =>
    have idle (act : State → State) : Host.Outcome.next (s.running act) = (.next s : Host.Outcome State Fault Refusal) :=
      congrArg _ (State.running_held held act)
    have row : exec c s = .next s := by rw [exec_request request, State.request_held held]
    rw [execAll_idle, execAll_idle]
    · intro c' live
      rcases List.mem_cons.mp live with rfl | live
      · exact row
      · obtain rfl := List.mem_singleton.mp live
        exact idle _
    · intro c' live
      rcases List.mem_cons.mp live with rfl | live
      · exact idle _
      rcases List.mem_append.mp live with live | live
      · obtain ⟨b, _, rfl⟩ := List.mem_map.mp live
        exact idle _
      · obtain rfl := List.mem_singleton.mp live
        exact idle _
  | false =>
    let e := s.endTransaction x
    let q := (e.port x).quiet
    obtain ⟨address, high⟩ := ((Within.refl (m := 0) s).endTransaction x).steady
    have started : s.start x s.targetAddress false = e.setPort x (q.holding []) := (if_pos address.symm).trans rfl
    have row : execAll [c, .transactionStart x a r] s =
        execAll [.transactionStart x a r] (s.frameTransaction x code p fun t => t.answered x code (requestOf x code p)) := by
      rw [execAll, exec_request request, State.request_high held]
    have quiet (p : Port) (none : p.trans = .none) : (e.setPort x p).endTransaction x = e.setPort x p :=
      State.endTransaction_none (by rw [State.setPort_port_self]; exact none)
    rw [execAll_start held, started, execAll_bytes (s := e.setPort x (q.holding [])) (high.trans held), row]
    cases refuses : (e.port x).refusesCommand code with
    | true =>
      have ended : (e.setPort x q.refuseFrame).endTransaction x = e.setPort x { q with latch := true, acked := false } := by
        simp only [State.endTransaction, State.setPort_port_self, State.setPort_setPort, Port.refuseFrame]
        rfl
      rw [State.receives_refused (q := q) refuses, State.frameTransaction_refused refuses,
        execAll_start (s := e.setPort x _) (high.trans held), execAll_start (s := e.setPort x _) (high.trans held)]
      exact congrArg Host.Outcome.next (State.start_congr (ended.trans (quiet { q with latch := true, acked := false } rfl).symm) a r)
    | false =>
      let w := e.setPort x { q with acked := true }
      have ended : (e.setPort x (q.holding (frameOf code p))).endTransaction x = w.judge x code p := by
        simp only [State.endTransaction, State.setPort_port_self, State.setPort_setPort, Port.holding, State.completeFrame,
          (frameDecodesAndChecks code p short).1]
        rfl
      have none : ((w.judge x code p).port x).trans = .none :=
        Eq.trans (w.judge_trans x code p) (congrArg Port.trans (State.setPort_port_self ..))
      have taken : s.frameTransaction x code p (fun t => t.answered x code (requestOf x code p)) = w.judge x code p :=
        State.frameTransaction_taken refuses short _
      have high' : (w.judge x code p).resetHeld = false :=
        ((Within.refl (m := 0) w).judge x code p).steady.2.trans (high.trans held)
      rw [State.receives_frame (q := q) refuses short, taken, execAll_start (s := e.setPort x _) (high.trans held),
        execAll_start high']
      exact congrArg Host.Outcome.next (State.start_congr (ended.trans (State.endTransaction_none none).symm) a r)

end Sys2Proof.Machine

/-! PROOF. SETTING_WRITE (O37). -/

namespace Sys2Proof.Machine

variable {s t u old : State} {x : Link} {k : Outlet} {b : Branch} {v : Setting} {w : Int}

/-! ### The effects of a changed setting -/

/-- What the effects of a setting that changed to `w` leave: `s` holds the new value and `old` is the state before the write. -/
structure State.Effects (s old : State) (v : Setting) (w : Int) (t : State) : Prop where
  tracker : ∀ f, t.tracker f = if v = .windowExp f then (s.tracker f).discardWindow
    else if v = .divider f then (s.tracker f).captureNone else s.tracker f
  meter : ∀ k, t.meter k = if v = .windowExp (s.feedOf k) then (s.meter k).clearWindow
    else if v = .branchFeed (s.branchOf k) ∨ v = .outletBranch k ∧ old.feedOf k ≠ s.feedOf k then (s.meter k).realign else s.meter k
  tripRun : ∀ k, t.tripRun k = if v = .branchFeed (s.branchOf k) ∨ v = .outletBranch k then 0 else s.tripRun k
  monitor : ∀ k, t.monitor k = if v = .monWindow k then (if w = 0 then Monitor.initial .off else Monitor.reset) else s.monitor k
  protection : (∀ k, v ≠ .outletBranch k) → ∀ b, t.protection b = if v = .branchFeed b then { s.protection b with overRun := 0 }
    else if v = .restartEnable b ∧ s.restartDue b = true then
      { s.protection b with state := .restartWait, restartTimer := look s.settings.restartDelay b }
    else s.protection b
  moved : ∀ k, v = .outletBranch k → ((s.protection (old.branchOf k)).state ≠ .normal →
    look (t.protection (old.branchOf k)).victims k = false) ∧ ∀ b, b ≠ old.branchOf k → t.protection b = s.protection b
  stays : (∀ k, v ≠ .outletBranch k) → { t with trackers := s.trackers, meters := s.meters, tripRuns := s.tripRuns
                                                monitors := s.monitors, protections := s.protections } = s
  rest : { t with trackers := s.trackers, meters := s.meters, tripRuns := s.tripRuns, monitors := s.monitors
                  protections := s.protections, sequencers := s.sequencers, entries := s.entries, drivers := s.drivers
                  ports := s.ports } = s
  ports : ∀ x, ∃ es, t.port x = (s.port x).offers es

/-- A setting without an effect. -/
theorem State.Effects.none (s old : State) (w : Int) (windows : ∀ f, v ≠ .windowExp f) (dividers : ∀ f, v ≠ .divider f)
    (feeds : ∀ b, v ≠ .branchFeed b) (moves : ∀ k, v ≠ .outletBranch k) (monitors : ∀ k, v ≠ .monWindow k)
    (restarts : ∀ b, v ≠ .restartEnable b) : s.Effects old v w s where
  tracker f := by rw [if_neg (windows f), if_neg (dividers f)]
  meter k := by rw [if_neg (windows _), if_neg fun h => h.elim (feeds _) fun h => moves k h.1]
  tripRun k := by rw [if_neg fun h => h.elim (feeds _) (moves k)]
  monitor k := by rw [if_neg (monitors k)]
  protection _ b := by rw [if_neg (feeds b), if_neg fun h => restarts b h.1]
  moved k h := absurd h (moves k)
  stays _ := rfl
  rest := rfl
  ports _ := ⟨[], rfl⟩

theorem State.exponentChanged_meter (s : State) (f : Feed) (k : Outlet) :
    (s.exponentChanged f).meter k = if s.feedOf k = f then (s.meter k).clearWindow else s.meter k := by
  have each := State.foldl_read (s := s.setTracker f (s.tracker f).discardWindow) (read := State.meter)
    (visit := fun t k => t.setMeter k (t.meter k).clearWindow) (same := fun _ => True) (change := fun _ m => m.clearWindow)
    (fun _ _ _ => trivial) (fun u k _ => State.setMeter_meter_self ..)
    (fun u k j _ ne => (State.setMeter_meter ..).trans (if_neg ne)) (s.nodup_outletsOfFeed f) trivial k
  simp only [State.mem_outletsOfFeed] at each
  exact each

theorem State.exponentChanged_rest (s : State) (f : Feed) :
    { s.exponentChanged f with trackers := s.trackers, meters := s.meters } = s ∧
      ∀ g, (s.exponentChanged f).tracker g = if g = f then (s.tracker f).discardWindow else s.tracker g := by
  have folded (l : List Outlet) (u : State) : { l.foldl (fun t k => t.setMeter k (t.meter k).clearWindow) u with meters := u.meters } = u := by
    induction l generalizing u with
    | nil => rfl
    | cons k l ih => exact congrArg (fun t : State => { t with meters := u.meters }) (ih (u.setMeter k (u.meter k).clearWindow))
  have same := folded (s.outletsOfFeed f) (s.setTracker f (s.tracker f).discardWindow)
  refine ⟨congrArg (fun t : State => { t with trackers := s.trackers }) same, fun g => ?_⟩
  exact (congrArg (fun t : State => t.tracker g) same).trans (State.setTracker_tracker ..)

/-- One outlet of a branch whose feed changed (R46, R138). -/
def State.realigned (s : State) (k : Outlet) : State := (s.setMeter k (s.meter k).realign).setTripRun k 0

theorem State.branchFeedChanged_eq (s : State) (b : Branch) : s.branchFeedChanged b =
    (s.outletsOf b).foldl State.realigned (s.setProtection b { s.protection b with overRun := 0 }) := rfl

theorem State.branchFeedChanged_meter (s : State) (b : Branch) (k : Outlet) : (s.branchFeedChanged b).meter k =
    if s.branchOf k = b then (s.meter k).realign else s.meter k := by
  have each := State.foldl_read (s := s.setProtection b { s.protection b with overRun := 0 }) (read := State.meter)
    (visit := State.realigned) (same := fun _ => True) (change := fun _ m => m.realign)
    (fun _ _ _ => trivial) (fun u k _ => State.setMeter_meter_self ..)
    (fun u k j _ ne => (State.setMeter_meter ..).trans (if_neg ne)) (nodup_outletsOf s b) trivial k
  simp only [mem_outletsOf] at each
  exact each

theorem State.branchFeedChanged_tripRun (s : State) (b : Branch) (k : Outlet) : (s.branchFeedChanged b).tripRun k =
    if s.branchOf k = b then 0 else s.tripRun k := by
  have each := State.foldl_read (s := s.setProtection b { s.protection b with overRun := 0 }) (read := State.tripRun)
    (visit := State.realigned) (same := fun _ => True) (change := fun _ _ => 0)
    (fun _ _ _ => trivial) (fun u k _ => State.setTripRun_tripRun_self ..)
    (fun u k j _ ne => (State.setTripRun_tripRun ..).trans (if_neg ne)) (nodup_outletsOf s b) trivial k
  simp only [mem_outletsOf] at each
  exact each

theorem State.branchFeedChanged_rest (s : State) (b : Branch) :
    { s.branchFeedChanged b with meters := s.meters, tripRuns := s.tripRuns, protections := s.protections } = s ∧
      ∀ j, (s.branchFeedChanged b).protection j = if j = b then { s.protection b with overRun := 0 } else s.protection j := by
  have folded (l : List Outlet) (u : State) :
      { l.foldl State.realigned u with meters := u.meters, tripRuns := u.tripRuns } = u := by
    induction l generalizing u with
    | nil => rfl
    | cons k l ih => exact congrArg (fun t : State => { t with meters := u.meters, tripRuns := u.tripRuns }) (ih (u.realigned k))
  have same := folded (s.outletsOf b) (s.setProtection b { s.protection b with overRun := 0 })
  refine ⟨congrArg (fun t : State => { t with protections := s.protections }) same, fun j => ?_⟩
  exact (congrArg (fun t : State => t.protection j) same).trans (State.setProtection_protection ..)

/-- A withdrawal from the victims of any branch (R132, R136). -/
theorem State.withdrawVictim_protection (s : State) (b : Branch) (k : Outlet) :
    ((s.protection b).state ≠ .normal → look ((s.withdrawVictim b k).protection b).victims k = false) ∧
      ∀ j, j ≠ b → (s.withdrawVictim b k).protection j = s.protection j := by
  by_cases leaves : (s.protection b).state ≠ .normal ∧ look (s.protection b).victims k = true
  · have eq : s.withdrawVictim b k = (s.dropVictim b k).settleRestoring b := if_pos leaves
    have settled := (s.dropVictim b k).settleRestoring_protection b
    have dropped := s.dropVictim_protection b k
    rw [eq]
    refine ⟨fun _ => ?_, fun j ne => by rw [settled, if_neg fun h => ne h.1, dropped, if_neg ne]⟩
    rw [settled]
    split
    · exact look_fill false k
    · rw [dropped, if_pos rfl]
      exact look_put_self ..
  · have eq : s.withdrawVictim b k = s := if_neg leaves
    rw [eq]
    exact ⟨fun state => Bool.eq_false_iff.mpr fun victim => leaves ⟨state, victim⟩, fun _ _ => rfl⟩

theorem State.outletMoved_moves (s : State) (k : Outlet) (b : Branch) (moved : Bool) :
    ∃ m : State, s.outletMoved k b moved = m.withdrawVictim b k ∧ { m with meters := s.meters, tripRuns := s.tripRuns } = s ∧
      (∀ j, m.meter j = if j = k ∧ moved = true then (s.meter k).realign else s.meter j) ∧
      ∀ j, m.tripRun j = if j = k then 0 else s.tripRun j := by
  refine ⟨_, rfl, ?_⟩
  cases moved with
  | true =>
    refine ⟨rfl, fun j => ?_, fun j => State.setTripRun_tripRun ..⟩
    simp only [and_true]
    exact State.setMeter_meter ..
  | false => exact ⟨rfl, fun j => by simp only [Bool.false_eq_true, and_false, if_false]; rfl, fun j => State.setTripRun_tripRun ..⟩

theorem State.exponentChanged_effects (s old : State) (f : Feed) (w : Int) :
    s.Effects old (.windowExp f) w (s.exponentChanged f) := by
  obtain ⟨rest, trackers⟩ := s.exponentChanged_rest f
  refine ⟨fun g => ?_, fun k => ?_, fun k => ?_, fun k => ?_, fun _ b => ?_, nofun, fun _ => ?_, ?_, fun x => ⟨[], ?_⟩⟩
  · rw [trackers]
    simp only [Setting.windowExp.injEq, eq_comm (a := f), reduceCtorEq, if_false]
    split
    · next own => rw [own]
    · rfl
  · rw [s.exponentChanged_meter, if_neg (c := _ ∨ _) (by exact nofun)]
    simp only [Setting.windowExp.injEq, eq_comm (a := f)]
  · rw [if_neg (by exact nofun)]
    exact (congrArg (·.tripRun k) rest :)
  · rw [if_neg nofun]
    exact (congrArg (·.monitor k) rest :)
  · rw [if_neg nofun, if_neg (by exact nofun)]
    exact (congrArg (·.protection b) rest :)
  · exact congrArg (fun t : State => { t with tripRuns := s.tripRuns, monitors := s.monitors, protections := s.protections }) rest
  · exact congrArg (fun t : State => { t with
      tripRuns := s.tripRuns, monitors := s.monitors, protections := s.protections, sequencers := s.sequencers
      entries := s.entries, drivers := s.drivers, ports := s.ports }) rest
  · exact (congrArg (·.port x) rest :)

theorem State.branchFeedChanged_effects (s old : State) (b : Branch) (w : Int) :
    s.Effects old (.branchFeed b) w (s.branchFeedChanged b) := by
  obtain ⟨rest, protections⟩ := s.branchFeedChanged_rest b
  refine ⟨fun g => ?_, fun k => ?_, fun k => ?_, fun k => ?_, fun _ j => ?_, nofun, fun _ => ?_, ?_, fun x => ⟨[], ?_⟩⟩
  · rw [if_neg nofun, if_neg nofun]
    exact (congrArg (·.tracker g) rest :)
  · rw [s.branchFeedChanged_meter]
    simp only [Setting.branchFeed.injEq, eq_comm (a := b), reduceCtorEq, false_and, or_false, if_false]
  · rw [s.branchFeedChanged_tripRun]
    simp only [Setting.branchFeed.injEq, eq_comm (a := b), reduceCtorEq, or_false]
  · rw [if_neg nofun]
    exact (congrArg (·.monitor k) rest :)
  · rw [protections, if_neg (c := _ ∧ _) (by exact nofun)]
    simp only [Setting.branchFeed.injEq, eq_comm (a := b)]
    split
    · next own => rw [own]
    · rfl
  · exact congrArg (fun t : State => { t with trackers := s.trackers, monitors := s.monitors }) rest
  · exact congrArg (fun t : State => { t with
      trackers := s.trackers, monitors := s.monitors, sequencers := s.sequencers
      entries := s.entries, drivers := s.drivers, ports := s.ports }) rest
  · exact (congrArg (·.port x) rest :)

theorem State.outletMoved_effects (s old : State) (k : Outlet) (w : Int) :
    s.Effects old (.outletBranch k) w (s.outletMoved k (old.branchOf k) (old.feedOf k != s.feedOf k)) := by
  obtain ⟨m, eq, rest, meters, runs⟩ := s.outletMoved_moves k (old.branchOf k) (old.feedOf k != s.feedOf k)
  have branch : m.BranchOnly (m.withdrawVictim (old.branchOf k) k) := (State.BranchOnly.refl m).withdrawVictim ..
  have acts : Acts m (m.withdrawVictim (old.branchOf k) k) := (Acts.refl m).withdrawVictim ..
  have before (b : Branch) : m.protection b = s.protection b := (congrArg (·.protection b) rest :)
  obtain ⟨gone, others⟩ := m.withdrawVictim_protection (old.branchOf k) k
  rw [eq]
  refine ⟨fun g => ?_, fun j => ?_, fun j => ?_, fun j => ?_, fun no => absurd rfl (no k), fun i own => ?_, fun no => absurd rfl (no k),
    ?_, fun x => ?_⟩
  · rw [if_neg nofun, if_neg nofun]
    exact (congrArg (·.tracker g) branch :).trans (congrArg (·.tracker g) rest :)
  · have same : (m.withdrawVictim (old.branchOf k) k).meter j = m.meter j := congrArg (look · j) branch.meters
    rw [same, meters]
    simp only [Setting.outletBranch.injEq, eq_comm (a := k), reduceCtorEq, false_or, if_false, bne_iff_ne]
    by_cases own : j = k
    · rw [own]
    · rw [if_neg fun h => own h.1, if_neg fun h => own h.1]
  · have same : (m.withdrawVictim (old.branchOf k) k).tripRun j = m.tripRun j := congrArg (look · j) branch.tripRuns
    rw [same, runs]
    simp only [Setting.outletBranch.injEq, eq_comm (a := k), reduceCtorEq, false_or]
  · rw [if_neg nofun]
    exact (congrArg (look · j) branch.monitors).trans (congrArg (·.monitor j) rest :)
  · obtain rfl := Setting.outletBranch.inj own
    rw [before] at gone
    exact ⟨gone, fun b ne => (others b ne).trans (before b)⟩
  · exact (congrArg (fun t : State => { t with
      trackers := s.trackers, meters := s.meters, tripRuns := s.tripRuns, monitors := s.monitors
      protections := s.protections, sequencers := s.sequencers, entries := s.entries, drivers := s.drivers
      ports := s.ports }) (show _ = m from branch)).trans (congrArg (fun t : State => { t with
      trackers := s.trackers, monitors := s.monitors
      protections := s.protections, sequencers := s.sequencers, entries := s.entries, drivers := s.drivers
      ports := s.ports }) rest)
  · obtain ⟨es, offered⟩ := acts.ports x
    exact ⟨es, offered.trans (congrArg (fun t : State => (t.port x).offers es) rest :)⟩

theorem State.divider_effects (s old : State) (f : Feed) (w : Int) :
    s.Effects old (.divider f) w (s.setTracker f (s.tracker f).captureNone) where
  tracker g := by
    rw [State.setTracker_tracker]
    simp only [Setting.divider.injEq, eq_comm (a := f), reduceCtorEq, if_false]
    split
    · next own => rw [own]
    · rfl
  meter k := by simp only [reduceCtorEq, false_and, or_self, if_false]; rfl
  tripRun k := by simp only [reduceCtorEq, or_self, if_false]; rfl
  monitor k := by simp only [reduceCtorEq, if_false]; rfl
  protection _ b := by simp only [reduceCtorEq, false_and, if_false]; rfl
  moved := nofun
  stays _ := rfl
  rest := rfl
  ports _ := ⟨[], rfl⟩

theorem State.windowSetting_effects (s old : State) (k : Outlet) (w : Int) :
    s.Effects old (.monWindow k) w (s.windowSettingChanged k w) where
  tracker g := by simp only [reduceCtorEq, if_false]; rfl
  meter k := by simp only [reduceCtorEq, false_and, or_self, if_false]; rfl
  tripRun k := by simp only [reduceCtorEq, or_self, if_false]; rfl
  monitor j := by
    simp only [Setting.monWindow.injEq, eq_comm (a := k)]
    exact State.setMonitor_monitor ..
  protection _ b := by simp only [reduceCtorEq, false_and, if_false]; rfl
  moved := nofun
  stays _ := rfl
  rest := rfl
  ports _ := ⟨[], rfl⟩

theorem State.autoRestart_effects (s old : State) (b : Branch) (w : Int) :
    s.Effects old (.restartEnable b) w (s.autoRestart b) := by
  by_cases due : s.restartDue b = true
  · have eq : s.autoRestart b = s.setProtection b { s.protection b with
        state := .restartWait, restartTimer := look s.settings.restartDelay b } := if_pos due
    rw [eq]
    refine ⟨fun g => ?_, fun k => ?_, fun k => ?_, fun k => ?_, fun _ j => ?_, nofun, fun _ => rfl, rfl, fun x => ⟨[], rfl⟩⟩
    · simp only [reduceCtorEq, if_false]; rfl
    · simp only [reduceCtorEq, false_and, or_self, if_false]; rfl
    · simp only [reduceCtorEq, or_self, if_false]; rfl
    · simp only [reduceCtorEq, if_false]; rfl
    · rw [State.setProtection_protection]
      simp only [Setting.restartEnable.injEq, eq_comm (a := b), reduceCtorEq, if_false]
      by_cases own : j = b
      · rw [own, if_pos rfl, if_pos ⟨rfl, due⟩]
      · rw [if_neg own, if_neg fun h => own h.1]
  · have eq : s.autoRestart b = s := if_neg due
    rw [eq]
    refine ⟨fun g => ?_, fun k => ?_, fun k => ?_, fun k => ?_, fun _ j => ?_, nofun, fun _ => rfl, rfl, fun x => ⟨[], rfl⟩⟩
    · simp only [reduceCtorEq, if_false]
    · simp only [reduceCtorEq, false_and, or_self, if_false]
    · simp only [reduceCtorEq, or_self, if_false]
    · simp only [reduceCtorEq, if_false]
    · simp only [Setting.restartEnable.injEq, reduceCtorEq, if_false]
      rw [if_neg fun h : b = j ∧ s.restartDue j = true => due (h.1 ▸ h.2)]

/-- The effects of each setting. -/
theorem State.changed_effects (s old : State) (v : Setting) (w : Int) : s.Effects old v w (s.changed old v w) := by
  cases v with
  | windowExp f => exact s.exponentChanged_effects old f w
  | divider f => exact s.divider_effects old f w
  | branchFeed b => exact s.branchFeedChanged_effects old b w
  | outletBranch k => exact s.outletMoved_effects old k w
  | monWindow k => exact s.windowSetting_effects old k w
  | restartEnable b => exact s.autoRestart_effects old b w
  | _ => exact .none s old w nofun nofun nofun nofun nofun nofun

/-! ### The write -/

/-- The test of a head sees neither the ports nor the generation. -/
theorem State.testHead_apart (s : State) (ps : PerLink Port) (g : BitVec 16) (b : Branch) :
    State.testHead { s with ports := ps, generation := g } b = { s.testHead b with ports := ps, generation := g } := by
  obtain ⟨v, isV⟩ : ∃ v : State, v = { s with ports := ps, generation := g } := ⟨_, rfl⟩
  have sequencer : v.sequencer b = s.sequencer b := by rw [isV]; rfl
  have entryById (id : Byte) : v.entryById id = s.entryById id := by rw [isV]; rfl
  have blockReason (k : Outlet) : v.blockReason b k = s.blockReason b k := by rw [isV]; rfl
  rw [← isV]
  unfold State.testHead
  rw [sequencer]
  split
  · rw [isV]; rfl
  · next id rest line =>
    rw [entryById]
    split
    · exact isV
    · next e entry =>
      rw [blockReason]
      split <;> rw [isV] <;> rfl

/-- The state with a setting stored and CONFIG_CHANGED told (R180, R182). -/
def State.stored (s : State) (x : Link) (v : Setting) (id index : Byte) (w : Int) : State :=
  ((s.setSettings (s.settings.store v w)).setGeneration (s.generation + 1)).post (.configChanged id index x w) EventOrigin.nobody

theorem State.acceptWrite_eq (s : State) (x : Link) (v : Setting) (id index : Byte) (w : Int) : s.acceptWrite x v id index w =
    (if s.settings.read v = w then s.stored x v id index w else (s.stored x v id index w).changed s v w).written v := rfl

theorem State.written_line (s : State) (v : Setting) : s.LineOnly (s.written v) := by
  unfold State.written
  split
  · exact (State.LineOnly.refl s).testHead _
  · exact (State.LineOnly.refl s).testHead _
  · exact .refl s

theorem State.written_none (s : State) (limits : ∀ b, v ≠ .branchLimit b) (staggers : ∀ b, v ≠ .stagger b) : s.written v = s := by
  cases v with
  | branchLimit b => exact absurd rfl (limits b)
  | stagger b => exact absurd rfl (staggers b)
  | _ => rfl

theorem State.mapBusy_iff : s.mapBusy v = true ↔ (∃ k, v = .outletBranch k ∧ s.entryOf k ≠ none) ∨ ∃ b, v = .branchFeed b ∧
    ((s.protection b).state ≠ .normal ∨ ∃ k, s.branchOf k = b ∧ s.entryOf k ≠ none) := by
  cases v with
  | outletBranch k =>
    simp only [State.mapBusy, Setting.outletBranch.injEq, reduceCtorEq, false_and, exists_false, or_false, exists_eq_left',
      Option.isSome_iff_ne_none]
  | branchFeed b =>
    simp only [State.mapBusy, Setting.branchFeed.injEq, reduceCtorEq, false_and, exists_false, false_or, exists_eq_left',
      Bool.or_eq_true, bne_iff_ne, List.any_eq_true, mem_outletsOf, Option.isSome_iff_ne_none]
  | _ => simp only [State.mapBusy, reduceCtorEq, false_and, exists_false, or_self, Bool.false_eq_true]

/-- What a write stores and how it is reported (R180 steps 3, 5 and 6). -/
theorem Domain.fit_cases {d : Domain} {n : Int} {st : Status} (fits : d.fit n = some (w, st))
    (ordered : ∀ lo hi, d = .range lo hi → lo ≤ hi) : (∀ lo hi, d = .range lo hi → w = max lo (min hi n)) ∧
      (d.admits n → w = n ∧ st = .ok) ∧ (¬d.admits n → st = .clamped) := by
  cases d with
  | listed vs =>
    have listed : n ∈ vs ∧ n = w ∧ .ok = st := by simpa [Domain.fit] using fits
    obtain ⟨mem, rfl, rfl⟩ := listed
    exact ⟨nofun, fun _ => ⟨rfl, rfl⟩, fun out => absurd mem out⟩
  | range lo hi =>
    have le := ordered lo hi rfl
    have both : saturate lo hi n = w ∧ (if saturate lo hi n = n then Status.ok else .clamped) = st := by
      simpa [Domain.fit] using fits
    obtain ⟨stored, status⟩ := both
    have nearer : saturate lo hi n = max lo (min hi n) := by
      unfold saturate
      split_ifs <;> omega
    have inside : saturate lo hi n = n ↔ lo ≤ n ∧ n ≤ hi := by omega
    refine ⟨fun lo' hi' same => ?_, fun admitted => ?_, fun out => ?_⟩
    · obtain ⟨rfl, rfl⟩ := Domain.range.inj same
      exact stored.symm.trans nearer
    · rw [if_pos (inside.mpr admitted)] at status
      exact ⟨stored.symm.trans (inside.mpr admitted), status.symm⟩
    · rw [if_neg fun same => out (inside.mp same)] at status
      exact status.symm

/-! ### The feeds of the outlets -/

theorem State.read_outletBranch (s : State) (k : Outlet) : s.settings.read (.outletBranch k) = (s.branchOf k).val := rfl

theorem State.read_branchFeed (s : State) (b : Branch) : s.settings.read (.branchFeed b) = (s.branchFeedOf b).val := rfl

theorem State.branchOf_of_read (same : t.settings.read (.outletBranch k) = s.settings.read (.outletBranch k)) :
    t.branchOf k = s.branchOf k := by
  rw [State.read_outletBranch, State.read_outletBranch] at same
  exact Fin.ext (Int.ofNat.inj same)

theorem State.branchFeedOf_of_read (same : t.settings.read (.branchFeed b) = s.settings.read (.branchFeed b)) :
    t.branchFeedOf b = s.branchFeedOf b := by
  rw [State.read_branchFeed, State.read_branchFeed] at same
  exact Fin.ext (Int.ofNat.inj same)

/-- The outlets whose feed a write can change: those of a branch that it moves, and an outlet that it moves. -/
theorem State.feedOf_stored (others : ∀ v', v' ≠ v → t.settings.read v' = s.settings.read v') (ne : t.feedOf k ≠ s.feedOf k) :
    v = .branchFeed (s.branchOf k) ∨ v = .outletBranch k := by
  by_contra neither
  obtain ⟨feed, branch⟩ := not_or.mp neither
  have branches : t.branchOf k = s.branchOf k := State.branchOf_of_read (others _ (Ne.symm branch))
  have feeds : t.branchFeedOf (s.branchOf k) = s.branchFeedOf (s.branchOf k) := State.branchFeedOf_of_read (others _ (Ne.symm feed))
  exact ne (by rw [State.feedOf, branches, feeds]; rfl)

/-- A branch's feed changed is that of each of its outlets. -/
theorem State.feedOf_branchFeed (others : ∀ v', v' ≠ .branchFeed (s.branchOf k) → t.settings.read v' = s.settings.read v')
    (changed : t.settings.read (.branchFeed (s.branchOf k)) ≠ s.settings.read (.branchFeed (s.branchOf k))) :
    t.feedOf k ≠ s.feedOf k := by
  have branches : t.branchOf k = s.branchOf k := State.branchOf_of_read (others _ nofun)
  intro same
  rw [State.feedOf, branches] at same
  exact changed (by rw [State.read_branchFeed, State.read_branchFeed]; exact congrArg (fun f : Feed => (f.val : Int)) same)

/-- What an accepted write leaves: `a` is the state with the value stored and told, `c` the state behind its effects. -/
structure State.Writes (s : State) (v : Setting) (w : Int) (a c : State) : Prop where
  admitted : v.domain.admits w
  stored : a.settings = s.settings.store v w
  before : { a with settings := s.settings, generation := s.generation, ports := s.ports } = s
  kept : s.settings.read v = w → a.LineOnly c
  effects : s.settings.read v ≠ w → ∃ d, a.Effects s v w d ∧ d.LineOnly c

theorem State.post_rest (s : State) (body : EventBody) (source : EventOrigin) : { s.post body source with ports := s.ports } = s := rfl

theorem State.stored_before (s : State) (x : Link) (v : Setting) (id index : Byte) (w : Int) :
    { s.stored x v id index w with settings := s.settings, generation := s.generation, ports := s.ports } = s := by
  obtain ⟨p, isP⟩ : ∃ p, p = (s.setSettings (s.settings.store v w)).setGeneration (s.generation + 1) := ⟨_, rfl⟩
  have back : { p with settings := s.settings, generation := s.generation, ports := s.ports } = s := by rw [isP]; rfl
  obtain ⟨q, isQ⟩ : ∃ q, q = p.post (.configChanged id index x w) EventOrigin.nobody := ⟨_, rfl⟩
  have rest : { q with ports := p.ports } = p := by rw [isQ]; exact p.post_rest _ _
  have told : s.stored x v id index w = q := by rw [isQ, isP]; rfl
  rw [told]
  exact (congrArg (fun u : State => { u with settings := s.settings, generation := s.generation, ports := s.ports }) rest).trans back

theorem State.acceptWrite_writes (admitted : v.domain.admits w) (s : State) (x : Link) (id index : Byte) :
    s.Writes v w (s.stored x v id index w) (s.acceptWrite x v id index w) := by
  refine ⟨admitted, rfl, s.stored_before .., fun same => ?_, fun changed => ?_⟩
  · rw [s.acceptWrite_eq, if_pos same]
    exact State.written_line _ v
  · rw [s.acceptWrite_eq, if_neg changed]
    exact ⟨_, State.changed_effects _ s v w, State.written_line _ v⟩

namespace State.Writes

variable {a c : State}

theorem read (h : s.Writes v w a c) : a.settings.read v = w ∧ ∀ v', v' ≠ v → a.settings.read v' = s.settings.read v' := by
  rw [h.stored]
  exact ⟨s.settings.read_store_self v h.admitted, fun v' ne => s.settings.read_store_of_ne w ne⟩

theorem restored (h : s.Writes v w a c) (same : s.settings.read v = w) : a.settings = s.settings := by
  rw [h.stored, ← same, Settings.store_read]

theorem rest (h : s.Writes v w a c) : { c with
    trackers := a.trackers, meters := a.meters, tripRuns := a.tripRuns, monitors := a.monitors
    protections := a.protections, sequencers := a.sequencers, entries := a.entries, drivers := a.drivers
    ports := a.ports } = a := by
  have lined {d : State} (line : d.LineOnly c) := congrArg (fun t : State => { t with
    trackers := a.trackers, meters := a.meters, tripRuns := a.tripRuns, monitors := a.monitors
    protections := a.protections, sequencers := a.sequencers, entries := a.entries, drivers := a.drivers
    ports := a.ports }) line
  by_cases same : s.settings.read v = w
  · exact lined (h.kept same)
  · obtain ⟨d, effects, line⟩ := h.effects same
    exact (lined line).trans effects.rest

theorem settings (h : s.Writes v w a c) : c.settings = a.settings := (congrArg State.settings h.rest :)

theorem branchOf (h : s.Writes v w a c) (ne : v ≠ .outletBranch k) : a.branchOf k = s.branchOf k :=
  State.branchOf_of_read (h.read.2 _ (Ne.symm ne))

/-- The outlets whose meters a changed map realigns are those whose feed has changed (R46). -/
theorem realigns (h : s.Writes v w a c) (changed : s.settings.read v ≠ w) :
    (v = .branchFeed (a.branchOf k) ∨ v = .outletBranch k ∧ s.feedOf k ≠ a.feedOf k) ↔ a.feedOf k ≠ s.feedOf k := by
  constructor
  · rintro (feed | ⟨-, moved⟩)
    · have branch : a.branchOf k = s.branchOf k := h.branchOf (by rw [feed]; exact nofun)
      rw [branch] at feed
      subst feed
      exact State.feedOf_branchFeed h.read.2 (by rw [h.read.1]; exact changed.symm)
    · exact moved.symm
  · intro ne
    rcases State.feedOf_stored h.read.2 ne with feed | own
    · exact .inl (by rw [h.branchOf (by rw [feed]; exact nofun)]; exact feed)
    · exact .inr ⟨own, ne.symm⟩

theorem tracker (h : s.Writes v w a c) (f : Feed) : c.tracker f =
    if s.settings.read v ≠ w ∧ v = .windowExp f then (s.tracker f).discardWindow
    else if s.settings.read v ≠ w ∧ v = .divider f then (s.tracker f).captureNone else s.tracker f := by
  have old : a.tracker f = s.tracker f := (congrArg (·.tracker f) h.before :)
  by_cases same : s.settings.read v = w
  · rw [if_neg fun no => no.1 same, if_neg fun no => no.1 same, ← old]
    exact (congrArg (·.tracker f) (h.kept same) :)
  · obtain ⟨d, effects, line⟩ := h.effects same
    simp only [ne_eq, same, not_false_eq_true, true_and]
    rw [← old, ← effects.tracker]
    exact (congrArg (·.tracker f) line :)

theorem meter (h : s.Writes v w a c) (k : Outlet) : c.meter k =
    if s.settings.read v ≠ w ∧ v = .windowExp (s.feedOf k) then (s.meter k).clearWindow
    else if c.feedOf k ≠ s.feedOf k then (s.meter k).realign else s.meter k := by
  have old : a.meter k = s.meter k := (congrArg (·.meter k) h.before :)
  rw [State.feedOf_of_settings h.settings]
  by_cases same : s.settings.read v = w
  · rw [if_neg fun no => no.1 same, if_neg fun no => no (State.feedOf_of_settings (h.restored same) k), ← old]
    exact (congrArg (·.meter k) (h.kept same) :)
  · obtain ⟨d, effects, line⟩ := h.effects same
    have window : v = .windowExp (a.feedOf k) ↔ v = .windowExp (s.feedOf k) := by
      by_cases feeds : a.feedOf k = s.feedOf k
      · rw [feeds]
      · rcases State.feedOf_stored h.read.2 feeds with h | h <;> rw [h] <;> exact ⟨nofun, nofun⟩
    have made := effects.meter k
    simp only [h.realigns same, window, old] at made
    simp only [ne_eq, same, not_false_eq_true, true_and]
    exact (congrArg (·.meter k) line :).trans made

theorem tripRun (h : s.Writes v w a c) (k : Outlet) : c.tripRun k =
    if s.settings.read v ≠ w ∧ (v = .branchFeed (s.branchOf k) ∨ v = .outletBranch k) then 0 else s.tripRun k := by
  have old : a.tripRun k = s.tripRun k := (congrArg (·.tripRun k) h.before :)
  by_cases same : s.settings.read v = w
  · rw [if_neg fun no => no.1 same, ← old]
    exact (congrArg (·.tripRun k) (h.kept same) :)
  · obtain ⟨d, effects, line⟩ := h.effects same
    have branch : (v = .branchFeed (a.branchOf k) ∨ v = .outletBranch k) ↔ (v = .branchFeed (s.branchOf k) ∨ v = .outletBranch k) := by
      by_cases own : v = .outletBranch k
      · simp only [own, or_true]
      · rw [h.branchOf own]
    have made := effects.tripRun k
    simp only [branch, old] at made
    simp only [ne_eq, same, not_false_eq_true, true_and]
    exact (congrArg (·.tripRun k) line :).trans made

theorem monitor (h : s.Writes v w a c) (k : Outlet) : c.monitor k =
    if s.settings.read v ≠ w ∧ v = .monWindow k then (if w = 0 then Monitor.initial .off else Monitor.reset) else s.monitor k := by
  have old : a.monitor k = s.monitor k := (congrArg (·.monitor k) h.before :)
  by_cases same : s.settings.read v = w
  · rw [if_neg fun no => no.1 same, ← old]
    exact (congrArg (·.monitor k) (h.kept same) :)
  · obtain ⟨d, effects, line⟩ := h.effects same
    simp only [ne_eq, same, not_false_eq_true, true_and]
    rw [← old, ← effects.monitor]
    exact (congrArg (·.monitor k) line :)

/-- A restart is due at the write of its enable as R133 says. -/
theorem restarts (h : s.Writes (.restartEnable b) w a c) : a.restartDue b = true ↔ w = 1 ∧ (s.protection b).state = .shed ∧
    (s.protection b).overcurrent = false ∧ (s.protection b).breaker = false ∧ (s.protection b).manual = false ∧
    (s.protection b).manualMark = false ∧ (s.protection b).exhaustedMark = false := by
  have old : a.protection b = s.protection b := (congrArg (·.protection b) h.before :)
  have enable : look a.settings.restartEnable b = true ↔ w = 1 := by
    rw [h.stored]
    exact (Bool.eq_iff_iff.mp (look_put_self ..)).trans beq_iff_eq
  rw [State.restartDue_iff, old, enable]
  simp only [and_assoc, and_left_comm (b := w = 1)]

theorem protection (h : s.Writes v w a c) (unmoved : ∀ k, v ≠ .outletBranch k) (b : Branch) : c.protection b =
    if s.settings.read v ≠ w ∧ v = .branchFeed b then { s.protection b with overRun := 0 }
    else if s.settings.read v ≠ w ∧ v = .restartEnable b ∧ w = 1 ∧ (s.protection b).state = .shed ∧
      (s.protection b).overcurrent = false ∧ (s.protection b).breaker = false ∧ (s.protection b).manual = false ∧
      (s.protection b).manualMark = false ∧ (s.protection b).exhaustedMark = false then
      { s.protection b with state := .restartWait, restartTimer := look s.settings.restartDelay b }
    else s.protection b := by
  have old : a.protection b = s.protection b := (congrArg (·.protection b) h.before :)
  by_cases same : s.settings.read v = w
  · rw [if_neg fun no => no.1 same, if_neg fun no => no.1 same, ← old]
    exact (congrArg (·.protection b) (h.kept same) :)
  · obtain ⟨d, effects, line⟩ := h.effects same
    have made := (congrArg (·.protection b) line :).trans (effects.protection unmoved b)
    simp only [ne_eq, same, not_false_eq_true, true_and]
    by_cases own : v = .restartEnable b
    · subst own
      have delay : look a.settings.restartDelay b = look s.settings.restartDelay b := by rw [h.stored]; rfl
      simp only [h.restarts, delay, old, true_and] at made ⊢
      exact made
    · simp only [own, false_and, if_false, old] at made ⊢
      exact made

/-- What a move leaves of the branches (R132). -/
theorem moved (h : s.Writes (.outletBranch k) w a c) :
    (s.settings.read (.outletBranch k) ≠ w → (s.protection (s.branchOf k)).state ≠ .normal →
      look (c.protection (s.branchOf k)).victims k = false) ∧
    (s.settings.read (.outletBranch k) = w → c.protections = s.protections) ∧
    ∀ b, b ≠ s.branchOf k → c.protection b = s.protection b := by
  have old : a.protections = s.protections := (congrArg State.protections h.before :)
  have kept (same : s.settings.read (.outletBranch k) = w) : c.protections = s.protections := (h.kept same).protections.trans old
  refine ⟨fun changed state => ?_, kept, fun b ne => ?_⟩
  · obtain ⟨d, effects, line⟩ := h.effects changed
    rw [State.protection_of_eq line.protections]
    exact (effects.moved k rfl).1 (by rw [State.protection_of_eq old]; exact state)
  · by_cases same : s.settings.read (.outletBranch k) = w
    · exact State.protection_of_eq (kept same) b
    · obtain ⟨d, effects, line⟩ := h.effects same
      rw [State.protection_of_eq line.protections, (effects.moved k rfl).2 b ne, State.protection_of_eq old]

/-- The ports are told of the write, and of a move's own events behind it. -/
theorem ports (h : s.Writes v w a c) : (∀ x, ∃ es, c.port x = (a.port x).offers es) ∧
    ((∀ k, v ≠ .outletBranch k) → c.ports = a.ports) := by
  by_cases same : s.settings.read v = w
  · exact ⟨fun x => ⟨[], (congrArg (·.port x) (h.kept same) :)⟩, fun _ => (h.kept same).ports⟩
  · obtain ⟨d, effects, line⟩ := h.effects same
    refine ⟨fun x => ?_, fun unmoved => line.ports.trans (congrArg State.ports (effects.stays unmoved) :)⟩
    obtain ⟨es, offered⟩ := effects.ports x
    exact ⟨es, (congrArg (·.port x) line :).trans offered⟩

end State.Writes

/-- The lines after a write: the head's test where a limit or a stagger is written (R105), and else, but for a move, as they were. -/
theorem State.acceptWrite_lines (s : State) (x : Link) (v : Setting) (id index : Byte) (w : Int) (unmoved : ∀ k, v ≠ .outletBranch k) :
    ((∀ b, v ≠ .branchLimit b) → (∀ b, v ≠ .stagger b) → (s.acceptWrite x v id index w).sequencers = s.sequencers ∧
      (s.acceptWrite x v id index w).entries = s.entries ∧ (s.acceptWrite x v id index w).drivers = s.drivers) ∧
    ∀ b, v = .branchLimit b ∨ v = .stagger b →
      s.acceptWrite x v id index w = (s.stored x v id index w).testHead b := by
  obtain ⟨a, isA⟩ : ∃ a, a = s.stored x v id index w := ⟨_, rfl⟩
  have eq := s.acceptWrite_eq x v id index w
  rw [← isA] at eq ⊢
  rw [eq]
  constructor
  · intro limits staggers
    rw [State.written_none _ limits staggers]
    have before := s.stored_before x v id index w
    rw [← isA] at before
    have old : a.sequencers = s.sequencers ∧ a.entries = s.entries ∧ a.drivers = s.drivers :=
      ⟨(congrArg State.sequencers before :), (congrArg State.entries before :), (congrArg State.drivers before :)⟩
    split
    · exact old
    · have stays := (a.changed_effects s v w).stays unmoved
      exact ⟨(congrArg State.sequencers stays :).trans old.1, (congrArg State.entries stays :).trans old.2.1,
        (congrArg State.drivers stays :).trans old.2.2⟩
  · have same (p : Prop) [Decidable p] (b : Branch) : State.testHead (if p then a else a) b = a.testHead b := by rw [ite_self]
    rintro b (rfl | rfl) <;> exact same _ b

theorem State.respond_port (s : State) (x : Link) (st : Status) (echo : Byte) (p : List Byte) : (s.respond x st echo p).port x =
    { s.port x with response := { status := st, echo := echo, generation := s.generation, payload := p } } :=
  State.setPort_port_self ..

theorem State.respond_other (s : State) (x : Link) (st : Status) (echo : Byte) (p : List Byte) :
    (s.respond x st echo p).port x.other = s.port x.other := State.setPort_port_other ..

theorem requestOf_settingWrite (x : Link) (p : List Byte) (s : State) : requestOf x 0x1A p s = requestSettingWrite x p s := rfl

/-- Settles O37: the write is the setting stored and told, its effects, and the head's test. -/
theorem settingWriteStoresOrRefuses : Obligations.SettingWriteStoresOrRefuses := by
  intro x id index v3 v2 v1 v0 s ready
  let y := s.setPort x (s.port x).took
  have short : [id, index, v3, v2, v1, v0].length ≤ 32 := Nat.le_of_ble_eq_true rfl
  refine ⟨fun none => ?_, fun t setting => ?_⟩
  · refine ready.exec_refused rfl short ((requestOf_settingWrite ..).trans ?_)
    simp only [requestSettingWrite, none]
  have judged : requestOf x 0x1A [id, index, v3, v2, v1, v0] y = y.writeSetting x t id index (number4 v3 v2 v1 v0) := by
    rw [requestOf_settingWrite]
    simp only [requestSettingWrite, setting]
  have mapBusy := State.mapBusy_iff (s := y) (v := t)
  refine ⟨fun vs listed out => ?_, fun vs listed mem differs busy => ?_, fun w st fits free => ?_⟩
  · refine ready.exec_refused rfl short (judged.trans ?_)
    have unfit : t.domain.fit (number4 v3 v2 v1 v0) = none := by
      rw [listed, Domain.fit, if_neg (mt List.contains_iff_mem.mp out)]
    simp only [State.writeSetting, unfit]
    rfl
  · refine ready.exec_refused rfl short (judged.trans ?_)
    have fits : t.domain.fit (number4 v3 v2 v1 v0) = some (number4 v3 v2 v1 v0, .ok) := by
      rw [listed, Domain.fit, if_pos (List.contains_iff_mem.mpr mem)]
    simp only [State.writeSetting, fits]
    exact if_pos ⟨differs, mapBusy.mpr busy⟩
  obtain ⟨nearer, inside, outside⟩ := Domain.fit_cases fits fun _ _ => t.range_ordered
  have admitted := Setting.admits_of_fit fits
  obtain ⟨a, isA⟩ : ∃ a, a = y.stored x t id index w := ⟨_, rfl⟩
  obtain ⟨c, isC⟩ : ∃ c, c = y.acceptWrite x t id index w := ⟨_, rfl⟩
  have taken : requestOf x 0x1A [id, index, v3, v2, v1, v0] y = (c, { status := st, payload := [id, index] ++ signed4 w }) := by
    refine judged.trans ?_
    simp only [State.writeSetting, fits, ← isC]
    exact if_neg fun refused => free.elim refused.1 fun no => no (mapBusy.mp refused.2)
  have writes : y.Writes t w a c := by
    rw [isA, isC]
    exact State.acceptWrite_writes admitted y x id index
  have rest := writes.rest
  have generation : c.generation = s.generation + 1 := (congrArg State.generation rest :).trans (by rw [isA]; rfl)
  obtain ⟨e, isE⟩ : ∃ e : Event, e = { body := .configChanged id index x w, source := EventOrigin.nobody, stamp := s.stamp } := ⟨_, rfl⟩
  have port (z : Link) : a.port z = (y.port z).offer e := by
    rw [isA, isE]
    exact State.post_port ..
  obtain ⟨told, plain⟩ := writes.ports
  have other : y.port x.other = s.port x.other := State.setPort_port_other ..
  have before := writes.before
  have unmovedPorts (unmoved : ∀ k, t ≠ .outletBranch k) (z : Link) : c.port z = (y.port z).offer e :=
    (congrArg (PerLink.get · z) (plain unmoved) :).trans (port z)
  refine ⟨nearer, admitted, inside, outside, c.respond x st 0x1A ([id, index] ++ signed4 w), ready.exec_took rfl short taken,
    (congrArg (·.read t) writes.settings).trans writes.read.1,
    fun t' ne => (congrArg (·.read t') writes.settings).trans (writes.read.2 t' ne), generation, ?_, fun unmoved => ⟨?_, ?_⟩, ?_,
    writes.tracker, writes.meter, writes.tripRun, fun k => ?_, writes.protection, fun k own => ?_, fun b own => ?_, fun apart => ?_, ?_⟩
  · rw [c.respond_port, generation]
  · rw [c.respond_port, generation, unmovedPorts unmoved, State.setPort_port_self, ← isE]
    exact (Port.offer_response ..).symm
  · rw [c.respond_other, unmovedPorts unmoved, other, isE]
  · obtain ⟨es, offered⟩ := told x.other
    exact ⟨es, by rw [c.respond_other, offered, port, other, isE]; rfl⟩
  · refine (writes.monitor k).trans ?_
    by_cases off : w = 0
    · simp only [off, if_true]; rfl
    · simp only [off, if_false]; rfl
  · subst own
    obtain ⟨gone, kept, others⟩ := writes.moved
    exact ⟨gone, fun same => kept (not_not.mp same), others⟩
  · have tested := (y.acceptWrite_lines x t id index w (fun k => by rcases own with h | h <;> rw [h] <;> exact nofun)).2 b own
    rw [← isC, ← isA] at tested
    have stored : { s.setSettings c.settings with ports := a.ports, generation := a.generation } = a := by
      rw [writes.settings]
      exact congrArg (fun u : State => { u with settings := a.settings, generation := a.generation, ports := a.ports }) before.symm
    have apart := (s.setSettings c.settings).testHead_apart a.ports a.generation b
    rw [stored, ← tested] at apart
    exact ⟨_, exec_admission (s := s.setSettings c.settings) ready.running b, (congrArg State.sequencers apart :),
      (congrArg State.entries apart :), (congrArg State.drivers apart :)⟩
  · have lines := (y.acceptWrite_lines x t id index w fun k => (apart 0 k).2.2).1 (fun b => (apart b 0).1) fun b => (apart b 0).2.1
    rw [← isC] at lines
    exact lines
  · exact ⟨(congrArg State.energy rest :).trans (congrArg State.energy before :),
      (congrArg State.holds rest :).trans (congrArg State.holds before :),
      (congrArg State.sweeps rest :).trans (congrArg State.sweeps before :),
      (congrArg State.banks rest :).trans (congrArg State.banks before :),
      (congrArg State.slots rest :).trans (congrArg State.slots before :),
      (congrArg State.tripped rest :).trans (congrArg State.tripped before :),
      (congrArg State.breakers rest :).trans (congrArg State.breakers before :),
      (congrArg State.senseAge rest :).trans (congrArg State.senseAge before :),
      (congrArg State.handed rest :).trans (congrArg State.handed before :),
      (congrArg State.targetAddress rest :).trans (congrArg State.targetAddress before :),
      (congrArg State.pending rest :).trans (congrArg State.pending before :)⟩

end Sys2Proof.Machine

/-! PROOF. Sweeps (O49). -/

namespace Sys2Proof.Machine

variable {s t u : State} {x : Link} {k : Outlet} {kind : Kind} {off : Nat} {tag : Option Byte} {m : Bool} {c : SweepContext}

/-! ### The answers of a switching action -/

/-- What an answer to a switching action says: one of R72's and R73's statuses, and with OK or CLAMPED the outlet's entry is
the new one. -/
structure State.SwitchAnswered (s : State) (x : Link) (k : Outlet) (kind : Kind) (off : Nat) (tag : Option Byte) (m : Bool)
    (r : State × Answer) : Prop where
  status : r.2.status ∈ [Status.ok, .clamped, .joined, .already, .held, .faulted, .shed, .busyOutlet, .queueFull]
  own : r.2.status ∈ [Status.ok, .clamped] → s.EntriesDistinct → ∀ e, e ∈ r.1.entries → e.outlet = k →
    e.kind = kind ∧ e.origin = originOf x ∧ e.sweep = m ∧ e.tag = tag ∧ (kind = .cycle → e.offTime = s.offTimeFor k off)
  placed : r.2.status ∈ [Status.ok, .clamped] → s.EntriesDistinct → s.entryOf k = none → ∃ e, e ∈ r.1.entries ∧ e.outlet = k

/-- An answer that places no entry. -/
theorem State.SwitchAnswered.plain {r : State × Answer} (st : Status) (is : r.2.status = st)
    (other : st ∈ [Status.joined, .already, .held, .faulted, .shed, .busyOutlet, .queueFull]) :
    s.SwitchAnswered x k kind off tag m r := by
  have unplaced : st ∉ [Status.ok, .clamped] := fun placed => by
    rcases List.mem_pair.mp placed with h | h <;> rw [h] at other <;> exact absurd other (by decide)
  rw [← is] at unplaced other
  exact ⟨List.mem_cons_of_mem _ (List.mem_cons_of_mem _ other), fun placed => absurd placed unplaced,
    fun placed => absurd placed unplaced⟩

theorem State.switchPlace_answered (free : s.entryOf k = none) (fresh : ¬s.atTarget k kind = true) (x : Link) :
    s.SwitchAnswered x k kind off tag m (s.switchPlace x k kind off tag m) := by
  unfold State.switchPlace
  split
  · next room =>
    have placed (distinct : s.EntriesDistinct) := State.switchPlace_placed room free distinct x kind off tag m
    refine ⟨?_, fun _ distinct e live outlet => ((placed distinct).own e live outlet).2, fun _ distinct _ => ?_⟩
    · dsimp only
      split <;> decide
    · obtain ⟨e, entry⟩ := Option.ne_none_iff_exists'.mp ((placed distinct).stays fresh).1
      exact ⟨e, State.mem_of_entryOf entry, State.outlet_of_entryOf entry⟩
  · exact .plain .queueFull rfl (by decide)

theorem State.switchExisting_answered {e : Entry} (entry : s.entryOf k = some e) (x : Link) (kind : Kind) (off : Nat)
    (tag : Option Byte) (m : Bool) : s.SwitchAnswered x k kind off tag m (s.switchExisting x k kind off tag m e) := by
  unfold State.switchExisting
  split_ifs with joins supersedes cuts
  · exact .plain .joined rfl (by decide)
  · unfold State.switchPlace
    split
    · next room =>
      refine ⟨?_, fun _ distinct e' live outlet => ?_, fun _ _ none => absurd (entry.symm.trans none) nofun⟩
      · dsimp only
        split <;> decide
      have placed := State.switchPlace_placed room (State.complete_entryOf entry distinct ..)
        (((Acts.refl s).complete e .superseded .none).distinct distinct) x kind off tag m
      obtain ⟨-, made⟩ := placed.own e' live outlet
      rw [State.offTimeFor, ((State.StepOnly.refl s).complete e .superseded .none).queue.settings] at made
      exact made
    · exact .plain .queueFull rfl (by decide)
  · exact .plain .already rfl (by decide)
  · exact .plain .busyOutlet rfl (by decide)

theorem State.switchAction_answered (s : State) (x : Link) (k : Outlet) (kind : Kind) (off : Nat) (tag : Option Byte) (m : Bool) :
    s.SwitchAnswered x k kind off tag m (s.switchAction x k kind off tag m) := by
  unfold State.switchAction
  split
  · exact .plain .held rfl (by decide)
  split
  · exact .plain .faulted rfl (by decide)
  split
  · exact .plain .shed rfl (by decide)
  split
  · next entry => exact State.switchExisting_answered entry x kind off tag m
  · next free =>
    split
    · exact .plain .already rfl (by decide)
    · next away => exact State.switchPlace_answered free away x

/-! ### The fields of a SWEEP -/

theorem codedFrom_of_lt {α : Type} {values : List α} {n : Byte} (listed : n.toNat < values.length) :
    ∃ v, codedFrom values n = some v := ⟨_, List.getElem?_eq_getElem listed⟩

theorem lt_of_codedFrom {α : Type} {values : List α} {n : Byte} {v : α} (h : codedFrom values n = some v) :
    n.toNat < values.length := (List.getElem?_eq_some_iff.mp h).1

theorem lt_of_outletFrom {n : Byte} (h : outletFrom n = some k) : n.toNat < 24 := by
  by_contra beyond
  exact absurd (h.symm.trans (outletFrom_none (by omega))) nofun

/-- CYCLE is the action coded 3. -/
theorem sweepAction_cycle {a : Byte} {action : SweepAction}
    (h : codedFrom [.none, .opening, .closing, .cycle, .hold, .release, .heartbeat] a = some action) :
    action = .cycle ↔ a = 3 := by
  obtain ⟨lt, rfl⟩ := List.getElem?_eq_some_iff.mp h
  have coded : ∀ i : Fin 7, [SweepAction.none, .opening, .closing, .cycle, .hold, .release, .heartbeat][i] = .cycle ↔ i.val = 3 := by
    decide
  exact (coded ⟨a.toNat, lt⟩).trans (by rw [← BitVec.toNat_inj]; rfl)

theorem sweepDirection_up {direction : SweepDirection} (h : codedFrom [.up, .down] 0 = some direction) : direction = .up :=
  (Option.some.inj h).symm

theorem sweepDirection_down {direction : SweepDirection} (h : codedFrom [.up, .down] 1 = some direction) : direction = .down :=
  (Option.some.inj h).symm

/-! ### The ends of a sweep -/

theorem State.dropSweep_took (s : State) (x : Link) (p : Port) (r : SweepResult) : ((s.setPort x p).dropSweep x r) =
    (s.setSweep x { context := none, last := some r }).setPort x { p with pendingMark := false } := by
  unfold State.dropSweep State.setPendingMark
  rw [State.setSweep_port, State.setPort_port_self]
  exact State.setPort_setPort (s := s.setSweep x { context := none, last := some r }) ..

theorem sweepFlags_eq (matched : Nat) (clamped : Bool) : sweepFlags (decide (0 < matched)) clamped =
    byteOf ((if 0 < matched then 1 else 0) + if clamped then 2 else 0) := by
  rw [sweepFlags, flagBit, flagBit]
  simp only [decide_eq_true_eq]

theorem SweepContext.result_bytes (c : SweepContext) (reason : StopReason) : (c.result reason).bytes =
    [byteOf c.matched, byteOf c.accepted, byteOf c.refused, outletByte c.last, byteOf reason.code,
      byteOf ((if 0 < c.matched then 1 else 0) + if c.clamped then 2 else 0)] := by
  rw [← sweepFlags_eq]
  rfl

/-- The end of a sweep is its record kept and its answer placed in the link's buffer, the link no longer pending. -/
theorem State.endSweep_eq (s : State) (x : Link) (c : SweepContext) (reason : StopReason) : s.endSweep x c reason =
    (s.setSweep x { context := none, last := some (c.result reason) }).setPort x { s.port x with
      pendingMark := false
      response := { status := if c.clamped then .clamped else .ok, echo := 0x1B, generation := s.generation,
                    payload := [byteOf c.matched, byteOf c.accepted, byteOf c.refused, outletByte c.last, byteOf reason.code,
                      byteOf ((if 0 < c.matched then 1 else 0) + if c.clamped then 2 else 0)] } } := by
  rw [← c.result_bytes]
  unfold State.endSweep State.respond State.dropSweep State.setPendingMark
  rw [State.setPort_port_self, State.setPort_setPort]
  rfl

/-- A SWEEP_ABORT is taken whatever the pending mark (R169). -/
theorem exec_sweepAbort (high : s.resetHeld = false) (none : (s.port x).trans = .none) (latch : (s.port x).latch = false)
    (present : (s.port x).presence = .present) {a : Answer}
    (taken : requestSweepAbort x [] (s.setPort x (s.port x).took) = (t.setPort x (t.port x).took, a)) :
    exec (.sweepAbort x []) s = .next (t.answeredOnly x a.status 0x1C a.payload) := by
  have ended : s.endTransaction x = s := State.endTransaction_none none
  have takes : ((s.endTransaction x).port x).refusesCommand 0x1C = false := by
    rw [ended, Port.refusesCommand, latch]
    exact Bool.and_false _
  have valid : (s.setPort x { (s.port x).quiet with acked := true }).validFrame x = s.setPort x (s.port x).took := by
    rw [State.validFrame_of_present (by rw [State.setPort_port_self]; exact present), State.setPort_port_self, State.setPort_setPort]
    rfl
  have judged : requestOf x 0x1C [] (s.setPort x (s.port x).took) = (t.setPort x (t.port x).took, a) := taken
  rw [exec_request rfl, State.request_high high, State.frameTransaction_taken takes (Nat.zero_le _), ended, State.answered, valid,
    judged, State.answered_alone]

theorem requestSweepAbort_going {p : Port} (context : (s.sweepEngine x).context = some c) :
    requestSweepAbort x [] (s.setPort x p) =
      ((s.setPort x p).dropSweep x (c.result .aborted), { status := .ok, payload := (c.result .aborted).bytes }) := by
  have same : ((s.setPort x p).sweepEngine x).context = some c := context
  simp only [requestSweepAbort, same]

theorem requestSweepAbort_free {p : Port} (free : (s.sweepEngine x).context = none) :
    requestSweepAbort x [] (s.setPort x p) =
      (s.setPort x p, { status := .noSweep, payload := ((s.sweepEngine x).last.map SweepResult.bytes).getD [] }) := by
  have same : ((s.setPort x p).sweepEngine x).context = none := free
  simp only [requestSweepAbort, same]
  rfl

/-! ### An examination -/

/-- What the context is after a match with `accepted` and `refused` more counted. -/
def SweepContext.counted (c : SweepContext) (accepted refused : Nat) : SweepContext :=
  { c.pass with matched := c.matched + 1, accepted := c.accepted + accepted, refused := c.refused + refused }

/-- Where a match that was counted leads: the end at the first match or at the last outlet, else the next outlet (R161). -/
def State.passOn (s : State) (x : Link) (c : SweepContext) : State :=
  if c.stop = .first then s.endSweep x c .firstMatch else s.keepSweep x c

/-- A match whose action is counted. -/
theorem State.examine_counted {tally : Option Tally} (hits : s.sweepMatches c = true)
    (acted : s.sweepAction x c.cursor c = (u, tally)) (notFull : tally ≠ some .full) {accepted refused : Nat}
    (counts : c.pass.count tally = c.counted accepted refused) : s.examine x c = u.passOn x (c.counted accepted refused) := by
  rw [State.examine, if_pos hits, State.sweepMatch, acted, ← counts]
  rcases tally with - | (- | - | -)
  · rfl
  · rfl
  · rfl
  · exact absurd rfl notFull

theorem State.examine_full (hits : s.sweepMatches c = true) (acted : s.sweepAction x c.cursor c = (u, some .full)) :
    s.examine x c = u.setSweep x { u.sweepEngine x with context := some { c with suspended := true } } := by
  rw [State.examine, if_pos hits, State.sweepMatch, acted]

theorem State.keepSweep_last {c' : SweepContext} (left : c'.remaining = c.remaining - 1) (last : c.remaining ≤ 1) :
    s.keepSweep x c' = s.endSweep x c' .countDone :=
  if_pos (left.trans (Nat.sub_eq_zero_of_le last))

theorem State.keepSweep_more {c' : SweepContext} (left : c'.remaining = c.remaining - 1) (more : 1 < c.remaining) :
    s.keepSweep x c' = s.setSweep x { s.sweepEngine x with context := some c' } :=
  if_neg (left ▸ Nat.sub_ne_zero_of_lt more)

theorem State.passOn_all {c' : SweepContext} (all : c'.stop = .all) : s.passOn x c' = s.keepSweep x c' :=
  if_neg (by rw [all]; exact nofun)

theorem State.sweepMatches_iff : s.sweepMatches c = true ↔ ∃ v, s.metricValue c.cursor c.metric = some v ∧
    c.relation.test v c.value = true := by
  unfold State.sweepMatches
  split
  · next none => rw [none]; exact ⟨nofun, fun ⟨_, value, _⟩ => absurd value nofun⟩
  · next v value =>
    rw [value]
    exact ⟨fun test => ⟨v, rfl, test⟩, fun ⟨_, same, test⟩ => Option.some.inj same ▸ test⟩

theorem Relation.test_iff (r : Relation) (v w : Int) : r.test v w = true ↔ match r with
    | .eq => v = w
    | .ne => v ≠ w
    | .lt => v < w
    | .ge => w ≤ v := by
  cases r <;> exact decide_eq_true_iff

theorem State.passOn_entries (s : State) (x : Link) (c : SweepContext) : (s.passOn x c).entries = s.entries := by
  unfold State.passOn State.keepSweep
  split_ifs <;> rfl

/-- A switching action of a sweep is a SWITCH of its kind. -/
theorem State.sweepAction_switch (s : State) (x : Link) (k : Outlet) (kinds : c.action = .opening ∧ kind = .opening ∧ off = 0 ∨
    c.action = .closing ∧ kind = .closing ∧ off = 0 ∨ c.action = .cycle ∧ kind = .cycle ∧ off = c.offTime) :
    s.sweepAction x k c =
      ((s.switchAction x k kind off none true).1, some (s.switchAction x k kind off none true).2.status.tally) := by
  rcases kinds with ⟨action, rfl, rfl⟩ | ⟨action, rfl, rfl⟩ | ⟨action, rfl, rfl⟩ <;> rw [State.sweepAction, action] <;> rfl

theorem Status.tally_accepted {st : Status} (mem : st ∈ [Status.ok, .clamped, .joined, .already]) : st.tally = .accepted := by
  simp only [List.mem_cons, List.not_mem_nil, or_false] at mem
  rcases mem with rfl | rfl | rfl | rfl <;> rfl

theorem Status.tally_refused {st : Status} (mem : st ∈ [Status.held, .faulted, .shed, .busyOutlet]) : st.tally = .refused := by
  simp only [List.mem_cons, List.not_mem_nil, or_false] at mem
  rcases mem with rfl | rfl | rfl | rfl <;> rfl

/-! ### The rows -/

theorem requestOf_sweep (x : Link) (p : List Byte) (s : State) : requestOf x 0x1B p s = requestSweep x p s := rfl

/-- A SWEEP of values not listed (R157). -/
theorem exec_sweep_unlisted (ready : s.Ready x) {start count d m r v3 v2 v1 v0 a h l st : Byte}
    (bad : 23 < start.toNat ∨ 1 < d.toNat ∨ 6 < m.toNat ∨ 3 < r.toNat ∨ 6 < a.toNat ∨ 1 < st.toNat) :
    exec (.sweep x [start, count, d, m, r, v3, v2, v1, v0, a, h, l, st]) s = .next (s.answeredOnly x .badValue 0x1B []) := by
  refine ready.exec_refused rfl (Nat.le_of_ble_eq_true rfl) ((requestOf_sweep ..).trans ?_)
  simp only [requestSweep]
  split
  · next k d' m' r' a' st' hk hd hm hr ha hst =>
    have lk := lt_of_outletFrom hk
    have ld := lt_of_codedFrom hd
    have lm := lt_of_codedFrom hm
    have lr := lt_of_codedFrom hr
    have la := lt_of_codedFrom ha
    have lst := lt_of_codedFrom hst
    simp only [List.length_cons, List.length_nil] at ld lm lr la lst
    omega
  · rfl

/-- A SWEEP of listed values, with its fields as read (R157). -/
theorem requestSweep_listed {start count d m r v3 v2 v1 v0 a h l st : Byte} (lk : start.toNat ≤ 23) (ld : d.toNat ≤ 1)
    (lm : m.toNat ≤ 6) (lr : r.toNat ≤ 3) (la : a.toNat ≤ 6) (lst : st.toNat ≤ 1) : ∃ d' m' r' a' st',
      codedFrom [SweepDirection.up, .down] d = some d' ∧
      codedFrom [Metric.contact, .cycleImA, .windowImA, .windowPmW, .monitorState, .branch, .heldBy] m = some m' ∧
      codedFrom [Relation.eq, .ne, .lt, .ge] r = some r' ∧
      codedFrom [SweepAction.none, .opening, .closing, .cycle, .hold, .release, .heartbeat] a = some a' ∧
      codedFrom [StopMode.all, .first] st = some st' ∧
      ∀ s : State, requestSweep x [start, count, d, m, r, v3, v2, v1, v0, a, h, l, st] s =
        s.startSweep x (newSweep ⟨start.toNat, by omega⟩ count.toNat d' m' r' (number4 v3 v2 v1 v0) a' (number2 h l) st') := by
  obtain ⟨d', hd⟩ := codedFrom_of_lt (values := [SweepDirection.up, .down]) (n := d) (Nat.lt_succ_of_le ld)
  obtain ⟨m', hm⟩ := codedFrom_of_lt (n := m) (Nat.lt_succ_of_le lm)
    (values := [Metric.contact, .cycleImA, .windowImA, .windowPmW, .monitorState, .branch, .heldBy])
  obtain ⟨r', hr⟩ := codedFrom_of_lt (values := [Relation.eq, .ne, .lt, .ge]) (n := r) (Nat.lt_succ_of_le lr)
  obtain ⟨a', ha⟩ := codedFrom_of_lt (n := a) (Nat.lt_succ_of_le la)
    (values := [SweepAction.none, .opening, .closing, .cycle, .hold, .release, .heartbeat])
  obtain ⟨st', hst⟩ := codedFrom_of_lt (values := [StopMode.all, .first]) (n := st) (Nat.lt_succ_of_le lst)
  refine ⟨d', m', r', a', st', hd, hm, hr, ha, hst, fun s => ?_⟩
  have hk : outletFrom start = some ⟨start.toNat, by omega⟩ := outletFrom_of rfl
  simp only [requestSweep, hk, hd, hm, hr, ha, hst]

theorem newSweep_clamped (start : Outlet) (count : Nat) (direction : SweepDirection) (metric : Metric) (relation : Relation)
    (value : Int) (action : SweepAction) (n : Nat) (stop : StopMode) :
    (newSweep start count direction metric relation value action n stop).clamped = true ↔
      sweepCount start direction count ≠ count ∨ action = .cycle ∧ 255 < n := by
  rw [newSweep, Bool.or_eq_true, decide_eq_true_iff, decide_eq_true_iff]

/-- Settles O49: the turn is the examination, and each action counts as its answer says. -/
theorem sweepsStartExamineAndEnd : Obligations.SweepsStartExamineAndEnd := by
  refine ⟨fun x start count d m r v3 v2 v1 v0 a h l st s ready => ⟨exec_sweep_unlisted ready, fun lk ld lm lr la lst => ?_⟩,
    fun x s high quiet latch present => ⟨fun c context => ?_, fun free forgotten => ?_, fun r free last => ?_⟩,
    fun x s high waits => ?_, fun x s waits => ?_, fun x s c high context room => ?_⟩
  · let v := s.setPort x (s.port x).took
    obtain ⟨d', m', r', a', st', hd, hm, hr, ha, hst, judged⟩ :=
      requestSweep_listed (x := x) (count := count) (v3 := v3) (v2 := v2) (v1 := v1) (v0 := v0) (h := h) (l := l) lk ld lm lr la lst
    refine ⟨fun active => ?_, fun idle => ?_⟩
    · exact ready.exec_refused rfl (Nat.le_of_ble_eq_true rfl) ((judged v).trans (if_pos (Option.isSome_iff_ne_none.mpr active)))
    obtain ⟨c, isC⟩ : ∃ c, c = newSweep ⟨start.toNat, by omega⟩ count.toNat d' m' r' (number4 v3 v2 v1 v0) a' (number2 h l) st' :=
      ⟨_, rfl⟩
    rw [← isC] at judged
    have begun : v.startSweep x c = ((v.setSweep x { s.sweepEngine x with context := some c }).setPendingMark x true, Answer.bare .pending) :=
      if_neg (by rw [show v.sweepEngine x = s.sweepEngine x from rfl, idle]; exact nofun)
    refine ⟨_, c, ready.exec_apart (t := (s.setSweep x { s.sweepEngine x with context := some c }).setPort x
      { s.port x with pendingMark := true }) rfl (Nat.le_of_ble_eq_true rfl) (((judged v).trans begun).trans ?_), rfl, ?_⟩
    · unfold State.setPendingMark
      rw [State.setSweep_port, State.setPort_port_self, State.setPort_port_self, State.setPort_setPort]
      exact congrArg (·, Answer.bare .pending) (State.setPort_setPort (s := s.setSweep x _) ..)
    · rw [isC]
      refine ⟨rfl, rfl, rfl, rfl, rfl, rfl, rfl, rfl, fun up => ?_, fun down => ?_, hm, hr, ha, hst, ?_, ?_⟩
      · subst up
        obtain rfl := sweepDirection_up hd
        exact ⟨rfl, rfl⟩
      · subst down
        obtain rfl := sweepDirection_down hd
        exact ⟨rfl, rfl⟩
      · exact if_congr (sweepAction_cycle ha) rfl rfl
      · rw [newSweep_clamped, sweepAction_cycle ha]
        rfl
  · have aborted := exec_sweepAbort (t := (s.setSweep x { context := none, last := some (c.result .aborted) }).setPort x
      { s.port x with pendingMark := false }) high quiet latch present
      (a := { status := .ok, payload := (c.result .aborted).bytes }) ?_
    · rw [c.result_bytes] at aborted
      exact aborted
    · rw [requestSweepAbort_going context, State.dropSweep_took, State.setPort_port_self, State.setPort_setPort]
      rfl
  · exact exec_sweepAbort high quiet latch present ((requestSweepAbort_free free).trans (by rw [forgotten]))
  · exact exec_sweepAbort high quiet latch present ((requestSweepAbort_free free).trans (by rw [last]))
  · refine congrArg Host.Outcome.next (State.running_id ?_)
    unfold State.sweepResume
    split
    · rfl
    · next c context =>
      refine if_neg fun goes => ?_
      rcases waits with none | full | ⟨c', context', going⟩
      · exact absurd (context.symm.trans none) nofun
      · exact Nat.not_lt.mpr full (State.hasRoom_iff.mp goes.2)
      · obtain rfl := Option.some.inj (context.symm.trans context')
        exact absurd (goes.1.symm.trans going) nofun
  · show s.sweepTurn x = s
    unfold State.sweepTurn
    split
    · rfl
    · next c context =>
      rcases waits with none | ⟨full, c', context', suspended⟩
      · exact absurd (context.symm.trans none) nofun
      · obtain rfl := Option.some.inj (context.symm.trans context')
        exact if_pos ⟨suspended, Bool.eq_false_iff.mpr fun room => Nat.not_lt.mpr full (State.hasRoom_iff.mp room)⟩
  have turn : s.turn (.sweep x) = s.examine x c := by
    show s.sweepTurn x = _
    unfold State.sweepTurn
    rw [context]
    exact if_neg fun waits => room.elim (fun going => absurd (waits.1.symm.trans going) nofun)
      fun free => absurd (waits.2.symm.trans (State.hasRoom_iff.mpr free)) nofun
  have resumed (suspended : c.suspended = true) : exec (.sweepResume x) s = .next (s.examine x c) := by
    refine congrArg Host.Outcome.next ((State.running_high high).trans ?_)
    have free : s.hasRoom = true := State.hasRoom_iff.mpr (room.resolve_left (by rw [suspended]; exact nofun))
    unfold State.sweepResume
    rw [context]
    exact if_pos ⟨suspended, free⟩
  refine ⟨s.examine x c, turn, resumed, ?_⟩
  intro k value hit passed ended counted
  have hits : hit ↔ s.sweepMatches c = true := by
    rw [State.sweepMatches_iff]
    exact exists_congr fun v => and_congr Iff.rfl (c.relation.test_iff v c.value).symm
  have counts {u : State} {accepted refused : Nat} (eq : s.examine x c = u.passOn x (c.counted accepted refused)) :
      counted u accepted refused := by
    refine ⟨fun first => ?_, fun all last => ?_, fun all more => ?_⟩
    · exact eq.trans ((if_pos first).trans (u.endSweep_eq ..))
    · exact eq.trans ((State.passOn_all (c' := c.counted accepted refused) all).trans ((State.keepSweep_last rfl last).trans (u.endSweep_eq ..)))
    · exact eq.trans ((State.passOn_all (c' := c.counted accepted refused) all).trans (State.keepSweep_more rfl more))
  have misses (no : ¬hit) : s.examine x c = s.keepSweep x c.pass := if_neg (mt hits.mpr no)
  have acts {u : State} {tally : Tally} (hit : hit) (acted : s.sweepAction x c.cursor c = (u, some tally)) :
      (tally = .accepted → counted u 1 0) ∧ (tally = .refused → counted u 0 1) := by
    constructor <;> rintro rfl <;> exact counts (State.examine_counted (hits.mp hit) acted nofun rfl)
  refine ⟨fun no more => (misses no).trans (State.keepSweep_more rfl more),
    fun no last => (misses no).trans ((State.keepSweep_last rfl last).trans (s.endSweep_eq ..)), fun yes none => ?_,
    fun yes kind off kinds => ?_, fun yes either held => ?_, fun yes hold free => ?_, fun yes release free => ?_,
    fun yes beat off => ?_, fun yes beat on => ?_⟩
  · have acted : s.sweepAction x c.cursor c = (s, Option.none) := by rw [State.sweepAction, none]
    exact counts (State.examine_counted (hits.mp yes) acted nofun rfl)
  · have acted := s.sweepAction_switch x c.cursor kinds
    have answered := s.switchAction_answered x c.cursor kind off none true
    obtain ⟨⟨u, answer⟩, is⟩ : ∃ r, s.switchAction x c.cursor kind off none true = r := ⟨_, rfl⟩
    rw [is] at acted answered
    obtain ⟨accepts, refuses⟩ := acts yes acted
    refine ⟨u, answer, is, fun full => ?_, fun mem => accepts (Status.tally_accepted mem), fun mem distinct => ?_,
      fun mem => refuses (Status.tally_refused mem), answered.status⟩
    · exact State.examine_full (hits.mp yes) (acted.trans (by rw [full]; rfl))
    · have tally := Status.tally_accepted (List.mem_of_mem_take (i := 2) mem)
      rw [tally] at acted
      have entries := (congrArg State.entries (State.examine_counted (accepted := 1) (refused := 0) (hits.mp yes) acted nofun rfl)).trans
        (State.passOn_entries ..)
      rw [entries]
      refine ⟨fun e live outlet => ?_, answered.placed mem distinct⟩
      obtain ⟨isKind, origin, sweep, tag, offTime⟩ := answered.own mem distinct e live outlet
      have given (cycle : kind = .cycle) : off = c.offTime := by
        rcases kinds with ⟨-, other, -⟩ | ⟨-, other, -⟩ | ⟨-, -, given⟩
        · exact absurd (cycle.symm.trans other) nofun
        · exact absurd (cycle.symm.trans other) nofun
        · exact given
      exact ⟨isKind, sweep, tag, origin, fun cycle zero => (offTime cycle).trans (if_pos ((given cycle).trans zero)),
        fun cycle some => (offTime cycle).trans ((if_neg ((given cycle).symm ▸ some)).trans (by rw [given cycle]))⟩
  · have barred : s.heldByOther x c.cursor = true := (s.heldByOther_iff x c.cursor).mpr held
    have acted : s.sweepAction x c.cursor c = (s, some .refused) := by
      rw [State.sweepAction]
      rcases either with action | action <;> rw [action] <;> exact if_pos barred
    exact (acts yes acted).2 rfl
  · have acted : s.sweepAction x c.cursor c = (s.setHold c.cursor (some x), some .accepted) := by
      rw [State.sweepAction, hold]
      exact if_neg (mt (s.heldByOther_iff x c.cursor).mp free)
    exact (acts yes acted).1 rfl
  · have acted : s.sweepAction x c.cursor c = (s.setHold c.cursor none, some .accepted) := by
      rw [State.sweepAction, release]
      exact if_neg (mt (s.heldByOther_iff x c.cursor).mp free)
    exact (acts yes acted).1 rfl
  · have acted : s.sweepAction x c.cursor c = (s, some .refused) := by
      rw [State.sweepAction, beat]
      exact if_pos off
    exact (acts yes acted).2 rfl
  · have acted : s.sweepAction x c.cursor c = (s.setMonitor c.cursor (s.monitor c.cursor).heartbeat, some .accepted) := by
      rw [State.sweepAction, beat]
      exact (if_neg on).trans (by rw [State.heartbeatAt, if_neg on])
    exact (acts yes acted).1 rfl

end Sys2Proof.Machine

/-! PROOF. What the turns of an arrival measure: the meters, the energy and the branch sums change where their feed's cycle closes,
and nowhere else. -/

namespace Sys2Proof.Machine

variable {s t u : State} {k : Outlet} {f : Feed} {b : Branch} {x : Link}

/-! ### What is measured -/

/-- A meter, its remembered load apart (section 3.5). -/
def Meter.measured (m : Meter) : Meter := { m with remembered := 0 }

/-- An outlet's meter and energy registers. -/
def State.metering (s : State) (k : Outlet) : Meter × Energy := ((s.meter k).measured, s.energyOf k)

/-- A branch's sum and over-limit run. -/
def State.summing (s : State) (b : Branch) : Option Nat × Nat := ((s.protection b).sum, (s.protection b).overRun)

/-- `t` measures as `s` does. -/
structure State.SameMeasures (s t : State) : Prop where
  metering : ∀ k, t.metering k = s.metering k
  summing : ∀ b, t.summing b = s.summing b

theorem State.SameMeasures.of_same (meters : t.meters = s.meters) (energy : t.energy = s.energy)
    (protections : t.protections = s.protections) : s.SameMeasures t where
  metering k := by rw [State.metering, State.meter, State.energyOf, meters, energy]; rfl
  summing b := by rw [State.summing, State.protection, protections]; rfl

theorem State.SameMeasures.refl (s : State) : s.SameMeasures s := ⟨fun _ => rfl, fun _ => rfl⟩

theorem State.SameMeasures.trans (h : s.SameMeasures t) (g : t.SameMeasures u) : s.SameMeasures u :=
  ⟨fun k => (g.metering k).trans (h.metering k), fun b => (g.summing b).trans (h.summing b)⟩

theorem State.SameMeasures.ite {p : Prop} [Decidable p] (h : p → s.SameMeasures t) (g : ¬p → s.SameMeasures u) :
    s.SameMeasures (if p then t else u) := by
  split
  · next hp => exact h hp
  · next hp => exact g hp

/-- The blocks' acts measure nothing. -/
theorem Move.sameMeasures (move : Move s t) : s.SameMeasures t := by
  cases move with
  | remember k n =>
    refine ⟨fun j => ?_, fun _ => rfl⟩
    rw [State.metering, State.setMeter_meter]
    split
    · next own => rw [own]; rfl
    · rfl
  | protection b p sum overRun =>
    refine ⟨fun _ => rfl, fun c => ?_⟩
    rw [State.summing, State.setProtection_protection]
    split
    · next own => rw [own, sum, overRun]; rfl
    · rfl
  | _ => exact .of_same rfl rfl rfl

theorem Moves.sameMeasures (moves : Moves s t) : s.SameMeasures t := by
  induction moves with
  | refl => exact .refl s
  | tail _ move ih => exact ih.trans move.sameMeasures

/-! ### The links' turns -/

theorem State.endSweep_sameMeasures (s : State) (x : Link) (c : SweepContext) (reason : StopReason) :
    s.SameMeasures (s.endSweep x c reason) := .of_same rfl rfl rfl

theorem State.keepSweep_sameMeasures (s : State) (x : Link) (c : SweepContext) : s.SameMeasures (s.keepSweep x c) :=
  .ite (fun _ => s.endSweep_sameMeasures x c _) fun _ => .of_same rfl rfl rfl

theorem State.sweepAction_sameMeasures (s : State) (x : Link) (k : Outlet) (c : SweepContext) :
    s.SameMeasures (s.sweepAction x k c).1 := by
  have switch (kind : Kind) (off : Nat) : s.SameMeasures (s.sweepSwitch x k kind off).1 :=
    ((Moves.refl s).switchAction x k kind off none true).sameMeasures
  have hold (holder : Option Link) : s.SameMeasures (s.setHold k holder) := .of_same rfl rfl rfl
  unfold State.sweepAction
  split
  · exact .refl s
  · exact switch _ _
  · exact switch _ _
  · exact switch _ _
  · split
    · exact .refl s
    · exact hold _
  · split
    · exact .refl s
    · exact hold _
  · split
    · exact .refl s
    · exact ((Moves.refl s).heartbeatAt k).sameMeasures

theorem State.examine_sameMeasures (s : State) (x : Link) (c : SweepContext) : s.SameMeasures (s.examine x c) := by
  refine .ite (fun _ => ?_) fun _ => s.keepSweep_sameMeasures x _
  have acted := s.sweepAction_sameMeasures x c.cursor c
  unfold State.sweepMatch
  split
  · next s1 action =>
    rw [action] at acted
    exact acted.trans (.of_same rfl rfl rfl)
  · next s1 tally _ action =>
    rw [action] at acted
    exact acted.trans (.ite (fun _ => s1.endSweep_sameMeasures x _ _) fun _ => s1.keepSweep_sameMeasures x _)

theorem State.sweepTurn_sameMeasures (s : State) (x : Link) : s.SameMeasures (s.sweepTurn x) := by
  unfold State.sweepTurn
  split
  · exact .refl s
  · exact .ite (fun _ => .refl s) fun _ => s.examine_sameMeasures x _

theorem State.leavePresent_sameMeasures (s : State) (x : Link) (p : Presence) : s.SameMeasures (s.leavePresent x p) := by
  have lapsed : s.SameMeasures (s.lapseHolds x p.lapseCause) := .ite (fun _ => .of_same rfl rfl rfl) fun _ => .refl s
  unfold State.leavePresent State.abortSweep
  split
  · exact lapsed
  · exact lapsed.trans (State.endSweep_sameMeasures ..)

theorem State.changePresence_sameMeasures (s : State) (x : Link) (p : Presence) : s.SameMeasures (s.changePresence x p) := by
  have placed : s.SameMeasures (s.setPort x ((s.port x).withPresence p)) := .of_same rfl rfl rfl
  have left : s.SameMeasures (s.presenceEntered x p) :=
    .ite (fun _ => placed.trans (State.leavePresent_sameMeasures ..)) fun _ => placed
  have dropped : s.SameMeasures (if p = .absent then (s.presenceEntered x p).dropBank x else s.presenceEntered x p) :=
    .ite (fun _ => left.trans (.of_same rfl rfl rfl)) fun _ => left
  exact dropped.trans (.of_same rfl rfl rfl)

theorem State.countBad_sameMeasures (s : State) (x : Link) : s.SameMeasures (s.countBad x) := by
  have counted : s.SameMeasures (s.setPort x { s.port x with badFrames := holdUp Config.byteMax (s.port x).badFrames }) :=
    .of_same rfl rfl rfl
  exact .ite (fun _ => counted.trans (State.changePresence_sameMeasures ..)) fun _ => counted

/-! ### The turns -/

/-- Every turn but a close measures nothing. -/
theorem State.turn_sameMeasures (s : State) {c : Turn} (other : ∀ f, c ≠ .closes f) : s.SameMeasures (s.turn c) := by
  have moves : Moves s s := .refl s
  cases c with
  | feedState f => exact (moves.feedStateTurn f).sameMeasures
  | closes f => exact absurd rfl (other f)
  | evidence k => exact .ite (fun _ => (moves.evidence k).sameMeasures) fun _ => .refl s
  | overcurrent b => exact .ite (fun _ => (moves.overcurrentStage b).sameMeasures) fun _ => .refl s
  | trip k => exact .ite (fun _ => (moves.tripTest k).sameMeasures) fun _ => .refl s
  | admission b => exact .ite (fun _ => (moves.sequencerStage b).sameMeasures) fun _ => .refl s
  | breakerCause b => exact (moves.breakerTurn b).sameMeasures
  | returns b => exact (moves.returnsTurn b).sameMeasures
  | settles b => exact (moves.settleRestoring b).sameMeasures
  | grace k => exact (moves.graceTurn k).sameMeasures
  | driver k => exact (moves.driverTurn k).sameMeasures
  | leaving k => exact (moves.leavingTurn k).sameMeasures
  | request k => exact (moves.requestTurn k).sameMeasures
  | monitor k => exact (moves.monitorTurn k).sameMeasures
  | sweep x => exact s.sweepTurn_sameMeasures x
  | stall x =>
    have abandoned : s.SameMeasures (s.setPort x { (s.port x).quiet with stallDue := false, acked := false }) := .of_same rfl rfl rfl
    exact .ite (fun _ => abandoned.trans (State.countBad_sameMeasures ..)) fun _ => .refl s
  | timeout x => exact .ite (fun _ => .ite (fun _ => s.changePresence_sameMeasures x .absent) fun _ => .refl s) fun _ => .refl s

/-! ### A close -/

/-- An arrival's sample taken into an outlet's open cycle (R33). -/
def State.sampling (s : State) (k : Outlet) (p : Meter × Energy) : Meter × Energy :=
  (p.1.addSample (look s.handed.volts (s.feedOf k)) (look s.handed.amps k) (look s.handed.aClip k), p.2)

/-- An outlet's part in a close of its feed's cycle (R35, R43, R56). -/
def State.closing (s : State) (k : Outlet) (n : CloseNotice) (p : Meter × Energy) : Meter × Energy :=
  match (s.tracker (s.feedOf k)).cycleResult with
  | none => p
  | some fc => (p.1.close n.window fc (s.tracker (s.feedOf k)).windowResult s.settings.noLoad s.stamp, p.2.stage p.1 fc s.settings.creep)

/-- What an arrival makes of an outlet's measures (R33). -/
def State.arriving (s : State) (k : Outlet) (p : Meter × Energy) : Meter × Energy :=
  match (s.tracker (s.feedOf k)).notice.close with
  | none => s.sampling k p
  | some n =>
    match n.kind with
    | .crossing => s.sampling k (s.closing k n p)
    | .synthetic => s.closing k n (s.sampling k p)

theorem State.closing_none {n : CloseNotice} (none : (s.tracker (s.feedOf k)).cycleResult = none) (p : Meter × Energy) :
    s.closing k n p = p := by
  simp only [State.closing, none]

theorem State.closing_some {n : CloseNotice} {fc : FeedCycle} (result : (s.tracker (s.feedOf k)).cycleResult = some fc)
    (p : Meter × Energy) : s.closing k n p = (p.1.close n.window fc (s.tracker (s.feedOf k)).windowResult s.settings.noLoad s.stamp,
      p.2.stage p.1 fc s.settings.creep) := by
  simp only [State.closing, result]

theorem State.arriving_open (quiet : (s.tracker (s.feedOf k)).notice.close = none) (p : Meter × Energy) :
    s.arriving k p = s.sampling k p := by
  simp only [State.arriving, quiet]

theorem State.arriving_crossing {n : CloseNotice} (close : (s.tracker (s.feedOf k)).notice.close = some n) (kind : n.kind = .crossing)
    (p : Meter × Energy) : s.arriving k p = s.sampling k (s.closing k n p) := by
  simp only [State.arriving, close, kind]

theorem State.arriving_synthetic {n : CloseNotice} (close : (s.tracker (s.feedOf k)).notice.close = some n) (kind : n.kind = .synthetic)
    (p : Meter × Energy) : s.arriving k p = s.closing k n (s.sampling k p) := by
  simp only [State.arriving, close, kind]

theorem Meter.measured_close (m : Meter) (d : WindowDirection) (fc : FeedCycle) (fw : Option FeedWindow) (threshold : Nat)
    (stamp : Timestamp) : (m.close d fc fw threshold stamp).measured = m.measured.close d fc fw threshold stamp := by
  have action : (m.windowAction d fw threshold stamp).measured = m.measured.windowAction d fw threshold stamp := by
    unfold Meter.windowAction
    rw [show m.measured.formsCycle = m.formsCycle from rfl, show m.measured.waiting = m.waiting from rfl]
    split
    · cases d with
      | addAndClose => cases fw <;> rfl
      | _ => rfl
    · rfl
  rw [Meter.close, Meter.close, ← action]
  rfl

theorem State.meterSample_metering (s : State) (k j : Outlet) :
    (s.meterSample k).metering j = if j = k then s.sampling k (s.metering k) else s.metering j := by
  rw [State.metering, State.meterSample, State.setMeter_meter]
  split
  · next own => rw [own]; rfl
  · rfl

theorem State.meterClose_metering (s : State) (k j : Outlet) (n : CloseNotice) :
    (s.meterClose k n).metering j = if j = k then s.closing k n (s.metering k) else s.metering j := by
  unfold State.meterClose
  split
  · next none =>
    rw [State.closing_none none]
    split
    · next own => rw [own]
    · rfl
  · next fc result =>
    rw [State.metering, State.setMeter_meter, State.setMeter_energyOf, State.setEnergy_energyOf, State.closing_some result]
    split
    · exact Prod.ext (Meter.measured_close ..) rfl
    · rfl

theorem State.meterSample_inputs (s : State) (k : Outlet) : (s.meterSample k).inputs = s.inputs := rfl

theorem State.meterClose_inputs (s : State) (k : Outlet) (n : CloseNotice) : (s.meterClose k n).inputs = s.inputs := by
  unfold State.meterClose
  split <;> rfl

theorem State.feedOf_of_inputs (inputs : t.inputs = s.inputs) (k : Outlet) : t.feedOf k = s.feedOf k :=
  State.feedOf_of_settings (congrArg Inputs.settings inputs :) k

theorem State.branchFeedOf_of_inputs (inputs : t.inputs = s.inputs) (b : Branch) : t.branchFeedOf b = s.branchFeedOf b := by
  rw [State.branchFeedOf, show t.settings = s.settings from congrArg Inputs.settings inputs]
  rfl

theorem State.tracker_of_inputs (inputs : t.inputs = s.inputs) (f : Feed) : t.tracker f = s.tracker f :=
  (congrArg (fun i : Inputs => look i.trackers f) inputs :)

theorem State.sampling_of_inputs (inputs : t.inputs = s.inputs) (k : Outlet) (p : Meter × Energy) : t.sampling k p = s.sampling k p := by
  rw [State.sampling, State.feedOf_of_inputs inputs, show t.handed = s.handed from congrArg Inputs.handed inputs]
  rfl

theorem State.closing_of_inputs (inputs : t.inputs = s.inputs) (k : Outlet) (n : CloseNotice) (p : Meter × Energy) :
    t.closing k n p = s.closing k n p := by
  unfold State.closing
  rw [State.feedOf_of_inputs inputs, State.tracker_of_inputs inputs, show t.settings = s.settings from congrArg Inputs.settings inputs,
    show t.stamp = s.stamp from congrArg Inputs.stamp inputs]

theorem State.arriving_of_inputs (inputs : t.inputs = s.inputs) (k : Outlet) (p : Meter × Energy) : t.arriving k p = s.arriving k p := by
  unfold State.arriving
  simp only [State.feedOf_of_inputs inputs, State.tracker_of_inputs inputs, State.sampling_of_inputs inputs, State.closing_of_inputs inputs]

theorem State.meterArrival_inputs (s : State) (k : Outlet) : (s.meterArrival k).inputs = s.inputs :=
  ((Within.refl (m := 0) s).meterArrival k).inputs

theorem State.meterArrival_metering (s : State) (k j : Outlet) :
    (s.meterArrival k).metering j = if j = k then s.arriving k (s.metering k) else s.metering j := by
  unfold State.meterArrival
  split
  · next quiet => rw [State.arriving_open quiet, s.meterSample_metering]
  · next n close =>
    split
    · next kind =>
      rw [State.arriving_crossing close kind, State.meterSample_metering, State.meterClose_metering, State.meterClose_metering, if_pos rfl,
        State.sampling_of_inputs (s.meterClose_inputs k n)]
      split <;> rfl
    · next kind =>
      rw [State.arriving_synthetic close kind, State.meterClose_metering, State.meterSample_metering, State.meterSample_metering,
        if_pos rfl, State.closing_of_inputs (s.meterSample_inputs k)]
      split <;> rfl

/-! ### The branch sums at a close -/

/-- The sum of the latest cycle currents of a branch's outlets, by their measures (R124). -/
def State.sumOf (s : State) (b : Branch) (measures : Outlet → Meter × Energy) : Nat :=
  ((s.outletsOf b).map fun k => ((measures k).1.cycleResult.map (·.imA)).getD 0).sum

theorem State.branchSum_eq (s : State) (b : Branch) : s.branchSum b = s.sumOf b s.metering := rfl

theorem State.sumOf_of_inputs (inputs : t.inputs = s.inputs) (b : Branch) (measures : Outlet → Meter × Energy) :
    t.sumOf b measures = s.sumOf b measures := by
  have settings : t.settings = s.settings := (congrArg Inputs.settings inputs :)
  simp only [State.sumOf, State.outletsOf, State.branchOf, settings]

/-- A branch's sum and run after a sum (R124, R125). -/
def State.summed (s : State) (b : Branch) (sum : Nat) (p : Option Nat × Nat) : Option Nat × Nat :=
  (some sum, nextOverRun (look s.settings.branchLimit b) sum p.2)

theorem State.formSum_summing (s : State) (b c : Branch) :
    (s.formSum b).summing c = if c = b then s.summed b (s.sumOf b s.metering) (s.summing b) else s.summing c := by
  rw [State.summing, State.formSum, State.setProtection_protection]
  split <;> rfl

theorem State.mem_branchesOfFeed : b ∈ s.branchesOfFeed f ↔ s.branchFeedOf b = f := by
  have all : b ∈ allBranches := by fin_cases b <;> decide
  simp only [State.branchesOfFeed, List.mem_filter, all, true_and, beq_iff_eq]

theorem State.nodup_branchesOfFeed (s : State) (f : Feed) : (s.branchesOfFeed f).Nodup :=
  List.Nodup.filter _ (by decide)

/-- The sums of a feed's branches formed one after another. -/
theorem State.formSums_summing (s : State) (f : Feed) (b : Branch) : ((s.branchesOfFeed f).foldl State.formSum s).summing b =
    if s.branchFeedOf b = f then s.summed b (s.sumOf b s.metering) (s.summing b) else s.summing b := by
  have each := State.foldl_read (s := s) (read := State.summing) (visit := State.formSum)
    (same := fun u => u.inputs = s.inputs ∧ u.metering = s.metering)
    (change := fun b p => s.summed b (s.sumOf b s.metering) p)
    (fun u b h => h) (fun u b h => by
      rw [u.formSum_summing, if_pos rfl, h.2, State.sumOf_of_inputs h.1, State.summed,
        show u.settings = s.settings from congrArg Inputs.settings h.1]
      rfl)
    (fun u b c _ ne => by rw [u.formSum_summing, if_neg ne]) (s.nodup_branchesOfFeed f) ⟨rfl, rfl⟩ b
  simp only [State.mem_branchesOfFeed] at each
  exact each

theorem State.formSums_metering (s : State) (l : List Branch) : (l.foldl State.formSum s).metering = s.metering := by
  induction l generalizing s with
  | nil => rfl
  | cons b l ih => exact (ih _).trans rfl

/-- The meters of a feed at an arrival. -/
theorem State.meterArrivals_metering (s : State) (f : Feed) (k : Outlet) :
    ((s.outletsOfFeed f).foldl State.meterArrival s).metering k =
      if s.feedOf k = f then s.arriving k (s.metering k) else s.metering k := by
  have each := State.foldl_read (s := s) (read := State.metering) (visit := State.meterArrival) (same := fun u => u.inputs = s.inputs)
    (change := fun k p => s.arriving k p) (fun u k h => (u.meterArrival_inputs k).trans h)
    (fun u k h => by rw [u.meterArrival_metering, if_pos rfl, State.arriving_of_inputs h])
    (fun u k j _ ne => by rw [u.meterArrival_metering, if_neg ne]) (s.nodup_outletsOfFeed f) rfl k
  simp only [State.mem_outletsOfFeed] at each
  exact each

theorem State.meterArrivals_rest (s : State) (l : List Outlet) : (l.foldl State.meterArrival s).inputs = s.inputs ∧
    (l.foldl State.meterArrival s).summing = s.summing := by
  refine ⟨(Within.foldl (fun u k => (Within.refl u).meterArrival k) l (Within.refl (m := 0) s)).inputs, ?_⟩
  induction l generalizing s with
  | nil => rfl
  | cons k l ih =>
    refine (ih _).trans ?_
    unfold State.meterArrival State.meterClose
    split
    · rfl
    · split <;> split <;> rfl

/-- What a feed's turn for its close measures: each of its outlets takes the arrival, and where its cycle closed its branches' sums
are formed of them (R21, R33, R124). -/
theorem State.turn_closes (s : State) (f : Feed) :
    (∀ k, (s.turn (.closes f)).metering k = if s.feedOf k = f then s.arriving k (s.metering k) else s.metering k) ∧
    ∀ b, (s.turn (.closes f)).summing b = if s.branchFeedOf b = f ∧ (s.tracker f).notice.close.isSome = true then
      s.summed b (s.sumOf b (s.turn (.closes f)).metering) (s.summing b) else s.summing b := by
  obtain ⟨u, isU⟩ : ∃ u, u = State.note ((s.outletsOfFeed f).foldl State.meterArrival s)
    fun h => { h with formed := h.formed ++ (s.outletsOfFeed f).filter s.formsWindow } := ⟨_, rfl⟩
  obtain ⟨inputs, summing⟩ := s.meterArrivals_rest (s.outletsOfFeed f)
  have inputsU : u.inputs = s.inputs := by rw [isU]; exact inputs
  have summingU : u.summing = s.summing := by rw [isU]; exact summing
  have branches : s.branchesOfFeed f = u.branchesOfFeed f := by
    simp only [State.branchesOfFeed, State.branchFeedOf_of_inputs inputsU]
  have turn : s.turn (.closes f) = if (s.tracker f).notice.close.isSome then (u.branchesOfFeed f).foldl State.formSum u else u := by
    rw [← branches, isU]
    rfl
  have meteringU : (s.turn (.closes f)).metering = u.metering := by
    rw [turn]
    split
    · exact u.formSums_metering _
    · rfl
  rw [meteringU]
  refine ⟨fun k => by rw [isU]; exact s.meterArrivals_metering f k, fun b => ?_⟩
  rw [turn]
  split
  · next closed =>
    rw [u.formSums_summing, State.branchFeedOf_of_inputs inputsU, State.sumOf_of_inputs inputsU, summingU, State.summed,
      show u.settings = s.settings from congrArg Inputs.settings inputsU]
    simp only [closed, and_true]
    rfl
  · next closed => rw [if_neg fun h => closed h.2, summingU]

/-! ### Each feed's close has one turn -/

theorem nodup_eraseDups {α : Type} [BEq α] [LawfulBEq α] : ∀ l : List α, l.eraseDups.Nodup
  | [] => List.nodup_nil
  | a :: l => by
    rw [List.eraseDups_cons, List.nodup_cons]
    refine ⟨fun mem => ?_, nodup_eraseDups _⟩
    have kept := (List.mem_filter.mp (List.mem_eraseDups.mp mem)).2
    rw [beq_self_eq_true] at kept
    exact absurd kept nofun
  termination_by l => l.length
  decreasing_by exact Nat.lt_succ_of_le (List.length_filter_le ..)

theorem count_withSettles {c : Turn} (plain : isSettles c = false) (due : Option Branch) (ts : List Turn) :
    (withSettles due ts).count c = ts.count c := by
  have away (b : Branch) : (Turn.settles b == c) = false := by
    refine beq_eq_false_iff_ne.mpr fun same => ?_
    rw [← same] at plain
    exact absurd plain nofun
  induction ts generalizing due with
  | nil =>
    cases due with
    | none => rfl
    | some b => rw [withSettles, List.count_cons, away]; rfl
  | cons t ts ih =>
    cases due with
    | none => rw [withSettles, List.count_cons, ih, List.count_cons]
    | some b =>
      rw [withSettles]
      split
      · rw [List.count_cons, ih, List.count_cons]
      · rw [List.count_cons, away, List.count_cons, ih, List.count_cons]
        rfl

theorem count_closes_allTurns (f : Feed) : allTurns.count (.closes f) = 1 := by
  fin_cases f <;> decide

theorem State.count_closes_turnsOf (s : State) (o : ArrivalOrder) (f : Feed) : (s.turnsOf o).count (.closes f) = 1 := by
  obtain ⟨first, isFirst⟩ : ∃ first, first = ((o.first.filter fun t => !isSettles t).flatMap s.withNeeds).eraseDups := ⟨_, rfl⟩
  have nodup : first.Nodup := isFirst ▸ nodup_eraseDups _
  rw [State.turnsOf, ← isFirst, count_withSettles rfl, List.count_append]
  by_cases named : Turn.closes f ∈ first
  · rw [List.count_eq_one_of_mem nodup named, List.count_eq_zero_of_not_mem fun mem => ?_]
    have fresh := (List.mem_filter.mp mem).2
    rw [List.contains_iff_mem.mpr named] at fresh
    exact absurd fresh nofun
  · rw [List.count_eq_zero_of_not_mem named, List.count_filter (by simpa using named), count_closes_allTurns]

/-- Turns of which one makes `Q` of `P`, which the others keep. -/
theorem State.turns_once {P Q : State → Prop} {a : Turn} (before : ∀ u c, c ≠ a → P u → P (u.turn c))
    (made : ∀ u, P u → Q (u.turn a)) (after : ∀ u c, c ≠ a → Q u → Q (u.turn c)) {ts : List Turn} (once : ts.count a = 1) (h : P s) :
    Q (ts.foldl State.turn s) := by
  have keeps : ∀ {ts : List Turn} {u : State}, ts.count a = 0 → Q u → Q (ts.foldl State.turn u) := fun {ts} {u} none hu => by
    induction ts generalizing u with
    | nil => exact hu
    | cons c ts ih =>
      obtain ⟨ne, out⟩ := not_or.mp (mt List.mem_cons.mpr (List.count_eq_zero.mp none))
      exact ih (List.count_eq_zero.mpr out) (after u c (Ne.symm ne) hu)
  induction ts generalizing s with
  | nil => exact absurd once nofun
  | cons c ts ih =>
    rw [List.foldl_cons]
    rw [List.count_cons] at once
    by_cases own : c = a
    · rw [own]
      rw [if_pos (beq_iff_eq.mpr own)] at once
      exact keeps (Nat.succ_inj.mp once) (made s h)
    · rw [if_neg (mt beq_iff_eq.mp own)] at once
      exact ih once (before s c own h)

/-! ### What an arrival measures -/

/-- `u` has the inputs of `p`, and feed `f`'s outlets and branches have the measures given. -/
structure State.MeasuresOf (p : State) (f : Feed) (meters : Outlet → Meter × Energy) (sums : Branch → Option Nat × Nat) (u : State) :
    Prop where
  inputs : u.inputs = p.inputs
  meters : ∀ k, p.feedOf k = f → u.metering k = meters k
  sums : ∀ b, p.branchFeedOf b = f → u.summing b = sums b

variable {p : State} {meters : Outlet → Meter × Energy} {sums : Branch → Option Nat × Nat}

theorem State.turn_inputs (u : State) (c : Turn) : (u.turn c).inputs = u.inputs := ((Within.refl (m := 0) u).turn c).inputs

/-- Every turn but the feed's own close leaves the feed's measures. -/
theorem State.MeasuresOf.turn (h : p.MeasuresOf f meters sums u) {c : Turn} (other : c ≠ .closes f) :
    p.MeasuresOf f meters sums (u.turn c) := by
  refine ⟨(u.turn_inputs c).trans h.inputs, fun k feed => ?_, fun b feed => ?_⟩
  · refine Eq.trans ?_ (h.meters k feed)
    by_cases closes : ∃ g, c = .closes g
    · obtain ⟨g, rfl⟩ := closes
      rw [(u.turn_closes g).1, if_neg]
      rw [State.feedOf_of_inputs h.inputs, feed]
      exact fun same => other (congrArg Turn.closes same.symm)
    · exact (u.turn_sameMeasures fun g eq => closes ⟨g, eq⟩).metering k
  · refine Eq.trans ?_ (h.sums b feed)
    by_cases closes : ∃ g, c = .closes g
    · obtain ⟨g, rfl⟩ := closes
      rw [(u.turn_closes g).2, if_neg]
      rw [State.branchFeedOf_of_inputs h.inputs, feed]
      exact fun both => other (congrArg Turn.closes both.1.symm)
    · exact (u.turn_sameMeasures fun g eq => closes ⟨g, eq⟩).summing b

theorem State.sumOf_congr {m m' : Outlet → Meter × Energy} (same : ∀ k, s.branchOf k = b → m k = m' k) : s.sumOf b m = s.sumOf b m' := by
  unfold State.sumOf
  exact congrArg List.sum (List.map_congr_left fun k mem => by rw [same k (mem_outletsOf.mp mem)])

/-- A branch's sum and run after an arrival whose outlets then have the measures given (R124, R125). -/
def State.arrivedSum (p : State) (b : Branch) (meters : Outlet → Meter × Energy) (old : Option Nat × Nat) : Option Nat × Nat :=
  if (p.tracker (p.branchFeedOf b)).notice.close.isSome = true then p.summed b (p.sumOf b meters) old else old

/-- The feed's own close takes the arrival to its outlets, and forms the sums of its branches. -/
theorem State.MeasuresOf.closes (h : p.MeasuresOf f meters sums u) : p.MeasuresOf f (fun k => p.arriving k (meters k))
    (fun b => p.arrivedSum b (fun k => p.arriving k (meters k)) (sums b)) (u.turn (.closes f)) := by
  have arrived (k : Outlet) (feed : p.feedOf k = f) : (u.turn (.closes f)).metering k = p.arriving k (meters k) := by
    rw [(u.turn_closes f).1, if_pos ((State.feedOf_of_inputs h.inputs k).trans feed), State.arriving_of_inputs h.inputs, h.meters k feed]
  refine ⟨(u.turn_inputs _).trans h.inputs, arrived, fun b feed => ?_⟩
  have sum : u.sumOf b (u.turn (.closes f)).metering = p.sumOf b fun k => p.arriving k (meters k) := by
    rw [State.sumOf_of_inputs h.inputs]
    exact State.sumOf_congr fun k branch => arrived k (by rw [State.feedOf, branch]; exact feed)
  rw [(u.turn_closes f).2, sum, State.branchFeedOf_of_inputs h.inputs, State.tracker_of_inputs h.inputs, h.sums b feed, State.arrivedSum,
    feed, State.summed, show u.settings = p.settings from congrArg Inputs.settings h.inputs]
  simp only [true_and]
  rfl

theorem State.takeTurns_measures (h : p.MeasuresOf f meters sums u) (o : ArrivalOrder) :
    p.MeasuresOf f (fun k => p.arriving k (meters k)) (fun b => p.arrivedSum b (fun k => p.arriving k (meters k)) (sums b))
      (u.takeTurns o) := by
  have run {ts : List Turn} (once : ts.count (.closes f) = 1) : p.MeasuresOf f (fun k => p.arriving k (meters k))
      (fun b => p.arrivedSum b (fun k => p.arriving k (meters k)) (sums b)) (u.runTurns ts) := by
    have turned := State.turns_once (s := u) (P := p.MeasuresOf f meters sums) (fun _ _ other h => h.turn other)
      (fun _ h => h.closes) (fun _ _ other h => h.turn other) once h
    have same := ((Moves.refl (ts.foldl State.turn u)).arbitrate).sameMeasures
    exact ⟨(congrArg Fixed.inputs ((Acts.refl (ts.foldl State.turn u)).arbitrate).fixed).trans turned.inputs,
      fun k feed => (same.metering k).trans (turned.meters k feed), fun b feed => (same.summing b).trans (turned.sums b feed)⟩
  unfold State.takeTurns
  dsimp only
  split
  · exact run (by rw [List.count_filter rfl]; exact u.count_closes_turnsOf o f)
  · exact run (u.count_closes_turnsOf o f)

theorem State.SameMeasures.foldl {α : Type} {visit : State → α → State} (visits : ∀ u a, State.SameMeasures u (visit u a)) (l : List α)
    (h : s.SameMeasures t) : s.SameMeasures (l.foldl visit t) := by
  induction l generalizing t with
  | nil => exact h
  | cons a l ih => exact ih (h.trans (visits t a))

theorem State.secondsPass_sameMeasures (s : State) : s.SameMeasures s.secondsPass := by
  refine ⟨fun _ => rfl, fun b => ?_⟩
  rw [State.summing, State.protection, State.secondsPass, look_tab6, Protection.timerFall]
  split <;> rfl

theorem State.sampleLines_sameMeasures (s : State) (low : PerLink Bool) : s.SameMeasures (s.sampleLines low) := .of_same rfl rfl rfl

theorem State.closeArrival_measures (s : State) :
    s.closeArrival.metering = s.metering ∧ s.closeArrival.summing = s.summing ∧
      s.closeArrival.inputs = { s.inputs with trackers := s.closeArrival.trackers } := ⟨rfl, rfl, rfl⟩

/-- Before its turns an arrival measures nothing. -/
theorem State.takeArrival_sameMeasures (s : State) (set : SampleSet) : s.SameMeasures (s.takeArrival set) := by
  have taken : s.SameMeasures (s.taken set) := by
    rw [State.taken, State.advanceClock_eq]
    exact .of_same rfl rfl rfl
  have passed := taken.foldl (fun u f => .of_same (t := u.trackerPass f) rfl rfl rfl) allFeeds
  have counted : s.SameMeasures (s.counted set) :=
    passed.trans (Moves.foldl (fun u k => (Moves.refl u).driverNotice k) allOutlets (.refl _)).sameMeasures
  rw [State.takeArrival_eq]
  split
  · exact (counted.trans (State.secondsPass_sameMeasures _)).trans (State.sampleLines_sameMeasures ..)
  · exact counted.trans (State.sampleLines_sameMeasures ..)

/-- What an arrival measures: each outlet takes its sample or its feed's close, and the branches of a feed that closes are summed. -/
theorem State.arrival_measures (runs : s.resetHeld = false) (set : SampleSet) (o : ArrivalOrder) :
    ∃ p : State, p = allFeeds.foldl State.trackerPass (s.taken set) ∧
      (s.arrival set o).inputs = { p.inputs with trackers := (s.arrival set o).trackers } ∧
      (∀ k, (s.arrival set o).metering k = p.arriving k (s.metering k)) ∧
      ∀ b, (s.arrival set o).summing b = p.arrivedSum b (s.arrival set o).metering (s.summing b) := by
  obtain ⟨p, isP⟩ : ∃ p, p = allFeeds.foldl State.trackerPass (s.taken set) := ⟨_, rfl⟩
  have before := s.takeArrival_sameMeasures set
  have inputs : (s.takeArrival set).inputs = p.inputs := (s.takeArrival_inputs set).trans (by rw [isP])
  obtain ⟨v, isV⟩ : ∃ v, v = (s.takeArrival set).takeTurns o := ⟨_, rfl⟩
  have closed : s.arrival set o = v.closeArrival := by rw [State.arrival, runs, isV]; rfl
  obtain ⟨metered, summed, rest⟩ := v.closeArrival_measures
  have turned (f : Feed) : p.MeasuresOf f (fun k => p.arriving k (s.metering k))
      (fun b => p.arrivedSum b (fun k => p.arriving k (s.metering k)) (s.summing b)) v :=
    isV ▸ State.takeTurns_measures ⟨inputs, fun k _ => before.metering k, fun b _ => before.summing b⟩ o
  rw [closed, metered, summed, rest, (turned 0).inputs]
  have metering (k : Outlet) : v.metering k = p.arriving k (s.metering k) := (turned (p.feedOf k)).meters k rfl
  refine ⟨p, isP, rfl, metering, fun b => ?_⟩
  rw [funext metering]
  exact (turned (p.branchFeedOf b)).sums b rfl

end Sys2Proof.Machine

/-! PROOF. The meters, the energy and the branch sums at a sample arrival (O13). -/

namespace Sys2Proof.Machine

variable {s t : State} {k : Outlet} {f : Feed} {b : Branch} {tr p : Tracker} {w n sv : Nat} {vClip synthetic : Bool} {kind : CloseKind}

/-! ### A tracker's close -/

/-- The pass `p` of `tr` closed a cycle of `n` samples with the sum of squares `sv` (R18 to R21, R25). -/
structure Tracker.Closed (tr p : Tracker) (w : Nat) (kind : CloseKind) (n sv : Nat) (vClip synthetic : Bool) : Prop where
  close : p.notice.close = some { kind := kind, n := n, window := tr.windowDirection w }
  cycle : p.cycleResult = some { vcV := isqrt (sv * 625 / (n * 256)), n := n, clip := vClip, synthetic := synthetic }
  window : tr.win.skip = false → 2 ^ w ≤ tr.win.count + 1 → p.windowResult = some
    { vcV := isqrt ((tr.win.sv + sv) * 625 / ((tr.win.total + n) * 256)), total := tr.win.total + n, length := 2 ^ w
      clip := tr.win.clip || vClip, synthetic := tr.win.synthetic || synthetic }

theorem Tracker.pass_closed_crossing {v : Int} (crossed : tr.armed = true ∧ 0 ≤ v ∧ 112 ≤ tr.cyc.n) (w c : Nat) (sample : BitVec 32)
    (stamp : Timestamp) (clip : Bool) :
    tr.Closed (tr.pass w c sample stamp v clip) w .crossing tr.cyc.n tr.cyc.sv tr.cyc.clip false := by
  obtain ⟨-, -, -, crossing, -⟩ := trackerPassClosesCycles tr w c sample stamp v clip
  obtain ⟨⟨close, -⟩, -, -, -, -, cycle, -, -, -, -, -, -, ⟨-, -, window⟩, -⟩ := crossing crossed
  exact ⟨close, cycle, fun plain full => (window plain full).2⟩

theorem Tracker.pass_closed_synthetic {v : Int} (rejected : ¬(tr.armed = true ∧ 0 ≤ v ∧ 112 ≤ tr.cyc.n)) (long : 192 ≤ tr.cyc.n + 1)
    (w c : Nat) (sample : BitVec 32) (stamp : Timestamp) (clip : Bool) : tr.Closed (tr.pass w c sample stamp v clip) w .synthetic
      (tr.cyc.n + 1) (tr.cyc.sv + (v * v).toNat) (tr.cyc.clip || clip) true := by
  obtain ⟨-, -, -, -, synthetic, -⟩ := trackerPassClosesCycles tr w c sample stamp v clip
  obtain ⟨⟨close, -⟩, -, -, -, -, -, -, cycle, -, -, -, -, -, window⟩ := synthetic rejected long
  exact ⟨close, cycle, fun plain full => (window plain full).2⟩

theorem Tracker.pass_quiet {v : Int} (rejected : ¬(tr.armed = true ∧ 0 ≤ v ∧ 112 ≤ tr.cyc.n)) (short : tr.cyc.n + 1 < 192)
    (w c : Nat) (sample : BitVec 32) (stamp : Timestamp) (clip : Bool) : (tr.pass w c sample stamp v clip).notice = tr.notice := by
  obtain ⟨-, -, -, -, -, still⟩ := trackerPassClosesCycles tr w c sample stamp v clip
  exact (still rejected short).1

/-! ### The figures of a result -/

/-- The figures of a result over `n` samples, by the formulas of R36 to R39. -/
def FiguresOf (threshold : Nat) (pmW : Int) (imA smVA : Nat) (pf : Int) (noLoad : Bool) (sp : Int) (si sv n : Nat) : Prop :=
  pmW = roundedQuotient (sp * 1000) (n * 65536) ∧ imA = isqrt (si * 15625 / (n * 16384)) ∧
  smVA = (roundedQuotient ((isqrt (sv * 625 / (n * 256)) * imA : Nat) : Int) 100).toNat ∧
  (noLoad = true ↔ imA < threshold ∨ smVA = 0) ∧ (noLoad = true → pf = 0) ∧
  (noLoad = false → smVA < pmW.natAbs → pf = if pmW < 0 then -1000 else 1000) ∧
  (noLoad = false → pmW.natAbs ≤ smVA → pf = roundedQuotient (pmW * 1000) smVA)

theorem noLoadOf_iff (threshold imA smVA : Nat) : noLoadOf threshold imA smVA = true ↔ imA < threshold ∨ smVA = 0 := by
  rw [noLoadOf, Bool.or_eq_true, decide_eq_true_iff, beq_iff_eq]

theorem figuresOf_formulas (threshold : Nat) (sp : Int) (si sv n : Nat) :
    let vcV := isqrt (sv * 625 / (n * 256))
    FiguresOf threshold (pmwOf sp n) (imaOf si n) (smvaOf vcV (imaOf si n))
      (pfOf threshold (imaOf si n) (smvaOf vcV (imaOf si n)) (pmwOf sp n)) (noLoadOf threshold (imaOf si n) (smvaOf vcV (imaOf si n)))
      sp si sv n := by
  refine ⟨rfl, rfl, rfl, noLoadOf_iff .., fun none => if_pos none, fun loaded above => ?_, fun loaded within => ?_⟩
  · exact (if_neg (by rw [loaded]; exact nofun)).trans (if_pos above)
  · exact (if_neg (by rw [loaded]; exact nofun)).trans (if_neg (Nat.not_lt.mpr within))

/-! ### A meter's close -/

/-- `m'` and `e'` are what a close makes of the meter `m` and the registers `e`, by R35, R43, R46 and R56. -/
def Meter.ClosedAs (m : Meter) (e : Energy) (m' : Meter) (e' : Energy) (tr : Tracker) (w n sv : Nat) (vClip synthetic : Bool)
    (threshold creep : Nat) (stamp : Timestamp) : Prop :=
  m'.skip = false ∧ (m'.waiting = true ↔ m.waiting = true ∧ tr.win.skip = false ∧ ¬2 ^ w ≤ tr.win.count + 1) ∧
  (m.skip = true → m'.cycleResult = m.cycleResult ∧ e' = e) ∧
  (m.skip = false → ∃ r, m'.cycleResult = some r ∧
    FiguresOf threshold r.pmW r.imA r.smVA r.pf r.noLoad m.sp m.si sv n ∧
    r.n = n ∧ r.clip = (m.clip || vClip) ∧ r.synthetic = synthetic ∧ r.stamp = stamp ∧
    e' = if creep ≤ r.pmW.natAbs then e.add m.sp else e) ∧
  (m.skip = true ∨ m.waiting = true ∨ tr.win.skip = true →
    m'.wsp = m.wsp ∧ m'.wsi = m.wsi ∧ m'.wclip = m.wclip ∧ m'.windowResult = m.windowResult) ∧
  (m.skip = false → m.waiting = false → tr.win.skip = false → ¬2 ^ w ≤ tr.win.count + 1 →
    m'.wsp = m.wsp + m.sp ∧ m'.wsi = m.wsi + m.si ∧ m'.wclip = (m.wclip || m.clip) ∧ m'.windowResult = m.windowResult) ∧
  (m.skip = false → m.waiting = false → tr.win.skip = false → 2 ^ w ≤ tr.win.count + 1 →
    m'.wsp = 0 ∧ m'.wsi = 0 ∧ m'.wclip = false ∧ ∃ r, m'.windowResult = some r ∧
      FiguresOf threshold r.pmW r.imA r.smVA r.pf r.noLoad (m.wsp + m.sp) (m.wsi + m.si) (tr.win.sv + sv) (tr.win.total + n) ∧
      r.total = tr.win.total + n ∧ r.length = 2 ^ w ∧ r.clip = ((m.wclip || m.clip) || (tr.win.clip || vClip)) ∧
      r.synthetic = (tr.win.synthetic || synthetic) ∧ r.stamp = stamp)

/-- The windows of a meter that leaves its cycle out (R43, R46). -/
theorem Meter.windowAction_left {m : Meter} {d : WindowDirection} (out : m.skip = true ∨ m.waiting = true ∨ d = .leaveOut)
    (fw : Option FeedWindow) (threshold : Nat) (stamp : Timestamp) : m.windowAction d fw threshold stamp = m := by
  unfold Meter.windowAction
  split
  · next joins =>
    obtain ⟨forms, joined⟩ := (Bool.and_eq_true ..).mp joins
    rcases out with skips | waits | rfl
    · rw [Meter.formsCycle, skips] at forms; exact absurd forms nofun
    · rw [waits] at joined; exact absurd joined nofun
    · rfl
  · rfl

theorem Meter.windowAction_joined {m : Meter} (forms : m.skip = false) (joined : m.waiting = false) (fw : Option FeedWindow)
    (threshold : Nat) (stamp : Timestamp) : m.windowAction .add fw threshold stamp = m.addToWindow ∧
      m.windowAction .addAndClose fw threshold stamp = m.addToWindow.closeWindow fw threshold stamp := by
  have joins : (m.formsCycle && !m.waiting) = true := by rw [Meter.formsCycle, forms, joined]; rfl
  exact ⟨if_pos joins, if_pos joins⟩

theorem Tracker.windowDirection_skip (skips : tr.win.skip = true) (w : Nat) : tr.windowDirection w = .leaveOut := if_pos skips

theorem Tracker.windowDirection_close (plain : tr.win.skip = false) (full : 2 ^ w ≤ tr.win.count + 1) :
    tr.windowDirection w = .addAndClose := (if_neg (Bool.eq_false_iff.mp plain)).trans (if_pos full)

theorem Tracker.windowDirection_add : tr.windowDirection w = .add ↔ tr.win.skip = false ∧ ¬2 ^ w ≤ tr.win.count + 1 := by
  cases skip : tr.win.skip with
  | true => simp only [Tracker.windowDirection_skip skip, reduceCtorEq, false_and]
  | false =>
    by_cases full : 2 ^ w ≤ tr.win.count + 1
    · simp only [Tracker.windowDirection_close skip full, full, reduceCtorEq, not_true_eq_false, and_false]
    · have adds : tr.windowDirection w = .add := (if_neg (Bool.eq_false_iff.mp skip)).trans (if_neg full)
      simp only [adds, full, not_false_eq_true, and_self]

/-- A close of a tracker's cycle, for one meter. -/
theorem Meter.close_closedAs (closed : tr.Closed p w kind n sv vClip synthetic) (m : Meter) (e : Energy) (threshold creep : Nat)
    (stamp : Timestamp) {d : CloseNotice} {fc : FeedCycle} (notice : p.notice.close = some d) (result : p.cycleResult = some fc) :
    m.ClosedAs e (m.close d.window fc p.windowResult threshold stamp) (e.stage m fc creep) tr w n sv vClip synthetic threshold
      creep stamp := by
  obtain rfl := Option.some.inj (notice.symm.trans closed.close)
  obtain rfl := Option.some.inj (result.symm.trans closed.cycle)
  refine ⟨rfl, ?_, fun skips => ⟨?_, ?_⟩, fun forms => ⟨_, if_pos (by rw [Meter.formsCycle, forms]; rfl), figuresOf_formulas .., rfl, rfl, rfl,
    rfl, ?_⟩, fun out => ?_, fun forms joined plain open' => ?_, fun forms joined plain full => ?_⟩
  · show (m.waiting && _ == WindowDirection.add) = true ↔ _
    rw [Bool.and_eq_true, beq_iff_eq, Tracker.windowDirection_add]
  · exact if_neg (by rw [Meter.formsCycle, skips]; exact nofun)
  · exact if_neg (by rw [Meter.formsCycle, skips]; exact nofun)
  · show e.stage m _ creep = if creep ≤ (pmwOf m.sp n).natAbs then e.add m.sp else e
    rw [Energy.stage, Meter.formsCycle, forms]
    simp only [Bool.not_false, Bool.true_and, decide_eq_true_eq]
  · have stays := Meter.windowAction_left (m := m) (out.imp_right fun h => h.imp_right fun skips => Tracker.windowDirection_skip skips w)
      (fw := p.windowResult) (threshold := threshold) (stamp := stamp)
    exact ⟨(congrArg Meter.wsp stays :), (congrArg Meter.wsi stays :), (congrArg Meter.wclip stays :), (congrArg Meter.windowResult stays :)⟩
  · have adds : m.windowAction (tr.windowDirection w) p.windowResult threshold stamp = m.addToWindow := by
      rw [Tracker.windowDirection_add.mpr ⟨plain, open'⟩]
      exact (Meter.windowAction_joined forms joined ..).1
    exact ⟨(congrArg Meter.wsp adds :), (congrArg Meter.wsi adds :), (congrArg Meter.wclip adds :), (congrArg Meter.windowResult adds :)⟩
  · have closes : m.windowAction (tr.windowDirection w) p.windowResult threshold stamp = m.addToWindow.closeWindow p.windowResult threshold stamp := by
      rw [Tracker.windowDirection_close plain full]
      exact (Meter.windowAction_joined forms joined ..).2
    have ended := closes.trans (congrArg (m.addToWindow.closeWindow · threshold stamp) (closed.window plain full))
    exact ⟨(congrArg Meter.wsp ended :), (congrArg Meter.wsi ended :), (congrArg Meter.wclip ended :), _, (congrArg Meter.windowResult ended :),
      figuresOf_formulas .., rfl, rfl, rfl, rfl, rfl⟩

/-! ### The over-limit run -/

theorem nextOverRun_eq (limit sum run : Nat) : nextOverRun limit sum run =
    if limit = 0 ∨ sum ≤ limit then 0 else if 255 ≤ run then 255 else run + 1 := by
  unfold nextOverRun
  by_cases none : limit = 0
  · rw [if_pos none, if_pos (.inl none)]
  · by_cases above : limit < sum
    · rw [if_neg none, if_pos above, if_neg (not_or.mpr ⟨none, Nat.not_le.mpr above⟩)]
      rfl
    · rw [if_neg none, if_neg above, if_pos (.inr (Nat.not_lt.mp above))]

/-! ### The arrival -/

/-- An arrival's passes, with the values it hands on. -/
theorem State.arrival_passes (runs : s.resetHeld = false) (set : SampleSet) (o : ArrivalOrder) :
    ∃ p : State, (∀ f, ∃ c sample stamp, p.tracker f = (s.tracker f).pass (look s.settings.windowExp f) c sample stamp
        (look (s.arrival set o).handed.volts f) (look (s.arrival set o).handed.vClip f)) ∧
      p.settings = s.settings ∧ p.handed = (s.arrival set o).handed ∧ p.stamp = (s.arrival set o).stamp ∧
      (∀ k, (s.arrival set o).metering k = p.arriving k (s.metering k)) ∧
      ∀ b, (s.arrival set o).summing b = p.arrivedSum b (s.arrival set o).metering (s.summing b) := by
  obtain ⟨p, isP, inputs, metering, summing⟩ := State.arrival_measures runs set o
  have handed : (s.arrival set o).handed = p.handed := (congrArg Inputs.handed inputs :)
  have stamp : (s.arrival set o).stamp = p.stamp := (congrArg Inputs.stamp inputs :)
  have settings : (s.taken set).settings = s.settings := by rw [State.taken, State.advanceClock_eq]; rfl
  have trackers : (s.taken set).trackers = s.trackers := by rw [State.taken, State.advanceClock_eq]; rfl
  refine ⟨p, fun f => ⟨look s.settings.divider f, (s.taken set).sampleCounter, (s.taken set).stamp, ?_⟩, by rw [isP]; exact settings, handed.symm, stamp.symm, metering, summing⟩
  rw [handed, isP, State.trackerPasses_tracker, settings, State.tracker, trackers]
  rfl

/-- Settles O13: what the arrival's close of each feed makes of its outlets and its branches. -/
theorem cycleCloseFormsResultsAndSums : Obligations.CycleCloseFormsResultsAndSums := by
  intro set o s runs quiet
  obtain ⟨p, passes, settings, handed, stamp, metering, summing⟩ := State.arrival_passes runs set o
  obtain ⟨t, isT⟩ : ∃ t, t = s.arrival set o := ⟨_, rfl⟩
  rw [← isT] at passes handed stamp metering summing
  refine ⟨t, congrArg Host.Outcome.next isT.symm, fun k => ?_, fun b => ?_⟩
  · obtain ⟨c, sample, st, pass⟩ := passes (s.feedOf k)
    have feed : p.feedOf k = s.feedOf k := State.feedOf_of_settings settings k
    have sampled (x : Meter × Energy) : p.sampling k x = (x.1.addSample (look t.handed.volts (s.feedOf k)) (look t.handed.amps k)
        (look t.handed.aClip k), x.2) := by rw [State.sampling, handed, feed]
    have made := metering k
    have apart : ((s.tracker (s.feedOf k)).notice.close = none) := congrArg Notice.close (quiet _)
    have closing (x : Meter × Energy) {kind : CloseKind} {n sv : Nat} {vClip synthetic : Bool}
        (closed : (s.tracker (s.feedOf k)).Closed (p.tracker (s.feedOf k)) (look s.settings.windowExp (s.feedOf k)) kind n sv vClip synthetic) :
        ∃ d : CloseNotice, (p.tracker (p.feedOf k)).notice.close = some d ∧ d.kind = kind ∧
          x.1.ClosedAs x.2 (p.closing k d x).1 (p.closing k d x).2 (s.tracker (s.feedOf k)) (look s.settings.windowExp (s.feedOf k)) n sv
            vClip synthetic s.settings.noLoad s.settings.creep t.stamp ∧
          (p.closing k d x).1.sp = 0 ∧ (p.closing k d x).1.si = 0 ∧ (p.closing k d x).1.clip = false := by
      refine ⟨_, by rw [feed]; exact closed.close, rfl, ?_⟩
      rw [State.closing_some (by rw [feed]; exact closed.cycle), feed, settings, stamp]
      exact ⟨Meter.close_closedAs closed _ _ _ _ _ closed.close closed.cycle, rfl, rfl, rfl⟩
    refine ⟨fun rejected short => ?_, fun crossed => ?_, fun rejected long => ?_⟩
    · have still : (p.tracker (p.feedOf k)).notice.close = none := by
        rw [feed, pass, Tracker.pass_quiet rejected short]
        exact apart
      rw [State.arriving_open still, sampled] at made
      exact ⟨(congrArg (·.1.sp) made :), (congrArg (·.1.si) made :), (congrArg (·.1.clip) made :), (congrArg (·.1.cycleResult) made :),
        (congrArg (·.1.windowResult) made :), (congrArg (·.1.wsp) made :), (congrArg (·.1.wsi) made :), (congrArg (·.1.wclip) made :),
        (congrArg (·.1.skip) made :), (congrArg (·.1.waiting) made :), (congrArg (·.2) made :)⟩
    · obtain ⟨d, close, kind, closed, sp, si, clip⟩ := closing (s.metering k)
        (by rw [pass]; exact Tracker.pass_closed_crossing crossed ..)
      rw [State.arriving_crossing close kind, sampled] at made
      obtain ⟨q, isQ⟩ : ∃ q, q = p.closing k d (s.metering k) := ⟨_, rfl⟩
      rw [← isQ] at made closed sp si clip
      have same : (s.metering k).1.ClosedAs (s.metering k).2 (t.metering k).1 (t.metering k).2 (s.tracker (s.feedOf k))
          (look s.settings.windowExp (s.feedOf k)) (s.tracker (s.feedOf k)).cyc.n (s.tracker (s.feedOf k)).cyc.sv
          (s.tracker (s.feedOf k)).cyc.clip false s.settings.noLoad s.settings.creep t.stamp := by
        rw [made]
        exact closed
      refine ⟨(congrArg (·.1.sp) made :).trans ?_, (congrArg (·.1.si) made :).trans ?_, (congrArg (·.1.clip) made :).trans ?_, same⟩
      · exact (congrArg (· + _) sp).trans (Int.zero_add _)
      · exact (congrArg (· + _) si).trans (Nat.zero_add _)
      · exact (congrArg (· || _) clip).trans (Bool.false_or _)
    · obtain ⟨d, close, kind, closed, sp, si, clip⟩ := closing (p.sampling k (s.metering k))
        (by rw [pass]; exact Tracker.pass_closed_synthetic rejected long ..)
      rw [State.arriving_synthetic close kind] at made
      rw [← made, sampled] at closed
      rw [← made] at sp si clip
      exact ⟨sp, si, clip, closed⟩
  · obtain ⟨c, sample, st, pass⟩ := passes (s.branchFeedOf b)
    have feed : p.branchFeedOf b = s.branchFeedOf b := by rw [State.branchFeedOf, settings]; rfl
    have made := summing b
    have limits : p.sumOf b t.metering = s.sumOf b t.metering := by
      simp only [State.sumOf, State.outletsOf, State.branchOf, settings]
    rw [State.arrivedSum, feed, pass, State.summed, limits, settings, nextOverRun_eq] at made
    refine ⟨fun closes => ?_, fun rejected short => ?_⟩
    · have isClosed : ((s.tracker (s.branchFeedOf b)).pass (look s.settings.windowExp (s.branchFeedOf b)) c sample st
          (look t.handed.volts (s.branchFeedOf b)) (look t.handed.vClip (s.branchFeedOf b))).notice.close.isSome = true := by
        by_cases crossed : (s.tracker (s.branchFeedOf b)).armed = true ∧ 0 ≤ look t.handed.volts (s.branchFeedOf b) ∧
            112 ≤ (s.tracker (s.branchFeedOf b)).cyc.n
        · rw [(Tracker.pass_closed_crossing crossed ..).close]; rfl
        · rw [(Tracker.pass_closed_synthetic crossed (closes.resolve_left crossed) ..).close]; rfl
      rw [if_pos isClosed] at made
      exact ⟨congrArg Prod.fst made, congrArg Prod.snd made⟩
    · rw [Tracker.pass_quiet rejected short, quiet, if_neg (by exact nofun)] at made
      exact ⟨congrArg Prod.fst made, congrArg Prod.snd made⟩

end Sys2Proof.Machine
